-- ==== Sys2Proof/Word.lean ====
section
/-! DEFINITION. The plain words of the HX-220: bytes, 16-bit sequence numbers, audio samples, cells. -/

namespace Sys2Proof

/-- One byte of the control link or of a cell. -/
abbrev Byte := BitVec 8

/-- A 16-bit sequence number, compared modulo 65536 (00 section 6). -/
abbrev Seq16 := BitVec 16

/-- The 80 signed 16-bit samples of a voice frame, oldest first (R118). -/
abbrev Samples := Vector (BitVec 16) 80

/-- A payload cell: a fixed unit of 64 bytes (02 section 2.6). -/
abbrev PayloadCell := Vector Byte 64

/-- The 6-byte access code of a privileged maintenance request (R162). -/
abbrev AccessCode := Vector Byte 6

end Sys2Proof
end

