-- ==== Sys2Proof/Config.lean ====
section
/-! DEFINITION. Free values: what the manual leaves open and no proof may rest on. -/

namespace Sys2Proof

/-- The choice the part makes where the manual says "either may be taken first" and no command
decides: applied to the counter of free values drawn (log 10). -/
opaque Config.freeChoice : Nat → Nat

/-- The check value FLG computes from the contents of the retained record: present flag, code, uptime,
start count, two details. R158 gives no way of computing it (log 8). -/
opaque Config.retainedCheck : Bool → Nat → Nat → Nat → BitVec 32 → BitVec 32 → BitVec 32

/-- The built-in ladder a defaulted LINK block is filled with, by rung number and field: the manual gives the
ranges of a ladder (R54) and no built-in ladder (log 25). Field 0 tells whether the rung is present; fields
1 to 6 are the rates, margin, interleave depth, impulse protection and power class. -/
opaque Config.builtInLadder : Nat → Nat → Nat

end Sys2Proof
end

