-- ==== Sys2Proof/Syntax.lean ====
section
/-! DEFINITION. The commands of the HX-220: one constructor for every row of spec/opcode_table.json.
Host requests carry the tag of their frame and their raw argument bytes, which the meaning decodes by
R192 and R202; every other row carries what its event brings. -/

namespace Sys2Proof

/-- Handset port 1 (house) or 2 (outbuilding). -/
inductive PortId where
  | one
  | two
  deriving DecidableEq, Repr

/-- A line fault of a port's house wiring (R85). -/
inductive WiringFault where
  | overcurrent
  | foreignVoltage
  deriving DecidableEq, Repr

/-- A fault of the ring supply (R114). -/
inductive SupplyFaultKind where
  | overload
  | short
  deriving DecidableEq, Repr

/-- LTX's report of one second in CARRYING (R46). -/
structure LineReport where
  blocks : Nat
  unguarded : Nat
  guarded : Nat
  margin : Nat
  signalLost : Bool
  deriving DecidableEq, Repr

/-- A command: one row of the table of operations and events. -/
inductive Instr where
  /-- Host request HEARTBEAT (R198). -/
  | heartbeat (tag : Byte) (args : List Byte)
  /-- Host request GET_STATUS (R198). -/
  | getStatus (tag : Byte) (args : List Byte)
  /-- Host request PART_RESET (R199). -/
  | partReset (tag : Byte) (args : List Byte)
  /-- Host request SLEEP (R183). -/
  | sleep (tag : Byte) (args : List Byte)
  /-- Host request NOTICE_MASK (R194). -/
  | noticeMask (tag : Byte) (args : List Byte)
  /-- Host request SETTING_GET (R208). -/
  | settingGet (tag : Byte) (args : List Byte)
  /-- Host request SETTING_PUT (R208). -/
  | settingPut (tag : Byte) (args : List Byte)
  /-- Host request SETTINGS_SAVE (R210). -/
  | settingsSave (tag : Byte) (args : List Byte)
  /-- Host request SETTINGS_LOCK (R211). -/
  | settingsLock (tag : Byte) (args : List Byte)
  /-- Host request LINK_ENABLE (R35). -/
  | linkEnable (tag : Byte) (args : List Byte)
  /-- Host request LINK_DISABLE (R36). -/
  | linkDisable (tag : Byte) (args : List Byte)
  /-- Host request LINK_RETRAIN (R38). -/
  | linkRetrain (tag : Byte) (args : List Byte)
  /-- Host request LINK_RUNG_SET (R39). -/
  | linkRungSet (tag : Byte) (args : List Byte)
  /-- Host request LINK_STATUS (R37). -/
  | linkStatus (tag : Byte) (args : List Byte)
  /-- Host request LINK_HISTORY (R53). -/
  | linkHistory (tag : Byte) (args : List Byte)
  /-- Host request LIFELINE_SELECT (R13). -/
  | lifelineSelect (tag : Byte) (args : List Byte)
  /-- Host request PORT_ENABLE (R88). -/
  | portEnable (tag : Byte) (args : List Byte)
  /-- Host request PORT_DISABLE (R87). -/
  | portDisable (tag : Byte) (args : List Byte)
  /-- Host request PORT_RING (R78). -/
  | portRing (tag : Byte) (args : List Byte)
  /-- Host request PORT_CONNECT (R81). -/
  | portConnect (tag : Byte) (args : List Byte)
  /-- Host request PORT_RELEASE (R81). -/
  | portRelease (tag : Byte) (args : List Byte)
  /-- Host request PORT_TONE (R104). -/
  | portTone (tag : Byte) (args : List Byte)
  /-- Host request PORT_DIGITS_READ (R76). -/
  | portDigitsRead (tag : Byte) (args : List Byte)
  /-- Host request PORT_STATUS (R93). -/
  | portStatus (tag : Byte) (args : List Byte)
  /-- Host request SEQ_PAUSE (R105). -/
  | seqPause (tag : Byte) (args : List Byte)
  /-- Host request SEQ_RESUME (R106). -/
  | seqResume (tag : Byte) (args : List Byte)
  /-- Host request SEQ_STOP (R107). -/
  | seqStop (tag : Byte) (args : List Byte)
  /-- Host request RING_SUPPLY_RESET (R116). -/
  | ringSupplyReset (tag : Byte) (args : List Byte)
  /-- Host request TEST_REQUEST (R134). -/
  | testRequest (tag : Byte) (args : List Byte)
  /-- Host request TEST_CANCEL (R145). -/
  | testCancel (tag : Byte) (args : List Byte)
  /-- Host request TEST_RESULT (R142). -/
  | testResult (tag : Byte) (args : List Byte)
  /-- Host request FAULT_READ (R155). -/
  | faultRead (tag : Byte) (args : List Byte)
  /-- Host request FAULT_ACK (R156). -/
  | faultAck (tag : Byte) (args : List Byte)
  /-- Host request FAULT_PURGE (R157). -/
  | faultPurge (tag : Byte) (args : List Byte)
  /-- Host request RETAINED_READ (R160). -/
  | retainedRead (tag : Byte) (args : List Byte)
  /-- Host request RETAINED_CLEAR (R160). -/
  | retainedClear (tag : Byte) (args : List Byte)
  /-- Host request REMOTE_STATUS (R172). -/
  | remoteStatus (tag : Byte) (args : List Byte)
  /-- Host request REMOTE_COUNTS_CLEAR (R172). -/
  | remoteCountsClear (tag : Byte) (args : List Byte)
  /-- Host request POWER_STATUS (R187). -/
  | powerStatus (tag : Byte) (args : List Byte)
  /-- Host request SUPPLY_WATCH_SET (R186). -/
  | supplyWatchSet (tag : Byte) (args : List Byte)
  /-- A good REQUEST frame whose body is empty or whose code the catalogue does not hold (R192). -/
  | unknownRequestCode (tag : Byte) (body : List Byte)
  /-- A good VOICE_DOWN frame with its raw body (R119). -/
  | voiceDown (tag : Byte) (body : List Byte)
  /-- The bytes of a frame that fails its checks, from the length bytes to the CRC bytes (R189). -/
  | frameDiscard (bytes : List Byte)
  /-- RECEIVER_GAP (R189). -/
  | receiverGap
  /-- TRANSMITTER_FREE (R129). -/
  | transmitterFree
  /-- RESET_PIN (R199). -/
  | resetPin
  /-- Main power arrives; the inputs as they read, and whether the cell kept the retained record and the start count (R188). -/
  | powerOn (mains : Bool) (batteryMv : Nat) (enclosureOpen recordKept countKept : Bool)
  /-- POWER_LOSS (R19). -/
  | powerLoss
  /-- The read of the image is done; bit n: entry n could not be read although written well (bit 9: the lock record) (R206). -/
  | loadingDone (unreadable : BitVec 10)
  /-- A write and its read-back end; whether they compare (R210). -/
  | saveWriteDone (good : Bool)
  /-- COPPER_OFFHOOK (R8). -/
  | copperOffhook
  /-- COPPER_ONHOOK (R8). -/
  | copperOnhook
  /-- EXCHANGE_BURST_START (R9). -/
  | exchangeBurstStart
  /-- EXCHANGE_BURST_END (R9). -/
  | exchangeBurstEnd
  /-- EXCHANGE_RING_SESSION_END (R9). -/
  | exchangeRingSessionEnd
  /-- Hazard report with the highest pair voltage of the excursion (R10). -/
  | hazard (peakMv : Nat)
  /-- HAZARD_VOLTAGE_FALL (R10). -/
  | hazardVoltageFall
  /-- HAZARD_HOLD_END (R11). -/
  | hazardHoldEnd
  /-- PAIR_WAIT_LIMIT (R6). -/
  | pairWaitLimit
  /-- RELAY_MOVE_COMPLETE (R12). -/
  | relayMoveComplete
  /-- LINK_ABSENCE_EXPIRY (R16). -/
  | linkAbsenceExpiry
  /-- GREETED (R24). -/
  | greeted
  /-- REFUSED (R24). -/
  | refused
  /-- GREETING_TIMEOUT (R24). -/
  | greetingTimeout
  /-- Attained rates in kbit/s and margin in tenths of a dB (R25). -/
  | attained (down up margin : Nat)
  /-- NOT_ATTAINABLE (R25). -/
  | notAttainable
  /-- LOST (R25). -/
  | lost
  /-- TRAINING_TIMEOUT (R25). -/
  | trainingTimeout
  /-- SIGNAL_LOST (R28). -/
  | signalLost
  /-- SIGNAL_PRESENT (R28). -/
  | signalPresent
  /-- LOSS_TIMER (R28). -/
  | lossTimer
  /-- BACKOFF_RESET_TIME (R29). -/
  | backoffResetTime
  /-- CLOSE_ACK (R31). -/
  | closeAck
  /-- RELEASING_TIMEOUT (R31). -/
  | releasingTimeout
  /-- BACKOFF_END (R33). -/
  | backoffEnd
  /-- The router offers a cell (R34). -/
  | upstreamCell (cell : PayloadCell)
  /-- A cell arrives from the link (R34). -/
  | downstreamCell (cell : PayloadCell)
  /-- LOOPED_CELL (R170). -/
  | loopedCell
  /-- POWER_DROP_GRACE_EXPIRY (R42). -/
  | powerDropGraceExpiry
  /-- The line report of one second (R46). -/
  | lineReport (report : LineReport)
  /-- The end of an impulse event (R47). -/
  | impulseEvent (durationMs : Nat) (guarded : Bool)
  /-- RING_GUARD_CLOSE (R48). -/
  | ringGuardClose
  /-- The line report that is the sixtieth second of the interval (R52). -/
  | intervalClose (report : LineReport)
  /-- The line report that brings the consecutive-severe count to 10 (R50). -/
  | consecutiveSevereLimit (report : LineReport)
  /-- QUALITY_GRACE_EXPIRY (R57). -/
  | qualityGraceExpiry
  /-- DROP_WINDOW_EXPIRY (R58). -/
  | dropWindowExpiry
  /-- STORM_CLEAR_TIME (R61). -/
  | stormClearTime
  /-- The line report that brings the step-up clock to 21 600 (R62). -/
  | stepUpClockFull (report : LineReport)
  /-- TRIAL_WATCH_END (R63). -/
  | trialWatchEnd
  /-- The barrier of a rung expires (R65). -/
  | barrierExpiry (rung : Fin 8)
  /-- OFFHOOK_RECOGNISED (R71). -/
  | offhookRecognised (port : PortId)
  /-- Loop current returns after a break of this length (R72). -/
  | breakEnd (port : PortId) (lengthMs : Nat)
  /-- HANG_UP (R83). -/
  | hangUp (port : PortId)
  /-- PULSE_DIGIT_END (R73). -/
  | pulseDigitEnd (port : PortId)
  /-- A tone digit (0 to 9, *, #, A to D) present for 40 ms, which began gapMs after the tone pause reference (R74). -/
  | toneDigit (port : PortId) (digit : Fin 16) (gapMs : Nat)
  /-- TONE_DIGIT_END (R74). -/
  | toneDigitEnd (port : PortId)
  /-- RECEIVER_OFF_HOOK_TIMEOUT (R80). -/
  | receiverOffHookTimeout (port : PortId)
  /-- HOWLER_TIMEOUT (R84). -/
  | howlerTimeout (port : PortId)
  /-- The line sense reports a fault (R85). -/
  | lineFault (port : PortId) (kind : WiringFault)
  /-- LINE_FAULT_GONE (R86). -/
  | lineFaultGone (port : PortId)
  /-- FAULT_RETRY_TIMEOUT (R86). -/
  | faultRetryTimeout (port : PortId)
  /-- PORT_FAULT_HISTORY_EXPIRY (R85). -/
  | portFaultHistoryExpiry (port : PortId)
  /-- SEGMENT_END (R101). -/
  | segmentEnd (port : PortId)
  /-- CHARGE_DONE (R109). -/
  | chargeDone
  /-- SUPPLY_IDLE_TIMEOUT (R109). -/
  | supplyIdleTimeout
  /-- BURST_WAIT_TIMEOUT (R112). -/
  | burstWaitTimeout (port : PortId)
  /-- The output monitor reports a supply fault (R114). -/
  | supplyFault (kind : SupplyFaultKind)
  /-- SUPPLY_RETRY_TIMEOUT (R114). -/
  | supplyRetryTimeout
  /-- SUPPLY_FAULT_HISTORY_EXPIRY (R114). -/
  | supplyFaultHistoryExpiry
  /-- A tick of the frame clock, with the audio received from the phone in the 10 ms that end (R118). -/
  | frameTick (port : PortId) (audio : Samples)
  /-- The tick that brings the consecutive-underruns count to 5 (R126). -/
  | underrunLimit (port : PortId) (audio : Samples)
  /-- SETTLE_END (R137). -/
  | settleEnd
  /-- One sample of each value of the kind (R137). -/
  | measurePeriodEnd (samples : List Int)
  /-- The sixteenth sample of each value of the kind (R138). -/
  | repeatComplete (samples : List Int)
  /-- RETAINED_WRITE_DONE (R158). -/
  | retainedWriteDone
  /-- Maintenance request SUMMARY (R166). -/
  | summary (ref : Byte)
  /-- Maintenance request RESULT_READ (R166). -/
  | resultRead (ref : Byte) (kind : Byte)
  /-- Privileged maintenance request TEST_START (R169). -/
  | testStart (ref : Byte) (code : AccessCode) (kind repeats : Byte)
  /-- Privileged maintenance request LOOPBACK_START (R170). -/
  | loopbackStart (ref : Byte) (code : AccessCode) (minutes : Byte)
  /-- Privileged maintenance request LOOPBACK_STOP (R170). -/
  | loopbackStop (ref : Byte) (code : AccessCode)
  /-- A maintenance request of a kind MCR does not know (R164). -/
  | unknownMaintenanceRequest (ref : Byte)
  /-- An acknowledgement from the exchange unit (R164). -/
  | maintenanceAck (ref : Byte)
  /-- MAINTENANCE_ACK_TIMEOUT (R164). -/
  | maintenanceAckTimeout
  /-- ATTEMPT_WINDOW_EXPIRY (R168). -/
  | attemptWindowExpiry
  /-- LOCKOUT_END (R168). -/
  | lockoutEnd
  /-- LOOPBACK_EXPIRY (R171). -/
  | loopbackExpiry
  /-- The mains input changes (R175). -/
  | mainsInputChange (present : Bool)
  /-- MAINS_DEBOUNCE_EXPIRY (R175). -/
  | mainsDebounceExpiry
  /-- The once-a-second battery measurement (R176). -/
  | batteryReading (mv : Nat)
  /-- The battery measurement that brings a below count to 3 (R177). -/
  | thresholdMet (mv : Nat)
  /-- STAGE1_TIMEOUT (R178). -/
  | stage1Timeout
  /-- The enclosure switch input changes (R176). -/
  | enclosureInputChange (isOpen : Bool)
  /-- ENCLOSURE_DEBOUNCE_EXPIRY (R176). -/
  | enclosureDebounceExpiry
  /-- Mains present for 10 s in DORMANT; the battery as it reads, and what the cell kept (R182). -/
  | dormantWake (batteryMv : Nat) (recordKept countKept : Bool)
  /-- WAKE_DELAY_END (R185). -/
  | wakeDelayEnd
  /-- HOST_SILENCE_TIMEOUT (R196). -/
  | hostSilenceTimeout
  /-- UPSTREAM_CELL_SENT (R34). -/
  | upstreamCellSent
  /-- DOWNSTREAM_CELL_HANDED (R34). -/
  | downstreamCellHanded
  /-- The loop of a port's phone closes or opens (R71). -/
  | loopCurrentChange (port : PortId) (present : Bool)
  /-- A byte received in HUNT or SYNC (R189). -/
  | syncByte (byte : Byte)
  /-- LINE_ERROR (R189). -/
  | lineError
  deriving DecidableEq, Repr

end Sys2Proof
end

