-- ==== Sys2Proof/Machine/Types.lean ====
section
/-! DEFINITION. The records and enumerations of the twelve blocks, as plain data. The constructors of an
enumeration stand in the order in which its rule names the values, which is also its code (R201). -/

namespace Sys2Proof.Machine

open Sys2Proof

/-! ## Power (10) and faults (08) -/

/-- Holdover stage (R174). -/
inductive HoldStage where
  | mains | battery | conserve | lifeline
  deriving DecidableEq, Repr

/-- Power mode (R174). -/
inductive PowerMode where
  | active | quiescent | dormant
  deriving DecidableEq, Repr

/-- Cause of the last change of stage (R174). -/
inductive StageCause where
  | start | mainsAbsent | mainsPresent | stage1Time | conserveThreshold | lifelineThreshold
  deriving DecidableEq, Repr

/-- Wake cause (R185). -/
inductive WakeCause where
  | offHook | copperSide | exchangeRing | hazard | mains | stage | hostFrame
  deriving DecidableEq, Repr

/-- Severity of a fault, in rising order (R148). -/
inductive Severity where
  | info | minor | major | critical
  deriving DecidableEq, Repr

/-- Source of a fault (R148). -/
inductive Source where
  | mpt | pac | ltx | lks | hpc1 | hpc2 | seq1 | seq2 | rsc | ltu | flg | mcr | psv | sst
  deriving DecidableEq, Repr

/-- Fault code, in the order of R152's table. -/
inductive FaultCode where
  | hazardVoltage | noPermittedRung | linkDown | linkUnstable | linkFailing
  | portWiringFault | portWiringLatched | digitsLost | ringSupply
  | lineTestForeignVoltage | lineTestInsulation | lineTestCapacitance | lineTestQuietNoise
  | settingsBad | settingsSaveFailed | remoteIntrusion | hostSilent
  | mainsLost | batteryLow | batteryExhausted | enclosureOpen | retentionLost
  deriving DecidableEq, Repr

/-- A fault record (R148). The record is ACTIVE while `clearedAt` is none. -/
structure FaultRecord where
  seq : Seq16
  code : FaultCode
  source : Source
  severity : Severity
  firstAt : Nat
  lastAt : Nat
  count : Nat
  detail : List (BitVec 32)
  clearedAt : Option Nat
  acked : Bool
  deriving DecidableEq, Repr

/-- Event of a FAULT notice (R154). -/
inductive FaultEvent where
  | created | merged | cleared
  deriving DecidableEq, Repr

/-- What a failed check of the retention domain lost (R159). -/
inductive RetentionLost where
  | record | count | both
  deriving DecidableEq, Repr

/-- The contents of a present retained record (R158). -/
structure RetainedFault where
  code : FaultCode
  uptime : Nat
  startCount : Nat
  detail0 : BitVec 32
  detail1 : BitVec 32
  deriving DecidableEq, Repr

/-- The retention domain (R158, R159). A record that is absent has its present flag clear and its other
fields zero. `recordGood`, `countGood`: the check value agrees with the contents. -/
structure Retention where
  record : Option RetainedFault
  recordGood : Bool
  startCount : Nat
  countGood : Bool
  deriving DecidableEq, Repr

/-- FLG (R148, R158, R159). `writing`: a write of the retained record is under way. -/
structure Flg where
  log : List FaultRecord
  next : Seq16
  dropped : Nat
  evicted : Nat
  retention : Retention
  writing : Bool
  lost : Option RetentionLost
  deriving DecidableEq, Repr

/-! ## The pair (01) -/

/-- State of a claim entry (R1). -/
inductive ClaimState where
  | free | waiting | held
  deriving DecidableEq, Repr

/-- Origin of a test (R1, R133). -/
inductive Origin where
  | host | remote | internal
  deriving DecidableEq, Repr

/-- Position of the lifeline relay (R12, R13). -/
inductive RelayPos where
  | copper | localPort
  deriving DecidableEq, Repr

/-- Reason for the last move into COPPER (R12). -/
inductive CopperReason where
  | host | linkDown | autonomous | power | start
  deriving DecidableEq, Repr

/-- Outcome of a deferred LOCAL request in a LIFELINE_POSITION notice (R12). -/
inductive DeferOutcome where
  | carriedOut | superseded | discarded
  deriving DecidableEq, Repr

/-- A claim entry (R1). -/
structure Claim where
  state : ClaimState
  since : Nat
  deriving DecidableEq, Repr

/-- What the TEST entry holds of its test while it is not FREE (R1). -/
structure TestClaimInfo where
  job : Nat
  origin : Origin
  disruptive : Bool
  deriving DecidableEq, Repr

/-- A relay move under way (R12): target, its end, the reason it will write if it ends in COPPER (R14),
and whether it carries out a deferred LOCAL request (R15). -/
structure RelayMove where
  target : RelayPos
  doneAt : Nat
  reason : CopperReason
  carriesOut : Bool
  deriving DecidableEq, Repr

/-- The relay record (R12). -/
structure Relay where
  pos : RelayPos
  move : Option RelayMove
  reason : CopperReason
  deferred : Bool
  deriving DecidableEq, Repr

/-- PAC (R1, R6 to R12, R16). `hazardHigh`: the pair voltage has not fallen below 120 V since the
last hazard. `absenceFrom` is none while the link-absence time is held at zero; `absenceTaken`: its 60 s have been
evaluated. -/
structure Pac where
  link : Claim
  lifeline : Claim
  test : Claim
  testInfo : Option TestClaimInfo
  releaseAsked : Bool
  waitEnd : Option Nat
  hazardEnd : Option Nat
  hazardHigh : Bool
  testRelayClosed : Bool
  copperOffHook : Bool
  copperActive : Bool
  ringSession : Bool
  ringBurst : Bool
  sessionEnd : Option Nat
  relay : Relay
  absenceFrom : Option Nat
  absenceTaken : Bool
  deriving DecidableEq, Repr

/-! ## The link (02) and its quality (03) -/

/-- Link state (R21). -/
inductive LinkState where
  | off | waiting | greeting | training | carrying | releasing
  deriving DecidableEq, Repr

/-- Wait reason (R21). -/
inductive WaitReason where
  | backoff | pair | noPermittedRung
  deriving DecidableEq, Repr

/-- Release destination (R21). -/
inductive ReleaseDest where
  | waiting | off
  deriving DecidableEq, Repr

/-- Drop reason (R21, R30). -/
inductive DropReason where
  | loss | quality | test | host | stepTrial | power | hazard | reset
  deriving DecidableEq, Repr

/-- Failed-attempt outcome (R21). -/
inductive FailOutcome where
  | greetingTimeout | refused | trainingTimeout | notAttainable | lost
  deriving DecidableEq, Repr

/-- What caused a change of link state (R21). -/
inductive LinkCause where
  | drop (r : DropReason)
  | failed (o : FailOutcome)
  | other
  deriving DecidableEq, Repr

/-- Power class of a rung (R54). -/
inductive PowerClass where
  | full | reduced
  deriving DecidableEq, Repr

/-- A rung record (R54). -/
structure RungRecord where
  number : Nat
  down : Nat
  up : Nat
  minMargin : Nat
  interleave : Nat
  protection : Nat
  power : PowerClass
  deriving DecidableEq, Repr

/-- The link parameters (R55). -/
structure LinkParams where
  severe : Nat
  quality : Nat
  stepUp : Bool
  deriving DecidableEq, Repr

/-- The attained figures (R21). -/
structure Attained where
  down : Nat
  up : Nat
  margin : Nat
  deriving DecidableEq, Repr

/-- Close of an interval record (R51). -/
inductive IntervalClosing where
  | complete
  | drop (r : DropReason)
  deriving DecidableEq, Repr

/-- An interval record (R51). -/
structure Interval where
  number : Seq16
  start : Nat
  rung : Nat
  clean : Nat
  errored : Nat
  severe : Nat
  lowMargin : Nat
  blocks : Nat
  unguarded : Nat
  guarded : Nat
  impulses : Nat
  guardedImpulses : Nat
  longest : Nat
  upCells : Nat
  downCells : Nat
  closing : Option IntervalClosing
  deriving DecidableEq, Repr

/-- Class of a second (R49). -/
inductive SecondClass where
  | clean | errored | severe
  deriving DecidableEq, Repr

/-- An entry of the drop window (R58), with its time in ms. -/
structure DropEntry where
  at_ : Nat
  reason : DropReason
  deriving DecidableEq, Repr

/-- A step-up trial (R63). `watchEnd` is none until the watch begins. -/
structure Trial where
  former : Nat
  target : Nat
  watchEnd : Option Nat
  deriving DecidableEq, Repr

/-- The payload port (R34). -/
structure Payload where
  up : List PayloadCell
  down : List PayloadCell
  sent : Nat
  handed : Nat
  overflow : Nat
  flushed : Nat
  deriving DecidableEq, Repr

/-- LKS, with what LTX last reported (R21, R28, R46 to R65). Times are in ms of the clock. `releaseWait`
is the backoff wait in s that follows the present RELEASING. -/
structure Lks where
  state : LinkState
  enabled : Bool
  wait : Option WaitReason
  dest : Option ReleaseDest
  lastDrop : Option DropReason
  lastFail : Option FailOutcome
  ladder : List RungRecord
  params : LinkParams
  rung : Nat
  backoff : Nat
  backoffEnd : Option Nat
  releaseWait : Option Nat
  carryingSince : Option Nat
  attained : Option Attained
  powerDropEnd : Option Nat
  attempts : Nat
  failures : Nat
  drops : Vector Nat 8
  greetingEnd : Option Nat
  trainingEnd : Option Nat
  lossEnd : Option Nat
  releasingEnd : Option Nat
  signalLost : Bool
  reportAt : Nat
  ringGuard : Option Nat
  consecutiveSevere : Nat
  interval : Option Interval
  history : List Interval
  nextInterval : Seq16
  retrainEnd : Option Nat
  window : List DropEntry
  stepClock : Nat
  trial : Option Trial
  barriers : Vector (Option Nat) 8
  payload : Payload
  deriving DecidableEq, Repr

/-! ## Handset ports (04) and voice (06) -/

/-- Port state (R67); the last three are HPC1's relay-driven states (R18). -/
inductive PortState where
  | disabled | idle | ringing | offhook | connected | howler | lockout | fault
  | switching | copperIdle | copperActive
  deriving DecidableEq, Repr

/-- Loop feed of a port: LOCKOUT's reduced feed shows the debouncer a hang-up and powers no keypad (R70). -/
inductive Feed where
  | none | reduced | full
  deriving DecidableEq, Repr

/-- Disable cause (R67). -/
inductive DisableCause where
  | request | power | unconfigured
  deriving DecidableEq, Repr

/-- Class of a break (R72). -/
inductive BreakClass where
  | glitch | dialPulse | indeterminate | flash | hangUp
  deriving DecidableEq, Repr

/-- Method of a digit record (R75). -/
inductive DigitMethod where
  | pulse | tone
  deriving DecidableEq, Repr

/-- A digit record (R75); digits 10 to 15 stand for *, #, A, B, C, D. -/
structure DigitRecord where
  digit : Fin 16
  method : DigitMethod
  uptime : Nat
  deriving DecidableEq, Repr

/-- A pulse digit in progress (R73): count, end of the inter-digit time, and whether that end has passed
and waits for the class of a break. -/
structure PulseDigit where
  count : Nat
  endAt : Nat
  endWaits : Bool
  deriving DecidableEq, Repr

/-- The settings of one port (R68). -/
structure PortSettings where
  offHookMs : Nat
  glitchMs : Nat
  pulseMs : Nat
  flashMs : Nat
  hangUpMs : Nat
  interDigitMs : Nat
  tonesInCall : Bool
  ringLoad : Nat
  prefill : Nat
  dialTone : Nat
  releaseTone : Nat
  howlerTone : Nat
  deriving DecidableEq, Repr

/-- The six counters of a port (R67). -/
structure PortCounts where
  stored : Nat
  overflow : Nat
  abandoned : Nat
  invalid : Nat
  flashes : Nat
  faults : Nat
  deriving DecidableEq, Repr

/-- Playout state (R120). -/
inductive PlayoutState where
  | idle | prefill | playing
  deriving DecidableEq, Repr

/-- A voice frame in a playout queue (R118, R120). -/
structure VoiceFrame where
  seq : Seq16
  samples : Samples
  deriving DecidableEq, Repr

/-- A capture frame with the time at which it was produced (R127, R128). -/
structure CaptureFrame where
  seq : Seq16
  samples : Samples
  producedAt : Nat
  deriving DecidableEq, Repr

/-- What the last slot played to the phone (R123 to R125), before any tone is added. -/
inductive Slot where
  | nothing
  | silence
  | audio (samples : Samples)
  deriving DecidableEq, Repr

/-- The voice counts of a port (R130). -/
structure VoiceCounts where
  played : Nat
  fills : Nat
  underruns : Nat
  returns : Nat
  notConnected : Nat
  late : Nat
  duplicate : Nat
  overflow : Nat
  produced : Nat
  discarded : Nat
  deriving DecidableEq, Repr

/-- The playout record and the capture side of a port (R118, R120, R127, R128). -/
structure Voice where
  state : PlayoutState
  queue : List VoiceFrame
  base : Option Seq16
  position : Option Seq16
  last : Option Samples
  fills : Nat
  underruns : Nat
  slot : Slot
  tickAt : Option Nat
  capture : List CaptureFrame
  captureSeq : Seq16
  counts : VoiceCounts
  deriving DecidableEq, Repr

/-- A port record (R67). Times are in ms. `loopClosed`: current would flow if the loop were fed, and
`loopSince` is when that last changed or when the sense last started (log 16). -/
structure Port where
  state : PortState
  cause : Option DisableCause
  fault : Option WiringFault
  latched : Bool
  offHook : Bool
  loopClosed : Bool
  loopSince : Nat
  pulse : Option PulseDigit
  tone : Option (Fin 16)
  toneEnd : Option Nat
  digits : List DigitRecord
  dialMarker : Bool
  autoMarker : Bool
  receiverEnd : Option Nat
  howlerEnd : Option Nat
  retryEnd : Option Nat
  retryOut : Bool
  wiringBad : Bool
  history : List Nat
  copy : Option PortSettings
  counts : PortCounts
  heldOffHook : Bool
  voice : Voice
  deriving DecidableEq, Repr

/-! ## Sequencers and ring supply (05) -/

/-- Kind of a segment (R96). -/
inductive SegKind where
  | ringOn
  | silence
  | tone (pair : Nat)
  deriving DecidableEq, Repr

/-- A segment (R96). -/
structure Segment where
  kind : SegKind
  durationMs : Nat
  isEnd : Bool
  mark : Bool
  hold : Bool
  deriving DecidableEq, Repr

/-- A program (R96). A repeat count of 0 means forever. -/
structure Program where
  segments : List Segment
  repeats : Nat
  stop : Option Nat
  deriving DecidableEq, Repr

/-- A tone pair (R97). -/
structure TonePair where
  first : Nat
  second : Nat
  level : Int
  deriving DecidableEq, Repr

/-- What the phone of a port hears: the audio of the playout queue and the tone added to it (R97). -/
structure PhoneAudio where
  playout : Slot
  tone : Option TonePair
  deriving DecidableEq, Repr

/-- State of a sequencer outside IDLE (R99). -/
inductive SeqPhase where
  | running | pausing | paused | waitingSupply | held
  deriving DecidableEq, Repr

/-- The program a sequencer runs (R99). `endAt` is the end of the segment in RUNNING and PAUSING, `left`
the remaining time in ms in the other states; `repeats` none stands for FOREVER. -/
structure SeqRun where
  phase : SeqPhase
  program : Nat
  segment : Nat
  endAt : Nat
  left : Nat
  repeats : Option Nat
  pass : Nat
  pending : Option Nat
  burst : Bool
  deriving DecidableEq, Repr

/-- A sequencer record (R99): IDLE while `run` is none. -/
structure Sequencer where
  run : Option SeqRun
  skipped : Nat
  deriving DecidableEq, Repr

/-- Cause of a program's end (R102). -/
inductive DoneCause where
  | completed | stopIndex | request | port
  deriving DecidableEq, Repr

/-- Supply state (R108). -/
inductive SupplyState where
  | off | charging | ready | faultRetry | faultLatched
  deriving DecidableEq, Repr

/-- An entry of the burst list or of the wait list, with the time of its grant or of its joining (R108). -/
structure RingEntry where
  port : PortId
  load : Nat
  at_ : Nat
  deriving DecidableEq, Repr

/-- RSC (R108). -/
structure Rsc where
  state : SupplyState
  capacity : Nat
  bursts : List RingEntry
  waits : List RingEntry
  idleEnd : Option Nat
  chargeEnd : Option Nat
  retryEnd : Option Nat
  history : List Nat
  granted : Nat
  skipped : Nat
  cut : Nat
  faults : Nat
  deriving DecidableEq, Repr

/-! ## Line tests (07) -/

/-- Test kind (R132). -/
inductive TestKind where
  | foreignVoltage | insulation | capacitance | quietNoise
  deriving DecidableEq, Repr

/-- Phase of a queue entry (R133). -/
inductive TestPhase where
  | queued | claiming | settle | measure
  deriving DecidableEq, Repr

/-- Status of a result (R141). -/
inductive TestStatus where
  | complete | partialResult | aborted | pairUnavailable | cancelled
  deriving DecidableEq, Repr

/-- Abort reason (R142). -/
inductive AbortReason where
  | lifeline | ringing | hazard | power | hostCancel | reset
  deriving DecidableEq, Repr

/-- Verdict of a value (R140). -/
inductive Verdict where
  | pass | marginal | fail
  deriving DecidableEq, Repr

/-- Disposition of an accepted test request (R134), in the order of R169 (log 12). -/
inductive Disposition where
  | queued | merged
  deriving DecidableEq, Repr

/-- Rounding mode of the TESTS block (R138). -/
inductive Rounding where
  | nearestEven | halfUp
  deriving DecidableEq, Repr

/-- An entry of the test queue (R133). -/
structure TestEntry where
  job : Nat
  kind : TestKind
  origin : Origin
  repeats : Nat
  disruptive : Bool
  arrival : Nat
  phase : TestPhase
  deriving DecidableEq, Repr

/-- Running aggregates of one value over the completed repeats (R139). -/
structure Aggregate where
  min : Int
  max : Int
  sum : Int
  saturated : Bool
  deriving DecidableEq, Repr

/-- The running test (R137 to R139): end of the settle, next sample, the sums of the repeat's samples with
their number, the aggregates, the repeats completed. -/
structure TestRun where
  settleEnd : Option Nat
  sampleAt : Option Nat
  sums : List Int
  taken : Nat
  aggregates : List Aggregate
  completed : Nat
  deriving DecidableEq, Repr

/-- One value of a result record (R142). -/
structure TestValue where
  min : Int
  max : Int
  mean : Int
  saturated : Bool
  verdict : Verdict
  deriving DecidableEq, Repr

/-- A result record (R142). -/
structure TestResult where
  job : Nat
  kind : TestKind
  origin : Origin
  status : TestStatus
  abort : Option AbortReason
  repeats : Nat
  completed : Nat
  values : List TestValue
  length : Option (Nat × Bool)
  worst : Option Verdict
  uptime : Nat
  deriving DecidableEq, Repr

/-- LTU (R133, R142). -/
structure Ltu where
  queue : List TestEntry
  nextJob : Nat
  run : Option TestRun
  results : Vector (Option TestResult) 4
  deriving DecidableEq, Repr

/-! ## Maintenance channel (09) -/

/-- Kind of a maintenance request (R164): the open ones (R166), then the privileged ones (R167), then the unknown
(log 12). -/
inductive MaintKind where
  | summary | resultRead | testStart | loopbackStart | loopbackStop | unknown
  deriving DecidableEq, Repr

/-- Response status (R162). -/
inductive MaintStatus where
  | done | busy | disabled | locked | wrongCode | busyVoice | badArgument | unknownRequest | noResult
  deriving DecidableEq, Repr

/-- LTU's answer to a test request (R134, R135, R169). -/
inductive TestAnswer where
  | accepted (d : Disposition) (job : Nat)
  | powerLimit
  | queueFull
  deriving DecidableEq, Repr

/-- Response data of a kind (R166, R169, R170). -/
inductive MaintData where
  | none
  | summary (rung : Nat) (newest : Option Interval) (codes : List (FaultCode × Source))
      (retained : Option RetainedFault) (check : BitVec 32) (stage : HoldStage)
  | result (r : TestResult)
  | test (a : TestAnswer)
  | loopback (restarted : Bool)
  | stopped (cells : Option Nat)
  deriving DecidableEq, Repr

/-- A maintenance response (R162). -/
structure MaintResponse where
  ref : Byte
  status : MaintStatus
  data : MaintData
  deriving DecidableEq, Repr

/-- The request in flight (R163), with the time of its acceptance in ms. -/
structure Flight where
  kind : MaintKind
  ref : Byte
  at_ : Nat
  deriving DecidableEq, Repr

/-- A running payload loopback (R163). -/
structure Loopback where
  endAt : Nat
  cells : Nat
  deriving DecidableEq, Repr

/-- Cause of a loopback's end (R171). -/
inductive LoopEnd where
  | expired | stopped | linkDrop | host | disabled | reset
  deriving DecidableEq, Repr

/-- MCR (R163). `outbox`: responses handed to LTX and not known to have been sent (log 21). -/
structure Mcr where
  flight : Option Flight
  window : List Nat
  total : Nat
  lockoutEnd : Option Nat
  loopback : Option Loopback
  accepted : Nat
  refusedBusy : Nat
  abandoned : Nat
  unacknowledged : Nat
  refusedDisabled : Nat
  refusedLocked : Nat
  outbox : List MaintResponse
  deriving DecidableEq, Repr

/-! ## Power record (10) -/

/-- A wake under way (R174, R185). -/
structure Wake where
  cause : WakeCause
  port : Option PortId
  endAt : Nat
  deriving DecidableEq, Repr

/-- The four supply conditions (R186), or a choice of them. -/
structure Conditions where
  mainsPresent : Bool
  batteryPresent : Bool
  batteryLow : Bool
  enclosureClosed : Bool
  deriving DecidableEq, Repr

/-- PSV (R174), with the inputs as they read. -/
structure Psv where
  stage : HoldStage
  stageSince : Nat
  cause : StageCause
  mainsInput : Bool
  mainsDeclared : Bool
  debounceEnd : Option Nat
  batteryInput : Nat
  battery : Nat
  readingAt : Nat
  belowConserve : Nat
  belowLifeline : Nat
  belowCutoff : Nat
  stage1From : Nat
  stage1End : Option Nat
  enclosureInputOpen : Bool
  enclosureOpen : Bool
  enclosureEnd : Option Nat
  mode : PowerMode
  wake : Option Wake
  quiescentSince : Nat
  sleepGranted : Bool
  stopping : Bool
  dormantWakeAt : Option Nat
  watchMask : Conditions
  watchPattern : Conditions
  matching : Bool
  stageChanges : Nat
  sleepsGranted : Nat
  sleepsRefused : Nat
  wakes : Nat
  deriving DecidableEq, Repr

/-! ## Settings (12) -/

/-- The nine settings blocks, in the order of their numbers (R201). -/
inductive BlockId where
  | ident | link | ports | tones | programs | tests | power | remote | control
  deriving DecidableEq, Repr

/-- IDENT (R205). -/
structure Ident where
  serial : BitVec 32
  variant : Byte
  deriving DecidableEq, Repr

/-- LINK (R54, R55). -/
structure LinkSettings where
  ladder : List RungRecord
  params : LinkParams
  deriving DecidableEq, Repr

/-- PORTS (R68). -/
structure PortsSettings where
  one : PortSettings
  two : PortSettings
  deriving DecidableEq, Repr

/-- A marginal and a fail limit (R140). -/
structure TestLimit where
  marginal : Nat
  fail : Nat
  deriving DecidableEq, Repr

/-- TESTS (R140): the limits of the thirteen values in the order of R132. -/
structure TestsSettings where
  limits : List TestLimit
  rounding : Rounding
  cable : Nat
  deriving DecidableEq, Repr

/-- POWER (R180). -/
structure PowerSettings where
  conserve : Nat
  lifeline : Nat
  cutoff : Nat
  stage1Min : Nat
  fastWake : Bool
  deriving DecidableEq, Repr

/-- REMOTE (R205). -/
structure RemoteSettings where
  code : AccessCode
  enable : Bool
  deriving DecidableEq, Repr

/-- CONTROL (R205). -/
structure ControlSettings where
  silenceS : Nat
  mask : BitVec 32
  threshold : Severity
  autoLifeline : Bool
  autostart : Bool
  autoTone : Nat
  deriving DecidableEq, Repr

/-- The contents of the nine blocks (R205). -/
structure Settings where
  ident : Ident
  link : LinkSettings
  ports : PortsSettings
  tones : List TonePair
  programs : List Program
  tests : TestsSettings
  power : PowerSettings
  remote : RemoteSettings
  control : ControlSettings
  deriving DecidableEq, Repr

/-- What SST keeps of a block beside its contents (R205). `good` is the load status GOOD. -/
structure BlockMeta where
  gen : Seq16
  dirty : Bool
  locked : Bool
  good : Bool
  deriving DecidableEq, Repr

/-- The image in the EEPROM (12 section 12.2): an entry is none where its CRC fails. The lock record
holds the flags of LINK and REMOTE. -/
structure Image where
  ident : Option (Ident × Seq16)
  link : Option (LinkSettings × Seq16)
  ports : Option (PortsSettings × Seq16)
  tones : Option (List TonePair × Seq16)
  programs : Option (List Program × Seq16)
  tests : Option (TestsSettings × Seq16)
  power : Option (PowerSettings × Seq16)
  remote : Option (RemoteSettings × Seq16)
  control : Option (ControlSettings × Seq16)
  locks : Option (Bool × Bool)
  deriving DecidableEq, Repr

/-- An item a save writes (R210). -/
inductive SaveItem where
  | block (b : BlockId)
  | lockRecord
  deriving DecidableEq, Repr

/-- A save under way (R210): the item being written, the blocks that follow, the results so far, and the
lock flags as they stood when the write of the lock record began. -/
structure SaveRun where
  item : SaveItem
  rest : List BlockId
  results : List (BlockId × Bool)
  locks : Bool × Bool
  deriving DecidableEq, Repr

/-- Store state (R205). -/
inductive StoreState where
  | idle
  | loading
  | saving (run : SaveRun)
  deriving DecidableEq, Repr

/-- Start reason (R207). -/
inductive StartReason where
  | powerOn | resetPin | resetRequest | mainsReturn
  deriving DecidableEq, Repr

/-- SST (R205, R206). -/
structure Sst where
  contents : Settings
  info : Vector BlockMeta 9
  store : StoreState
  reason : StartReason
  image : Image
  deriving DecidableEq, Repr

/-! ## The control link (11): notices, replies, frames -/

/-- Kind of a PORT_EVENT notice with its further fields (R69). -/
inductive PortEvent where
  | offhook
  | hungUp (left : Option PortState)
  | answered
  | flash (state : PortState)
  | digitsPending
  | faultEntered (kind : WiringFault)
  | faultLatched (kind : WiringFault)
  | faultRecovered (kind : WiringFault)
  deriving DecidableEq, Repr

/-- Kind of a RING_SUPPLY notice (R114 to R116). -/
inductive SupplyEvent where
  | retry (kind : SupplyFaultKind) (held : Nat)
  | latched (kind : SupplyFaultKind)
  | reset
  deriving DecidableEq, Repr

/-- Kind of a REMOTE_EVENT notice (R168 to R172). -/
inductive RemoteEvent where
  | wrongCode (kind : MaintKind) (total held : Nat) (lockout : Bool)
  | lockoutStarted
  | lockoutEnded
  | testAccepted (job : Nat) (d : Disposition)
  | loopbackStarted (minutes : Nat)
  | loopbackEnded (cause : LoopEnd) (cells : Nat)
  deriving DecidableEq, Repr

/-- Result of a block in SAVE_DONE (R210). -/
inductive WriteResult where
  | writtenGood | failed | notWritten
  deriving DecidableEq, Repr

/-- A notice (11 section 11.7), with the fields its rule gives it. -/
inductive Notice where
  | startReport (reason : StartReason) (startCount : Nat) (present : Bool)
      (lost : Option RetentionLost) (good locked : List Bool)
  | linkState (new prev : LinkState) (wait : Option WaitReason) (cause : LinkCause) (rung uptime : Nat)
      (attained : Option Attained) (backoff : Option Nat)
  | intervalEnd (record : Interval)
  | exchangeRing (started : Bool) (pos : RelayPos) (target : Option RelayPos) (uptime : Nat)
  | lifelinePosition (pos : RelayPos) (reason : CopperReason) (outcome : Option DeferOutcome)
  | portEvent (port : PortId) (event : PortEvent) (uptime : Nat) (copperSide : Bool)
  | seqMark (port : PortId) (program segment pass : Nat) (cutShort : Bool) (uptime : Nat)
  | seqDone (port : PortId) (program : Nat) (cause : DoneCause) (passes : Nat) (pending : Option Nat)
      (uptime : Nat)
  | ringSupply (event : SupplyEvent)
  | testDone (job : Nat) (kind : TestKind) (origin : Origin) (status : TestStatus)
      (abort : Option AbortReason) (completed repeats : Nat) (worst : Option Verdict) (uptime : Nat)
  | fault (event : FaultEvent) (record : FaultRecord)
  | remoteEvent (event : RemoteEvent) (uptime : Nat)
  | powerStage (new : HoldStage) (prev : Option HoldStage) (cause : StageCause) (battery uptime : Nat)
  | supplyWatch (conditions mask pattern : Conditions) (uptime : Nat)
  | wake (cause : WakeCause) (port : Option PortId) (uptime seconds : Nat)
  | autonomous (limit uptime : Nat)
  | autonomousEnd (uptime seconds : Nat)
  | saveDone (results : List WriteResult) (locks : WriteResult)
  | noticeOverrun (count : Nat)
  deriving DecidableEq, Repr

/-- Reply status (R192). -/
inductive Status where
  | ok | accepted | busy | wrongState | badArgument | locked | retry | queueFull | powerLimit
  | wrongGeneration | unknown | offHook
  deriving DecidableEq, Repr

/-- What takes effect when the last byte of a reply has been sent (R183, R199). -/
inductive AfterReply where
  | nothing | enterQuiescent | fullReset
  deriving DecidableEq, Repr

/-- A reply (R192): tag, request code, status, reply data. -/
structure Reply where
  tag : Byte
  code : Byte
  status : Status
  data : List Byte
  after : AfterReply
  deriving DecidableEq, Repr

/-- A frame in transmission (R129, R190). -/
inductive TxFrame where
  | reply (r : Reply)
  | voiceUp (port : PortId) (f : CaptureFrame)
  | notice (n : Notice)
  deriving DecidableEq, Repr

/-- Phase of the receiver (R189). -/
inductive RxPhase where
  | hunt | sync | frame
  deriving DecidableEq, Repr

/-- MPT (R189 to R196). -/
structure Mpt where
  rx : RxPhase
  rxLast : Nat
  lineErrors : Nat
  gapAbandons : Nat
  lengthErrors : Nat
  crcErrors : Nat
  unknownTypes : Nat
  discards : Nat
  replies : List Reply
  sending : Option TxFrame
  notices : List Notice
  lost : Nat
  malformed : Nat
  mask : BitVec 32
  silenceEnd : Option Nat
  autonomous : Bool
  autonomousSince : Nat
  held : List Instr
  deriving DecidableEq, Repr

end Sys2Proof.Machine
end

