-- ==== Sys2Proof/Machine/Limits.lean ====
section
/-! DEFINITION. The durations (in ms unless a name says s) and the capacities the manual states. -/

namespace Sys2Proof.Machine

/-- Pair wait limit (R6). -/
def pairWaitMs : Nat := 300000
/-- Hazard hold (R10). -/
def hazardHoldMs : Nat := 30000
/-- A relay move (R12). -/
def relayMoveMs : Nat := 30
/-- Link-absence time (R16). -/
def linkAbsenceMs : Nat := 60000
/-- Recognition of off-hook and of on-hook on the copper side (R8). -/
def copperOffHookMs : Nat := 40
def copperOnHookMs : Nat := 1000
/-- Exchange ringing session end after a burst end (R9). -/
def ringSessionMs : Nat := 8000
/-- Greeting timeout (R24). -/
def greetingMs : Nat := 20000
/-- Training timeout (R25). -/
def trainingMs : Nat := 45000
/-- Loss timer (R28). -/
def lossMs : Nat := 2000
/-- RELEASING (R31). -/
def releasingMs : Nat := 500
/-- Backoff values (R33), in s. -/
def backoffMinS : Nat := 15
def backoffMaxS : Nat := 480
/-- A LOSS or QUALITY drop before this counts as a failure (R33). -/
def earlyDropMs : Nat := 60000
/-- CARRYING time that resets the backoff value (R29). -/
def backoffResetMs : Nat := 600000
/-- CARRYING time that clears the storm records (R61). -/
def stormClearMs : Nat := 3600000
/-- Call grace (R42, R56). -/
def callGraceMs : Nat := 120000
/-- Ring-guard window after an edge (R48). -/
def ringGuardMs : Nat := 200
/-- Drop window entry (R58). -/
def dropWindowMs : Nat := 600000
/-- Step-up clock, full (R62), in s. -/
def stepClockFull : Nat := 21600
/-- Trial watch (R63). -/
def trialWatchMs : Nat := 900000
/-- Barrier (R65). -/
def barrierMs : Nat := 86400000
/-- Consecutive-severe limit (R50). -/
def severeLimit : Nat := 10
/-- Interval length in classified seconds (R52). -/
def intervalS : Nat := 60
/-- Interval history capacity (R52). -/
def historyMax : Nat := 32
/-- Payload buffer capacity in each direction (R34). -/
def cellMax : Nat := 16
/-- Receiver-off-hook timer (R80). -/
def receiverMs : Nat := 20000
/-- Howler timer (R84). -/
def howlerMs : Nat := 60000
/-- Port retry timer (R85). -/
def portRetryMs : Nat := 10000
/-- Port fault history (R85). -/
def portHistoryMs : Nat := 300000
/-- Digit buffer capacity (R75). -/
def digitMax : Nat := 32
/-- Pause before a tone digit (R74). -/
def tonePauseMs : Nat := 40
/-- Burst wait (R112). -/
def burstWaitMs : Nat := 2000
/-- Ring supply idle timer (R109). -/
def supplyIdleMs : Nat := 5000
/-- Charge timer in MAINS and in other stages (R109). -/
def chargeMainsMs : Nat := 50
def chargeOtherMs : Nat := 120
/-- Ring supply retry timer (R114). -/
def supplyRetryMs : Nat := 2000
/-- Supply fault history (R114). -/
def supplyHistoryMs : Nat := 60000
/-- Frame clock (R118). -/
def frameMs : Nat := 10
/-- Playout queue (R120), capture queue (R128). -/
def playoutMax : Nat := 8
def captureMax : Nat := 3
/-- Consecutive fills that repeat the last frame (R125). -/
def repeatFills : Nat := 3
/-- Consecutive underruns that end PLAYING (R126). -/
def underrunMax : Nat := 5
/-- Test queue (R133). -/
def testQueueMax : Nat := 6
/-- Settle of a test, measuring period (R137), samples in a repeat. -/
def settleMs : Nat := 50
def periodMs : Nat := 20
def samplesPerRepeat : Nat := 16
/-- Fault log (R148). -/
def faultMax : Nat := 24
/-- Maintenance acknowledgement time (R164). -/
def ackMs : Nat := 5000
/-- Attempt window entry, lockout (R168). -/
def attemptMs : Nat := 30000
def lockoutMs : Nat := 60000
/-- Total from which a wrong attempt is reported (R168). -/
def intrusionTotal : Nat := 8
/-- Mains debounce towards ABSENT and PRESENT (R175); the watch in DORMANT (R182). -/
def mainsAbsentMs : Nat := 2000
def mainsPresentMs : Nat := 10000
/-- Enclosure debounce (R176). -/
def enclosureMs : Nat := 50
/-- The battery is present from here (R176), in mV. -/
def batteryPresentMv : Nat := 6000
/-- Wake delay, fast and normal (R185). -/
def wakeFastMs : Nat := 2
def wakeMs : Nat := 40
/-- Reply queue and notice queue (R191, R193). -/
def replyMax : Nat := 2
def noticeMax : Nat := 32
/-- The longest body of a frame (R189). -/
def bodyMax : Nat := 240
/-- Receiver gap (R189). -/
def gapMs : Nat := 5

end Sys2Proof.Machine
end

