-- ==== Sys2Proof/Machine/Defaults.lean ====
section
/-! DEFINITION. The built-in contents of the settings blocks, and the record every block takes at a power-on
start, a wake from DORMANT and a FULL reset. -/

namespace Sys2Proof.Machine

open Sys2Proof

/-! ## Built-in settings -/

/-- The built-in port settings (R68). -/
def PortSettings.builtIn : PortSettings where
  offHookMs := 40
  glitchMs := 20
  pulseMs := 110
  flashMs := 250
  hangUpMs := 1000
  interDigitMs := 300
  tonesInCall := false
  ringLoad := 20
  prefill := 3
  dialTone := 1
  releaseTone := 2
  howlerTone := 3

/-- The built-in link parameters (R55). -/
def LinkParams.builtIn : LinkParams := { severe := 24, quality := 6, stepUp := true }

/-- Rung n of the built-in ladder, its fields within the ranges of R54 and its downstream rate not above
`cap`. -/
def builtInRung (cap n : Nat) : RungRecord :=
  let v := Config.builtInLadder n
  { number := n
    down := min cap (64 + v 1 % 23937)
    up := 32 + v 2 % 2969
    minMargin := v 3 % 151
    interleave := v 4 % 65
    protection := v 5 % 17
    power := if v 6 % 2 = 0 then .full else .reduced }

/-- Rungs of the built-in ladder from a list of rung numbers, downstream rates not rising (R54). -/
def builtInRungs : Nat → List Nat → List RungRecord
  | _, [] => []
  | cap, n :: ns =>
    let r := builtInRung cap n
    r :: builtInRungs r.down ns

/-- The built-in ladder: some ladder R54 allows; which one the manual does not say (log 25). -/
def builtInLadder : List RungRecord :=
  match (List.range 8).filter (fun n => Config.builtInLadder n 0 % 2 = 1) with
  | [] => builtInRungs 24000 [7]
  | ns => builtInRungs 24000 ns

/-- A segment that is not marked and does not hold. -/
def seg (kind : SegKind) (durationMs : Nat) (isEnd : Bool) : Segment :=
  { kind, durationMs, isEnd, mark := false, hold := false }

/-- The built-in programs 0 to 5 (R98). -/
def builtInProgramsLow : List Program :=
  [ { segments := [seg .ringOn 400 false, seg .silence 200 false, seg .ringOn 400 false, seg .silence 2000 true],
      repeats := 10, stop := some 2 },
    { segments := [seg (.tone 0) 8000 true], repeats := 0, stop := none },
    { segments := [seg (.tone 3) 500 false, seg .silence 500 true], repeats := 4, stop := some 0 },
    { segments := [seg (.tone 2) 200 false, seg .silence 200 true], repeats := 0, stop := none },
    { segments := [seg .ringOn 1000 false, seg .silence 2000 true], repeats := 8, stop := some 0 },
    { segments := [seg (.tone 1) 1000 false, seg .silence 1000 true], repeats := 0, stop := none } ]

/-- The built-in programs 6 to 15 (R98). -/
def builtInProgramHigh : Program := { segments := [seg .silence 10 true], repeats := 1, stop := none }

/-- The built-in program store (R98). -/
def builtInPrograms : List Program := builtInProgramsLow ++ List.replicate 10 builtInProgramHigh

/-- The built-in tone pairs (R98). -/
def builtInTones : List TonePair :=
  [⟨350, 440, -130⟩, ⟨400, 0, -100⟩, ⟨1400, 2060, -30⟩, ⟨480, 620, -130⟩] ++ List.replicate 4 ⟨1000, 0, -200⟩

/-- The built-in TESTS block (R140). -/
def TestsSettings.builtIn : TestsSettings where
  limits := List.replicate 3 ⟨60000, 70000⟩ ++ List.replicate 3 ⟨5000, 10000⟩ ++ List.replicate 3 ⟨1000, 150⟩
    ++ List.replicate 3 ⟨40, 10⟩ ++ [⟨200, 300⟩]
  rounding := .nearestEven
  cable := 50

/-- The built-in POWER block (R180). -/
def PowerSettings.builtIn : PowerSettings where
  conserve := 11800
  lifeline := 11200
  cutoff := 10600
  stage1Min := 30
  fastWake := false

/-- The code of a notice kind in the catalogue of 11 section 11.7, for the two kinds the masks name. -/
def startReportKind : Nat := 0x01
def intervalEndKind : Nat := 0x03
def noticeOverrunKind : Nat := 0x13

/-- Every kind of the catalogue, 01h to 13h. -/
def allKinds : BitVec 32 := 0x000FFFFE#32

/-- The built-in mask: every kind except INTERVAL_END (R194, R205). -/
def builtInMask : BitVec 32 := 0x000FFFF6#32

/-- Bits that every mask in use is taken to have set (R194). -/
def forcedKinds : BitVec 32 := 0x00080002#32

/-- The built-in settings (R205). -/
def Settings.builtIn : Settings where
  ident := { serial := 0, variant := 0 }
  link := { ladder := builtInLadder, params := LinkParams.builtIn }
  ports := { one := PortSettings.builtIn, two := PortSettings.builtIn }
  tones := builtInTones
  programs := builtInPrograms
  tests := TestsSettings.builtIn
  power := PowerSettings.builtIn
  remote := { code := Vector.replicate 6 0, enable := false }
  control :=
    { silenceS := 10, mask := builtInMask, threshold := .minor, autoLifeline := true, autostart := true,
      autoTone := 5 }

/-- What working memory holds while SST is LOADING: the built-in settings with an empty ladder, which nothing
reads before loading completes (log 25). -/
def Settings.unloaded : Settings :=
  { Settings.builtIn with link := { ladder := [], params := LinkParams.builtIn } }

/-! ## Records at a start -/

/-- PAC at a start (R19). -/
def Pac.start : Pac where
  link := { state := .free, since := 0 }
  lifeline := { state := .free, since := 0 }
  test := { state := .free, since := 0 }
  testInfo := none
  releaseAsked := false
  waitEnd := none
  hazardEnd := none
  hazardHigh := false
  testRelayClosed := false
  copperOffHook := false
  copperActive := false
  ringSession := false
  ringBurst := false
  sessionEnd := none
  relay := { pos := .copper, move := none, reason := .start, deferred := false }
  absenceFrom := some 0
  absenceTaken := false

/-- The payload port at a start (R44). -/
def Payload.start : Payload := { up := [], down := [], sent := 0, handed := 0, overflow := 0, flushed := 0 }

/-- LKS at a start (R44, R66); ladder and rung are set when loading completes. -/
def Lks.start : Lks where
  state := .off
  enabled := false
  wait := none
  dest := none
  lastDrop := none
  lastFail := none
  ladder := []
  params := LinkParams.builtIn
  rung := 0
  backoff := backoffMinS
  backoffEnd := none
  releaseWait := none
  carryingSince := none
  attained := none
  powerDropEnd := none
  attempts := 0
  failures := 0
  drops := Vector.replicate 8 0
  greetingEnd := none
  trainingEnd := none
  lossEnd := none
  releasingEnd := none
  signalLost := false
  reportAt := 0
  ringGuard := none
  consecutiveSevere := 0
  interval := none
  history := []
  nextInterval := 0
  retrainEnd := none
  window := []
  stepClock := 0
  trial := none
  barriers := Vector.replicate 8 none
  payload := Payload.start

/-- The voice side of a port at a start (R131). -/
def Voice.start : Voice where
  state := .idle
  queue := []
  base := none
  position := none
  last := none
  fills := 0
  underruns := 0
  slot := .nothing
  tickAt := none
  capture := []
  captureSeq := 0
  counts := ⟨0, 0, 0, 0, 0, 0, 0, 0, 0, 0⟩

/-- A port at a start (R94), in the given state and with the loop of its phone as it is. -/
def Port.start (state : PortState) (cause : Option DisableCause) (loopClosed : Bool) : Port where
  state := state
  cause := cause
  fault := none
  latched := false
  offHook := false
  loopClosed := loopClosed
  loopSince := 0
  pulse := none
  tone := none
  toneEnd := none
  digits := []
  dialMarker := false
  autoMarker := false
  receiverEnd := none
  howlerEnd := none
  retryEnd := none
  retryOut := false
  wiringBad := false
  history := []
  copy := none
  counts := ⟨0, 0, 0, 0, 0, 0⟩
  heldOffHook := false
  voice := Voice.start

/-- HPC1 at a start (R19, R94). -/
def Port.startOne (loopClosed : Bool) : Port := Port.start .copperIdle none loopClosed

/-- HPC2 at a start (R94). -/
def Port.startTwo (loopClosed : Bool) : Port := Port.start .disabled (some .unconfigured) loopClosed

/-- A sequencer at a start (R117). -/
def Sequencer.start : Sequencer := { run := none, skipped := 0 }

/-- The capacity of the ring supply in a stage (R110). -/
def capacityOf : HoldStage → Nat
  | .mains => 60
  | .battery => 30
  | .conserve => 30
  | .lifeline => 0

/-- RSC at a start in the stage that PSV measured (R117). -/
def Rsc.start (stage : HoldStage) : Rsc where
  state := .off
  capacity := capacityOf stage
  bursts := []
  waits := []
  idleEnd := none
  chargeEnd := none
  retryEnd := none
  history := []
  granted := 0
  skipped := 0
  cut := 0
  faults := 0

/-- LTU at a start (R147). -/
def Ltu.start : Ltu := { queue := [], nextJob := 1, run := none, results := Vector.replicate 4 none }

/-- MCR at a start (R173). -/
def Mcr.start : Mcr where
  flight := none
  window := []
  total := 0
  lockoutEnd := none
  loopback := none
  accepted := 0
  refusedBusy := 0
  abandoned := 0
  unacknowledged := 0
  refusedDisabled := 0
  refusedLocked := 0
  outbox := []

/-- MPT at a start (R200). -/
def Mpt.start : Mpt where
  rx := .hunt
  rxLast := 0
  lineErrors := 0
  gapAbandons := 0
  lengthErrors := 0
  crcErrors := 0
  unknownTypes := 0
  discards := 0
  replies := []
  sending := none
  notices := []
  lost := 0
  malformed := 0
  mask := builtInMask ||| forcedKinds
  silenceEnd := none
  autonomous := false
  autonomousSince := 0
  held := []

/-- The stage PSV measures at a start, against the built-in defaults of the POWER block (R188). -/
def stageAtStart (mains : Bool) (batteryMv : Nat) : HoldStage :=
  if mains then .mains
  else if batteryMv < PowerSettings.builtIn.lifeline then .lifeline
  else if batteryMv < PowerSettings.builtIn.conserve then .conserve
  else .battery

/-- A below count at a start (R188). -/
def belowAtStart (batteryMv threshold : Nat) : Nat := if batteryMv < threshold then 3 else 0

/-- No supply condition selected. -/
def Conditions.none : Conditions := ⟨false, false, false, false⟩

/-- PSV at a start with the inputs as read (R188). -/
def Psv.start (mains : Bool) (batteryMv : Nat) (enclosureIsOpen : Bool) : Psv where
  stage := stageAtStart mains batteryMv
  stageSince := 0
  cause := .start
  mainsInput := mains
  mainsDeclared := mains
  debounceEnd := none
  batteryInput := batteryMv
  battery := batteryMv
  readingAt := 1000
  belowConserve := belowAtStart batteryMv PowerSettings.builtIn.conserve
  belowLifeline := belowAtStart batteryMv PowerSettings.builtIn.lifeline
  belowCutoff := belowAtStart batteryMv PowerSettings.builtIn.cutoff
  stage1From := 0
  stage1End :=
    if stageAtStart mains batteryMv = .battery then some (PowerSettings.builtIn.stage1Min * 60000) else none
  enclosureInputOpen := enclosureIsOpen
  enclosureOpen := enclosureIsOpen
  enclosureEnd := none
  mode := .active
  wake := none
  quiescentSince := 0
  sleepGranted := false
  stopping := false
  dormantWakeAt := none
  watchMask := Conditions.none
  watchPattern := Conditions.none
  matching := true
  stageChanges := 0
  sleepsGranted := 0
  sleepsRefused := 0
  wakes := 0

/-- The record SST keeps of block n while LOADING; the lock flag of IDENT is always set (R205, log 25). -/
def BlockMeta.unloaded (n : Nat) : BlockMeta := { gen := 0, dirty := true, locked := n = 0, good := false }

/-- SST at a start: LOADING (R206, R212). -/
def Sst.start (reason : StartReason) (image : Image) : Sst where
  contents := Settings.unloaded
  info := Vector.ofFn (fun n : Fin 9 => BlockMeta.unloaded n)
  store := .loading
  reason := reason
  image := image

/-- An EEPROM that has never been written: no entry's CRC holds. -/
def Image.blank : Image := ⟨none, none, none, none, none, none, none, none, none, none⟩

/-- The record a failed check makes in the emptied log (R159). -/
def retentionRecord (lost : RetentionLost) : FaultRecord where
  seq := 0
  code := .retentionLost
  source := .flg
  severity := .info
  firstAt := 0
  lastAt := 0
  count := 1
  detail := [BitVec.ofNat 32 lost.ctorIdx]
  clearedAt := none
  acked := false

/-- FLG after its check of the retention domain at a power-on start or a wake from DORMANT (R159, R161). The
arguments: the domain, and whether the cell kept each item (log 9). -/
def Flg.checked (r : Retention) (recordKept countKept : Bool) : Flg :=
  let recordOk := r.recordGood && recordKept
  let countOk := r.countGood && countKept
  let lost : Option RetentionLost :=
    match recordOk, countOk with
    | true, true => none
    | false, true => some .record
    | true, false => some .count
    | false, false => some .both
  { log := match lost with | none => [] | some l => [retentionRecord l]
    next := if lost.isSome then 1 else 0
    dropped := 0
    evicted := 0
    retention :=
      { record := if recordOk then r.record else none
        recordGood := true
        startCount := min ((if countOk then r.startCount else 0) + 1) 65535
        countGood := true }
    writing := false
    lost := lost }

/-- The retention domain of a new part: both checks fail (08 section 8.5). -/
def Retention.newPart : Retention := { record := none, recordGood := false, startCount := 0, countGood := false }

end Sys2Proof.Machine
end

