-- ==== Sys2Proof/Machine/State.lean ====
section
/-! DEFINITION. The state of the HX-220: every piece of state the spec gives its twelve blocks, the queue of
commands, and the machine right after reset. -/

namespace Sys2Proof.Machine

open Sys2Proof

/-- The state (INVENTORY.md lists every piece). `clock` is the time since the last start in ms, `free` the
number of free values drawn (log 10). -/
structure State where
  clock : Nat
  powered : Bool
  free : Nat
  pending : List Instr
  mpt : Mpt
  pac : Pac
  lks : Lks
  hpc1 : Port
  hpc2 : Port
  seq1 : Sequencer
  seq2 : Sequencer
  rsc : Rsc
  ltu : Ltu
  flg : Flg
  mcr : Mcr
  psv : Psv
  sst : Sst
  deriving DecidableEq, Repr

/-- No command stops the block: the spec gives every command an effect, or none, in every state. -/
inductive Fault where
  deriving DecidableEq, Repr

/-- Why a command has no meaning. -/
inductive Refusal where
  /-- Raised by an arm of `exec` whose command is not modelled yet. Safe: no state is reached. -/
  | notModelled (mnemonic : String)
  deriving DecidableEq, Repr

/-- The machine right after reset: a power-on start of a new part with mains PRESENT, the battery at 12 600 mV
and the enclosure CLOSED, SST LOADING (log 6). -/
def State.reset : State where
  clock := 0
  powered := true
  free := 0
  pending := []
  mpt := Mpt.start
  pac := Pac.start
  lks := Lks.start
  hpc1 := Port.startOne false
  hpc2 := Port.startTwo false
  seq1 := Sequencer.start
  seq2 := Sequencer.start
  rsc := Rsc.start .mains
  ltu := Ltu.start
  flg := Flg.checked Retention.newPart false false
  mcr := Mcr.start
  psv := Psv.start true 12600 false
  sst := Sst.start .powerOn Image.blank

end Sys2Proof.Machine
end

