-- ==== Sys2Proof/Machine/Ops.lean ====
section
/-! DEFINITION. The operations every block shares: time, counters, access to the records, free choices, notices,
fault reports and clearings, replies, the transmitter, wake causes. -/

namespace Sys2Proof.Machine

open Sys2Proof

/-! ## Access -/

def State.onMpt (f : Mpt → Mpt) (s : State) : State := { s with mpt := f s.mpt }
def State.onPac (f : Pac → Pac) (s : State) : State := { s with pac := f s.pac }
def State.onLks (f : Lks → Lks) (s : State) : State := { s with lks := f s.lks }
def State.onRsc (f : Rsc → Rsc) (s : State) : State := { s with rsc := f s.rsc }
def State.onLtu (f : Ltu → Ltu) (s : State) : State := { s with ltu := f s.ltu }
def State.onFlg (f : Flg → Flg) (s : State) : State := { s with flg := f s.flg }
def State.onMcr (f : Mcr → Mcr) (s : State) : State := { s with mcr := f s.mcr }
def State.onPsv (f : Psv → Psv) (s : State) : State := { s with psv := f s.psv }
def State.onSst (f : Sst → Sst) (s : State) : State := { s with sst := f s.sst }

/-- The record of a port. -/
def State.port (p : PortId) (s : State) : Port :=
  match p with
  | .one => s.hpc1
  | .two => s.hpc2

def State.onPort (p : PortId) (f : Port → Port) (s : State) : State :=
  match p with
  | .one => { s with hpc1 := f s.hpc1 }
  | .two => { s with hpc2 := f s.hpc2 }

/-- The record of a port's sequencer. -/
def State.seq (p : PortId) (s : State) : Sequencer :=
  match p with
  | .one => s.seq1
  | .two => s.seq2

def State.onSeq (p : PortId) (f : Sequencer → Sequencer) (s : State) : State :=
  match p with
  | .one => { s with seq1 := f s.seq1 }
  | .two => { s with seq2 := f s.seq2 }

/-- The number of a port (R201). -/
def portNumber : PortId → Nat
  | .one => 1
  | .two => 2

/-- The name under which a port controller reports faults (R152). -/
def portSource : PortId → Source
  | .one => .hpc1
  | .two => .hpc2

/-! ## Time and counters -/

/-- The greatest 32-bit and 16-bit values. -/
def max32 : Nat := 4294967295
def max16 : Nat := 65535

/-- Uptime in whole seconds (00 section 6); it stays at its greatest value (log 19). -/
def State.uptime (s : State) : Nat := min (s.clock / 1000) max32

/-- A saturating counter raised by one (00 section 6). -/
def up16 (n : Nat) : Nat := min (n + 1) max16
def up32 (n : Nat) : Nat := min (n + 1) max32
def add32 (n k : Nat) : Nat := min (n + k) max32

/-- Number a is newer than number b (00 section 6). -/
def newer (a b : Seq16) : Bool :=
  let d := (a - b).toNat
  1 ≤ d && d ≤ 32767

/-- The moment `ms` from now. -/
def State.after (ms : Nat) (s : State) : Nat := s.clock + ms

/-- Whole seconds left until a moment, a begun second counted whole (log 12). -/
def State.secondsTo (t : Nat) (s : State) : Nat := (t - s.clock + 999) / 1000

/-- The clock moves on to the moment at which a timer runs out (log 2). -/
def State.reach (t : Nat) (s : State) : State := { s with clock := max s.clock t }

/-! ## Conditions of the whole part -/

/-- The part has power and is not stopped in DORMANT. -/
def State.alive (s : State) : Bool := s.powered && s.psv.mode != .dormant

/-- SST is LOADING (R206). -/
def State.loading (s : State) : Bool := s.sst.store = .loading

/-- The effect of an event that reaches the part only while it has power and is not stopped (log 22). -/
def whenAlive (f : State → State) (s : State) : State := if s.alive then f s else s

/-- No port is CONNECTED. -/
def State.noCall (s : State) : Bool := s.hpc1.state != .connected && s.hpc2.state != .connected

/-! ## Free choices -/

/-- A choice among n that the manual leaves to the part (log 10). With fewer than two nothing is chosen. -/
def State.choose (n : Nat) (s : State) : Nat × State :=
  if n < 2 then (0, s) else (Config.freeChoice s.free % n, { s with free := s.free + 1 })

/-! ## Notices -/

/-- The kind code of a notice (11 section 11.7). -/
def Notice.kind : Notice → Nat
  | .startReport .. => 0x01
  | .linkState .. => 0x02
  | .intervalEnd .. => 0x03
  | .exchangeRing .. => 0x04
  | .lifelinePosition .. => 0x05
  | .portEvent .. => 0x06
  | .seqMark .. => 0x07
  | .seqDone .. => 0x08
  | .ringSupply .. => 0x09
  | .testDone .. => 0x0A
  | .fault .. => 0x0B
  | .remoteEvent .. => 0x0C
  | .powerStage .. => 0x0D
  | .supplyWatch .. => 0x0E
  | .wake .. => 0x0F
  | .autonomous .. => 0x10
  | .autonomousEnd .. => 0x11
  | .saveDone .. => 0x12
  | .noticeOverrun .. => 0x13

/-- A notice that a block queues: not queued when its kind is disabled, lost when the queue is full (R193). -/
def Mpt.queueNotice (n : Notice) (m : Mpt) : Mpt :=
  if m.mask.getLsbD n.kind = false then m
  else if noticeMax ≤ m.notices.length then { m with lost := up16 m.lost }
  else { m with notices := m.notices ++ [n] }

def notice (n : Notice) (s : State) : State := s.onMpt (Mpt.queueNotice n)

/-! ## The fault log (08) -/

/-- The record is ACTIVE (R148). -/
def FaultRecord.active (r : FaultRecord) : Bool := r.clearedAt.isNone

/-- An ACTIVE record of this code and source (R149). -/
def FaultRecord.isOf (c : FaultCode) (o : Source) (r : FaultRecord) : Bool :=
  r.active && (r.code = c && r.source = o)

/-- Severity a is lower than b. -/
def Severity.lower (a b : Severity) : Bool := a.ctorIdx < b.ctorIdx

def Severity.max (a b : Severity) : Severity := if a.lower b then b else a

/-- A report merged into a record (R149). -/
def FaultRecord.merge (sev : Severity) (at_ : Nat) (detail : List (BitVec 32)) (r : FaultRecord) : FaultRecord :=
  { r with count := up16 r.count, lastAt := at_, detail := detail, severity := r.severity.max sev, acked := false }

/-- The record of a new report (R149). -/
def FaultRecord.fresh (seq : Seq16) (c : FaultCode) (o : Source) (sev : Severity) (at_ : Nat)
    (detail : List (BitVec 32)) : FaultRecord :=
  { seq := seq, code := c, source := o, severity := sev, firstAt := at_, lastAt := at_, count := 1,
    detail := detail, clearedAt := none, acked := false }

/-- The first entry that meets a condition becomes its image. -/
def mapFirst {α : Type} (p : α → Bool) (f : α → α) : List α → List α
  | [] => []
  | x :: xs => if p x then f x :: xs else x :: mapFirst p f xs

/-- The first entry that meets a condition is removed. -/
def eraseFirst {α : Type} (p : α → Bool) : List α → List α
  | [] => []
  | x :: xs => if p x then xs else x :: eraseFirst p xs

/-- The log with room made for a report of this severity, or none if no step finds a record (R150). -/
def makeRoom (sev : Severity) (log : List FaultRecord) : Option (List FaultRecord) :=
  let step1 := fun r : FaultRecord => !r.active && r.acked
  let step2 := fun r : FaultRecord => !r.active
  let step3 := fun r : FaultRecord => r.severity.lower sev
  if log.any step1 then some (eraseFirst step1 log)
  else if log.any step2 then some (eraseFirst step2 log)
  else if log.any step3 then some (eraseFirst step3 log)
  else none

/-- A FAULT notice where the record's severity is at or above the notice threshold (R154). -/
def faultNotice (e : FaultEvent) (r : FaultRecord) (s : State) : State :=
  if r.severity.lower s.sst.contents.control.threshold then s else notice (.fault e r) s

/-- The retained record a CRITICAL report writes (R158). The write is under way until RETAINED_WRITE_DONE. -/
def writeRetained (c : FaultCode) (detail : List (BitVec 32)) (s : State) : State :=
  s.onFlg fun f =>
    { f with
      writing := true
      retention :=
        { f.retention with
          record := some
            { code := c, uptime := s.uptime, startCount := f.retention.startCount,
              detail0 := detail.getD 0 0, detail1 := detail.getD 1 0 }
          recordGood := true } }

/-- The record a report makes or merges into, without the retained record (R149, R150, R154). -/
def reportLog (c : FaultCode) (o : Source) (sev : Severity) (detail : List (BitVec 32)) (s : State) : State :=
  match s.flg.log.find? (FaultRecord.isOf c o) with
  | some r =>
    let r' := r.merge sev s.uptime detail
    let s1 := s.onFlg fun f => { f with log := mapFirst (FaultRecord.isOf c o) (fun _ => r') f.log }
    if r.count = 1 || r.severity.lower r'.severity then faultNotice .merged r' s1 else s1
  | none =>
    let r := FaultRecord.fresh s.flg.next c o sev s.uptime detail
    if s.flg.log.length < faultMax then
      faultNotice .created r (s.onFlg fun f => { f with log := f.log ++ [r], next := f.next + 1 })
    else
      match makeRoom sev s.flg.log with
      | some log =>
        faultNotice .created r
          (s.onFlg fun f => { f with log := log ++ [r], next := f.next + 1, evicted := up16 f.evicted })
      | none => s.onFlg fun f => { f with dropped := up16 f.dropped }

/-- A block reports a fault (R149, R158). -/
def report (c : FaultCode) (o : Source) (sev : Severity) (detail : List (BitVec 32)) (s : State) : State :=
  let s1 := reportLog c o sev detail s
  if sev = .critical then writeRetained c detail s1 else s1

/-- A block reports a clearing (R151). -/
def clearFault (c : FaultCode) (o : Source) (s : State) : State :=
  match s.flg.log.find? (FaultRecord.isOf c o) with
  | some r =>
    let r' := { r with clearedAt := some s.uptime }
    faultNotice .cleared r'
      (s.onFlg fun f => { f with log := mapFirst (FaultRecord.isOf c o) (fun _ => r') f.log })
  | none => s

/-- A detail value (R148). -/
def d32 (n : Nat) : BitVec 32 := BitVec.ofNat 32 n

/-! ## Replies (11 section 11.2) -/

/-- What a block answers to a request: status, reply data, and what takes effect once the reply is sent. -/
structure Answer where
  status : Status
  data : List Byte
  after : AfterReply
  deriving DecidableEq, Repr

/-- A plain answer with data. -/
def Answer.with (status : Status) (data : List Byte) : Answer := ⟨status, data, .nothing⟩

/-- OK without data. -/
def Answer.ok : Answer := Answer.with .ok []

/-- A refusal without data. -/
def Answer.refuse (status : Status) : Answer := Answer.with status []

/-- A reply joins the reply queue (R191). -/
def queueReply (tag code : Byte) (a : Answer) (s : State) : State :=
  s.onMpt fun m => { m with replies := m.replies ++ [⟨tag, code, a.status, a.data, a.after⟩] }

/-! ## The transmitter (R129) -/

/-- The port whose capture queue holds the oldest frame; port 1 where both heads are of one moment (R129). -/
def State.oldestCapture (s : State) : Option (PortId × CaptureFrame) :=
  match s.hpc1.voice.capture, s.hpc2.voice.capture with
  | [], [] => none
  | f :: _, [] => some (.one, f)
  | [], g :: _ => some (.two, g)
  | f :: _, g :: _ => if f.producedAt ≤ g.producedAt then some (.one, f) else some (.two, g)

/-- A notice leaves the queue; NOTICE_OVERRUN follows if notices were lost (R193). -/
def Mpt.sendNotice (m : Mpt) : Mpt :=
  match m.notices with
  | [] => m
  | n :: ns =>
    if m.lost = 0 then { m with sending := some (.notice n), notices := ns }
    else { m with sending := some (.notice n), notices := ns ++ [.noticeOverrun m.lost], lost := 0 }

/-- A free transmitter takes the next frame: reply, capture frame, notice (R129). It sends nothing in QUIESCENT
(R184) and no notice while the part is autonomous (R196). -/
def pump (s : State) : State :=
  if s.mpt.sending.isSome || s.psv.mode != .active || !s.powered then s
  else
    match s.mpt.replies with
    | r :: rs => s.onMpt fun m => { m with sending := some (.reply r), replies := rs }
    | [] =>
      match s.oldestCapture with
      | some (p, f) =>
        (s.onPort p fun q => { q with voice := { q.voice with capture := q.voice.capture.tail } }).onMpt
          fun m => { m with sending := some (.voiceUp p f) }
      | none => if s.mpt.autonomous then s else s.onMpt Mpt.sendNotice

/-- The effect of a command, with the transmitter served at its end (log 11). -/
def finish (s : State) : Host.Outcome State Fault Refusal := .next (pump s)

/-- The outcome of an event of the part. -/
def event (f : State → State) (s : State) : Host.Outcome State Fault Refusal := finish (whenAlive f s)

/-! ## Wake causes (R185) -/

/-- The length of the wake delay (R185). -/
def State.wakeDelay (s : State) : Nat := if s.sst.contents.power.fastWake then wakeFastMs else wakeMs

/-- A wake cause: in QUIESCENT the first starts the wake delay (R185); between the grant of SLEEP and its reply
it abandons the entry (R183). -/
def wakeCause (c : WakeCause) (port : Option PortId) (s : State) : State :=
  let wake : Option Wake :=
    if s.psv.mode = .quiescent && s.psv.wake.isNone then some { cause := c, port := port, endAt := s.after s.wakeDelay }
    else s.psv.wake
  s.onPsv fun p => { p with sleepGranted := false, wake := wake }

/-! ## Timers -/

/-- The command of a timer that ends at `t`: nothing if the timer does not run (log 3); else the clock moves on
to its end (log 2) and the effect is taken. -/
def onExpiry (t : Option Nat) (f : State → State) (s : State) : State :=
  match t with
  | none => s
  | some t => f (s.reach t)

/-- The entries of a history that have not outlived their `ms`; one whose time ends at this moment is still
held until its own command takes it. -/
def State.recent (ms : Nat) (s : State) (times : List Nat) : List Nat := times.filter (fun t => s.clock ≤ t + ms)

end Sys2Proof.Machine
end

