-- ==== Sys2Proof/Machine/Layout.lean ====
section
/-! DEFINITION. The message layouts of the control link (11 section 11.8): field coding, the frame envelope with
its CRC, the fault record, the test result record, the notices, the settings blocks. -/

namespace Sys2Proof.Machine

open Sys2Proof

/-! ## Fields (R201, R202) -/

def u8 (n : Nat) : List Byte := [BitVec.ofNat 8 n]
def u16 (n : Nat) : List Byte := [BitVec.ofNat 8 n, BitVec.ofNat 8 (n / 256)]
def u32 (n : Nat) : List Byte :=
  [BitVec.ofNat 8 n, BitVec.ofNat 8 (n / 256), BitVec.ofNat 8 (n / 65536), BitVec.ofNat 8 (n / 16777216)]
def i16 (z : Int) : List Byte := u16 (BitVec.ofInt 16 z).toNat
def i32 (z : Int) : List Byte := u32 (BitVec.ofInt 32 z).toNat
def flag (b : Bool) : List Byte := u8 (if b then 1 else 0)

/-- A field that is absent or none: FFh in each of its bytes (R201, R202). -/
def absent (size : Nat) : List Byte := List.replicate size 0xFF

/-- A field that may be absent. -/
def opt {α : Type} (size : Nat) (enc : α → List Byte) : Option α → List Byte
  | none => absent size
  | some a => enc a

/-- A list: a count byte and its entries (R202). -/
def listOf {α : Type} (enc : α → List Byte) (xs : List α) : List Byte := u8 xs.length ++ xs.flatMap enc

/-- The contents of a vector, in order. -/
def vec {α : Type} {n : Nat} (enc : α → List Byte) (v : Vector α n) : List Byte := v.toList.flatMap enc

/-! ## The envelope (R190, R201) -/

/-- One bit of the CRC register's shift, polynomial 1021h. -/
def crcBit (r : BitVec 16) : BitVec 16 := if r.msb then (r <<< 1) ^^^ 0x1021#16 else r <<< 1

/-- One byte into the CRC register, most significant bit first. -/
def crcByte (r : BitVec 16) (b : Byte) : BitVec 16 :=
  Nat.repeat crcBit 8 (r ^^^ ((b.setWidth 16) <<< 8))

/-- The CRC of R190. -/
def crc (bytes : List Byte) : BitVec 16 := bytes.foldl crcByte 0xFFFF#16

/-- A frame: sync, length, type, tag, body, CRC low byte first (R190, R201). -/
def envelope (type tag : Byte) (body : List Byte) : List Byte :=
  let checked := u16 body.length ++ [type, tag] ++ body
  [0xC5, 0x3A] ++ checked ++ u16 (crc checked).toNat

/-! ## Records -/

/-- A fault record (R203). -/
def FaultRecord.encode (r : FaultRecord) : List Byte :=
  u16 r.seq.toNat ++ u8 r.code.ctorIdx ++ u8 r.source.ctorIdx ++ u8 r.severity.ctorIdx
    ++ u8 (if r.active then 0 else 1) ++ flag r.acked ++ u32 r.firstAt ++ u32 r.lastAt
    ++ u32 (r.clearedAt.getD 0) ++ u16 r.count ++ u8 r.detail.length
    ++ r.detail.flatMap (fun d => u32 d.toNat)

/-- A value of a test result (R204). -/
def TestValue.encode (v : TestValue) : List Byte :=
  i32 v.min ++ i32 v.max ++ i32 v.mean ++ u8 v.verdict.ctorIdx ++ flag v.saturated

/-- A test result record (R204). -/
def TestResult.encode (r : TestResult) : List Byte :=
  u8 r.job ++ u8 r.kind.ctorIdx ++ u8 r.origin.ctorIdx ++ u8 r.status.ctorIdx
    ++ opt 1 (fun a => u8 a.ctorIdx) r.abort ++ u8 r.repeats ++ u8 r.completed
    ++ opt 1 (fun v => u8 v.ctorIdx) r.worst ++ u32 r.uptime ++ u8 r.values.length
    ++ r.values.flatMap TestValue.encode
    ++ (match r.length with
        | none => absent 2 ++ u8 0
        | some (m, sat) => u16 m ++ u8 (if sat then 2 else 1))

/-- An entry of the test queue (R204). -/
def TestEntry.encode (e : TestEntry) : List Byte :=
  u8 e.job ++ u8 e.kind.ctorIdx ++ u8 e.origin.ctorIdx ++ u8 e.repeats ++ flag e.disruptive
    ++ u8 e.phase.ctorIdx ++ u32 e.arrival

/-- COMPLETE, or the drop reason (R51). -/
def IntervalClosing.code : IntervalClosing → Nat
  | .complete => 0
  | .drop r => 1 + r.ctorIdx

/-- An interval record, the fields in the order of R51. -/
def Interval.encode (r : Interval) : List Byte :=
  u16 r.number.toNat ++ u32 r.start ++ u8 r.rung ++ u8 r.clean ++ u8 r.errored ++ u8 r.severe
    ++ u8 r.lowMargin ++ u32 r.blocks ++ u32 r.unguarded ++ u32 r.guarded ++ u16 r.impulses
    ++ u16 r.guardedImpulses ++ u16 r.longest ++ u32 r.upCells ++ u32 r.downCells
    ++ opt 1 (fun c => u8 c.code) r.closing

/-- What caused a change of the link: a drop reason or, counted on behind them, a failed-attempt outcome
(log 12). -/
def LinkCause.encode : LinkCause → List Byte
  | .drop r => u8 r.ctorIdx
  | .failed o => u8 (8 + o.ctorIdx)
  | .other => absent 1

/-- The attained figures (R21). -/
def Attained.encode (a : Attained) : List Byte := u32 a.down ++ u32 a.up ++ u32 a.margin

/-- Supply conditions as a set in one byte (R202). -/
def Conditions.toNat (c : Conditions) : Nat :=
  c.mainsPresent.toNat + 2 * c.batteryPresent.toNat + 4 * c.batteryLow.toNat + 8 * c.enclosureClosed.toNat

/-- Retention lost: none, RECORD, COUNT or BOTH (R204), in RETAINED_READ too (log 12). -/
def retentionCode : Option RetentionLost → Nat
  | none => 0
  | some l => 1 + l.ctorIdx

/-! ## Notices -/

/-- The kind of a port event and its further fields (R69). -/
def PortEvent.kind : PortEvent → Nat
  | .offhook => 0
  | .hungUp _ => 1
  | .answered => 2
  | .flash _ => 3
  | .digitsPending => 4
  | .faultEntered _ | .faultLatched _ | .faultRecovered _ => 5

def PortEvent.fields : PortEvent → List Byte
  | .offhook | .answered | .digitsPending => []
  | .hungUp left => opt 1 (fun st => u8 st.ctorIdx) left
  | .flash st => u8 st.ctorIdx
  | .faultEntered k => u8 0 ++ u8 k.ctorIdx
  | .faultLatched k => u8 1 ++ u8 k.ctorIdx
  | .faultRecovered k => u8 2 ++ u8 k.ctorIdx

/-- A RING_SUPPLY notice's event with its fields (R114 to R116). -/
def SupplyEvent.encode : SupplyEvent → List Byte
  | .retry k held => u8 0 ++ u8 k.ctorIdx ++ u8 held
  | .latched k => u8 1 ++ u8 k.ctorIdx
  | .reset => u8 2

/-- A REMOTE_EVENT notice's kind with its fields (R168 to R172). A request kind is coded by its place in MaintKind
(log 12). -/
def RemoteEvent.encode : RemoteEvent → List Byte
  | .wrongCode kind total held lockout => u8 0 ++ u8 kind.ctorIdx ++ u8 total ++ u8 held ++ flag lockout
  | .lockoutStarted => u8 1
  | .lockoutEnded => u8 2
  | .testAccepted job d => u8 3 ++ u8 job ++ u8 d.ctorIdx
  | .loopbackStarted minutes => u8 4 ++ u8 minutes
  | .loopbackEnded cause cells => u8 5 ++ u8 cause.ctorIdx ++ u32 cells

/-- LOCAL, COPPER or MOVING, with the target (R9). -/
def relayPlace (pos : RelayPos) (target : Option RelayPos) : List Byte :=
  match target with
  | some t => u8 2 ++ u8 t.ctorIdx
  | none => (match pos with | .localPort => u8 0 | .copper => u8 1) ++ absent 1

/-- The data of a notice, after its kind code. -/
def Notice.fields : Notice → List Byte
  | .startReport reason count present lost good locked =>
    u8 reason.ctorIdx ++ u16 count ++ flag present ++ u8 (retentionCode lost)
      ++ good.flatMap (fun g => u8 (if g then 0 else 1)) ++ locked.flatMap flag
  | .linkState new prev wait cause rung uptime attained backoff =>
    u8 new.ctorIdx ++ u8 prev.ctorIdx ++ opt 1 (fun w => u8 w.ctorIdx) wait ++ cause.encode ++ u8 rung
      ++ u32 uptime ++ (attained.map Attained.encode).getD [] ++ (backoff.map u16).getD []
  | .intervalEnd r => r.encode
  | .exchangeRing started pos target uptime =>
    u8 (if started then 0 else 1) ++ relayPlace pos target ++ u32 uptime
  | .lifelinePosition pos reason outcome =>
    u8 pos.ctorIdx ++ u8 reason.ctorIdx ++ opt 1 (fun o => u8 o.ctorIdx) outcome
  | .portEvent p e uptime copperSide =>
    u8 (portNumber p) ++ u8 e.kind ++ u32 uptime ++ flag copperSide ++ e.fields
  | .seqMark p program segment pass cutShort uptime =>
    u8 (portNumber p) ++ u8 program ++ u8 segment ++ u16 pass ++ flag cutShort ++ u32 uptime
  | .seqDone p program cause passes pending uptime =>
    u8 (portNumber p) ++ u8 program ++ u8 cause.ctorIdx ++ u16 passes ++ opt 1 u8 pending ++ u32 uptime
  | .ringSupply e => e.encode
  | .testDone job kind origin status abort completed repeats worst uptime =>
    u8 job ++ u8 kind.ctorIdx ++ u8 origin.ctorIdx ++ u8 status.ctorIdx
      ++ opt 1 (fun a => u8 a.ctorIdx) abort ++ u8 completed ++ u8 repeats
      ++ opt 1 (fun v => u8 v.ctorIdx) worst ++ u32 uptime
  | .fault e r => u8 e.ctorIdx ++ r.encode
  | .remoteEvent e uptime => e.encode ++ u32 uptime
  | .powerStage new prev cause battery uptime =>
    u8 new.ctorIdx ++ opt 1 (fun st => u8 st.ctorIdx) prev ++ u8 cause.ctorIdx ++ u32 battery ++ u32 uptime
  | .supplyWatch c mask pattern uptime => u8 c.toNat ++ u8 mask.toNat ++ u8 pattern.toNat ++ u32 uptime
  | .wake cause port uptime seconds =>
    u8 cause.ctorIdx ++ opt 1 (fun p => u8 (portNumber p)) port ++ u32 uptime ++ u32 seconds
  | .autonomous limit uptime => u8 limit ++ u32 uptime
  | .autonomousEnd uptime seconds => u32 uptime ++ u32 seconds
  | .saveDone results locks => results.flatMap (fun r => u8 r.ctorIdx) ++ u8 locks.ctorIdx
  | .noticeOverrun count => u16 count

/-- The body of a notice (R201). -/
def Notice.body (n : Notice) : List Byte := u8 n.kind ++ n.fields

/-- The code of a reply status (R192). -/
def Status.code (st : Status) : Nat := st.ctorIdx

/-- The body of a reply (R201). -/
def Reply.body (r : Reply) : List Byte := [r.code] ++ u8 r.status.code ++ r.data

/-- A voice body (R201). -/
def voiceBody (p : PortId) (seq : Seq16) (samples : Samples) : List Byte :=
  u8 (portNumber p) ++ u16 seq.toNat ++ vec (fun x : BitVec 16 => u16 x.toNat) samples

/-- The bytes of a frame the part sends (R190). -/
def TxFrame.bytes : TxFrame → List Byte
  | .reply r => envelope 0x81 r.tag r.body
  | .notice n => envelope 0x82 0x00 n.body
  | .voiceUp p f => envelope 0x83 0x00 (voiceBody p f.seq f.samples)

/-! ## Settings blocks (R202, R205) -/

def RungRecord.encode (r : RungRecord) : List Byte :=
  u8 r.number ++ u16 r.down ++ u16 r.up ++ u8 r.minMargin ++ u8 r.interleave ++ u8 r.protection ++ u8 r.power.ctorIdx

def LinkParams.encode (p : LinkParams) : List Byte := u8 p.severe ++ u8 p.quality ++ flag p.stepUp

def LinkSettings.encode (l : LinkSettings) : List Byte := listOf RungRecord.encode l.ladder ++ l.params.encode

def PortSettings.encode (p : PortSettings) : List Byte :=
  u8 p.offHookMs ++ u8 p.glitchMs ++ u8 p.pulseMs ++ u16 p.flashMs ++ u16 p.hangUpMs ++ u16 p.interDigitMs
    ++ flag p.tonesInCall ++ u8 p.ringLoad ++ u8 p.prefill ++ u8 p.dialTone ++ u8 p.releaseTone ++ u8 p.howlerTone

def PortsSettings.encode (p : PortsSettings) : List Byte := p.one.encode ++ p.two.encode

def TonePair.encode (t : TonePair) : List Byte := u16 t.first ++ u16 t.second ++ i16 t.level

/-- Kind and tone-pair number of a segment (R96). -/
def SegKind.encode : SegKind → List Byte
  | .ringOn => u8 0 ++ absent 1
  | .silence => u8 1 ++ absent 1
  | .tone pair => u8 2 ++ u8 pair

def Segment.encode (g : Segment) : List Byte :=
  g.kind.encode ++ u16 g.durationMs ++ flag g.isEnd ++ flag g.mark ++ flag g.hold

def Program.encode (p : Program) : List Byte :=
  listOf Segment.encode p.segments ++ u8 p.repeats ++ opt 1 u8 p.stop

/-- The bytes of one limit, by the place of its value in R132. -/
def TestLimit.encode (place : Nat) (l : TestLimit) : List Byte :=
  if place < 6 then u32 l.marginal ++ u32 l.fail else u16 l.marginal ++ u16 l.fail

def TestsSettings.encode (t : TestsSettings) : List Byte :=
  (t.limits.zipIdx.flatMap fun x => x.1.encode x.2) ++ u8 t.rounding.ctorIdx ++ u8 t.cable

def PowerSettings.encode (p : PowerSettings) : List Byte :=
  u16 p.conserve ++ u16 p.lifeline ++ u16 p.cutoff ++ u8 p.stage1Min ++ flag p.fastWake

def ControlSettings.encode (c : ControlSettings) : List Byte :=
  u8 c.silenceS ++ u32 c.mask.toNat ++ u8 c.threshold.ctorIdx ++ flag c.autoLifeline ++ flag c.autostart
    ++ u8 c.autoTone

/-- The contents of a block as SETTING_GET carries them; of PROGRAMS one program, of REMOTE with its access
code as zeros (R208). -/
def Settings.encode (c : Settings) (program : Nat) : BlockId → List Byte
  | .ident => u32 c.ident.serial.toNat ++ [c.ident.variant]
  | .link => c.link.encode
  | .ports => c.ports.encode
  | .tones => c.tones.flatMap TonePair.encode
  | .programs => ((c.programs[program]?).map Program.encode).getD []
  | .tests => c.tests.encode
  | .power => c.power.encode
  | .remote => List.replicate 6 0x00 ++ flag c.remote.enable
  | .control => c.control.encode

end Sys2Proof.Machine
end

