-- ==== Sys2Proof/Machine/Operands.lean ====
section
/-! DEFINITION. Reading the arguments of requests (R192, R201, R202) and the contents of a SETTING_PUT with the
checks of R54, R68, R98, R140, R180 and R205. A reader answers none where the bytes are too few or a value is not
allowed. -/

namespace Sys2Proof.Machine

open Sys2Proof

/-- A reader takes a value off the front of the bytes. -/
abbrev Reader (α : Type) := List Byte → Option (α × List Byte)

def rd8 : Reader Nat
  | b :: r => some (b.toNat, r)
  | [] => none

def rd16 : Reader Nat
  | a :: b :: r => some (a.toNat + 256 * b.toNat, r)
  | _ => none

def rd32 : Reader Nat
  | a :: b :: c :: d :: r => some (a.toNat + 256 * b.toNat + 65536 * c.toNat + 16777216 * d.toNat, r)
  | _ => none

/-- A signed number of 2 bytes. -/
def rdI16 : Reader Int := fun bs => (rd16 bs).map fun x => ((BitVec.ofNat 16 x.1).toInt, x.2)

/-- A value that meets a condition. -/
def rdIf {α : Type} (ok : α → Bool) (rd : Reader α) : Reader α := fun bs =>
  match rd bs with
  | some (a, r) => if ok a then some (a, r) else none
  | none => none

/-- A number in a range. -/
def rdIn (lo hi : Nat) (rd : Reader Nat) : Reader Nat := rdIf (fun n => lo ≤ n && n ≤ hi) rd

/-- A flag, 00h or 01h (R201). -/
def rdFlag : Reader Bool := fun bs => (rdIn 0 1 rd8 bs).map fun x => (x.1 == 1, x.2)

/-- `n` values one after another. -/
def rdMany {α : Type} (rd : Reader α) : Nat → Reader (List α)
  | 0, bs => some ([], bs)
  | n + 1, bs =>
    match rd bs with
    | none => none
    | some (a, r) =>
      match rdMany rd n r with
      | none => none
      | some (as, r') => some (a :: as, r')

/-- A list: a count byte and its entries (R202). -/
def rdList {α : Type} (rd : Reader α) : Reader (List α) := fun bs =>
  match rd8 bs with
  | none => none
  | some (n, r) => rdMany rd n r

/-- The element of a list of names at the position a byte gives. -/
def nth {α : Type} (names : List α) (n : Nat) : Option α := names[n]?

def rdName {α : Type} (names : List α) : Reader α := fun bs =>
  match rd8 bs with
  | none => none
  | some (n, r) => (nth names n).map fun a => (a, r)

/-! ## Names by their codes (R201) -/

def allBlocks : List BlockId := [.ident, .link, .ports, .tones, .programs, .tests, .power, .remote, .control]
def allTestKinds : List TestKind := [.foreignVoltage, .insulation, .capacitance, .quietNoise]
def allSeverities : List Severity := [.info, .minor, .major, .critical]
def allPowerClasses : List PowerClass := [.full, .reduced]
def allRoundings : List Rounding := [.nearestEven, .halfUp]

/-- A port number names a port: 1 or 2 (R67). -/
def portOf : Nat → Option PortId
  | 1 => some .one
  | 2 => some .two
  | _ => none

/-- Supply conditions from a set in one byte (R202). -/
def conditionsOf (n : Nat) : Conditions :=
  ⟨n.testBit 0, n.testBit 1, n.testBit 2, n.testBit 3⟩

/-! ## Settings contents -/

/-- A rung record within the ranges of R54. -/
def rdRung : Reader RungRecord := fun bs => do
  let (number, bs) ← rdIn 0 7 rd8 bs
  let (down, bs) ← rdIn 64 24000 rd16 bs
  let (up, bs) ← rdIn 32 3000 rd16 bs
  let (minMargin, bs) ← rdIn 0 150 rd8 bs
  let (interleave, bs) ← rdIn 0 64 rd8 bs
  let (protection, bs) ← rdIn 0 16 rd8 bs
  let (power, bs) ← rdName allPowerClasses bs
  pure (⟨number, down, up, minMargin, interleave, protection, power⟩, bs)

/-- Rung numbers rise strictly and downstream rates do not rise (R54). -/
def ladderOrdered : List RungRecord → Bool
  | a :: b :: rest => (a.number < b.number && b.down ≤ a.down) && ladderOrdered (b :: rest)
  | _ => true

def rdLink : Reader LinkSettings := fun bs => do
  let (ladder, bs) ← rdIf (fun l => (1 ≤ l.length && l.length ≤ 8) && ladderOrdered l) (rdList rdRung) bs
  let (severe, bs) ← rdIn 4 200 rd8 bs
  let (quality, bs) ← rdIn 1 60 rd8 bs
  let (stepUp, bs) ← rdFlag bs
  pure (⟨ladder, ⟨severe, quality, stepUp⟩⟩, bs)

/-- The four break times rise strictly (R68). -/
def PortSettings.breaksRise (p : PortSettings) : Bool :=
  p.glitchMs < p.pulseMs && (p.pulseMs < p.flashMs && p.flashMs < p.hangUpMs)

def rdPortSettings : Reader PortSettings := rdIf PortSettings.breaksRise fun bs => do
  let (offHookMs, bs) ← rdIn 20 200 rd8 bs
  let (glitchMs, bs) ← rdIn 10 40 rd8 bs
  let (pulseMs, bs) ← rdIn 60 150 rd8 bs
  let (flashMs, bs) ← rdIn 150 600 rd16 bs
  let (hangUpMs, bs) ← rdIn 500 2000 rd16 bs
  let (interDigitMs, bs) ← rdIn 150 800 rd16 bs
  let (tonesInCall, bs) ← rdFlag bs
  let (ringLoad, bs) ← rdIn 1 60 rd8 bs
  let (prefill, bs) ← rdIn 1 6 rd8 bs
  let (dialTone, bs) ← rdIn 0 15 rd8 bs
  let (releaseTone, bs) ← rdIn 0 15 rd8 bs
  let (howlerTone, bs) ← rdIn 0 15 rd8 bs
  pure (⟨offHookMs, glitchMs, pulseMs, flashMs, hangUpMs, interDigitMs, tonesInCall, ringLoad, prefill, dialTone,
    releaseTone, howlerTone⟩, bs)

def rdPorts : Reader PortsSettings := fun bs => do
  let (one, bs) ← rdPortSettings bs
  let (two, bs) ← rdPortSettings bs
  pure (⟨one, two⟩, bs)

/-- A tone pair within R97's ranges, with one frequency at least (R98). -/
def rdTone : Reader TonePair := rdIf (fun t => (t.first != 0 || t.second != 0) && (-400 ≤ t.level && t.level ≤ 0))
  fun bs => do
    let (first, bs) ← rdIn 0 3400 rd16 bs
    let (second, bs) ← rdIn 0 3400 rd16 bs
    let (level, bs) ← rdI16 bs
    pure (⟨first, second, level⟩, bs)

def rdTones : Reader (List TonePair) := rdMany rdTone 8

/-- A segment's kind with its tone-pair number, which counts for TONE only (R96, log 13). -/
def rdSegKind : Reader SegKind := fun bs =>
  match rd16 bs with
  | none => none
  | some (w, r) =>
    match w % 256 with
    | 0 => some (.ringOn, r)
    | 1 => some (.silence, r)
    | 2 => if w / 256 ≤ 7 then some (.tone (w / 256), r) else none
    | _ => none

def rdSegment : Reader Segment := fun bs => do
  let (kind, bs) ← rdSegKind bs
  let (durationMs, bs) ← rdIf (fun d => d % 10 = 0) (rdIn 10 8000 rd16) bs
  let (isEnd, bs) ← rdFlag bs
  let (mark, bs) ← rdFlag bs
  let (hold, bs) ← rdFlag bs
  pure (⟨kind, durationMs, isEnd, mark, hold⟩, bs)

/-- The index of a program's last segment: the first with END set, else the last stored (R96). -/
def Program.last (p : Program) : Nat :=
  match p.segments.findIdx? (fun g => g.isEnd) with
  | some i => i
  | none => p.segments.length - 1

/-- The stop index names no segment after the last (R98). -/
def Program.stopFits (p : Program) : Bool :=
  match p.stop with
  | none => true
  | some i => i ≤ p.last

/-- The stop index: a segment number 0 to 11 or none (R96). -/
def rdStop : Reader (Option Nat) := fun bs =>
  match rd8 bs with
  | none => none
  | some (n, r) => if n = 255 then some (none, r) else if n ≤ 11 then some (some n, r) else none

def rdProgram : Reader Program := rdIf Program.stopFits fun bs => do
  let (segments, bs) ← rdIf (fun l => 1 ≤ l.length && l.length ≤ 12) (rdList rdSegment) bs
  let (repeats, bs) ← rd8 bs
  let (stop, bs) ← rdStop bs
  pure (⟨segments, repeats, stop⟩, bs)

/-- The greatest value a limit may take, by the place of its value in R132 (R140). -/
def limitMax (place : Nat) : Nat :=
  if place < 6 then 150000 else if place < 9 then 50000 else if place < 12 then 2000 else 900

/-- The limits of a place are upper limits (R132). -/
def limitUpper (place : Nat) : Bool := place < 6 || 12 ≤ place

def rdLimit (place : Nat) : Reader TestLimit :=
  rdIf (fun l => if limitUpper place then l.marginal < l.fail else l.fail < l.marginal) fun bs => do
    let (marginal, bs) ← rdIn 0 (limitMax place) (if place < 6 then rd32 else rd16) bs
    let (fail, bs) ← rdIn 0 (limitMax place) (if place < 6 then rd32 else rd16) bs
    pure (⟨marginal, fail⟩, bs)

/-- The limits of the places from `place` on. -/
def rdLimits : Nat → Nat → Reader (List TestLimit)
  | _, 0, bs => some ([], bs)
  | place, n + 1, bs =>
    match rdLimit place bs with
    | none => none
    | some (l, r) =>
      match rdLimits (place + 1) n r with
      | none => none
      | some (ls, r') => some (l :: ls, r')

def rdTests : Reader TestsSettings := fun bs => do
  let (limits, bs) ← rdLimits 0 13 bs
  let (rounding, bs) ← rdName allRoundings bs
  let (cable, bs) ← rdIn 30 80 rd8 bs
  pure (⟨limits, rounding, cable⟩, bs)

/-- POWER: the thresholds fall strictly (R180). -/
def rdPower : Reader PowerSettings := rdIf (fun p => p.lifeline < p.conserve && p.cutoff < p.lifeline) fun bs => do
  let (conserve, bs) ← rdIn 10800 12800 rd16 bs
  let (lifeline, bs) ← rdIn 10400 12400 rd16 bs
  let (cutoff, bs) ← rdIn 10000 12000 rd16 bs
  let (stage1Min, bs) ← rdIn 5 240 rd8 bs
  let (fastWake, bs) ← rdFlag bs
  pure (⟨conserve, lifeline, cutoff, stage1Min, fastWake⟩, bs)

/-- Six bytes of access code. -/
def rdCode : Reader AccessCode := fun bs =>
  match bs with
  | a :: b :: c :: d :: e :: f :: r => some (#v[a, b, c, d, e, f], r)
  | _ => none

/-- REMOTE with the keep-code flag of a put behind its contents (R208, log 13). -/
def rdRemote (stored : AccessCode) : Reader RemoteSettings := fun bs => do
  let (code, bs) ← rdCode bs
  let (enable, bs) ← rdFlag bs
  let (keep, bs) ← rdFlag bs
  pure (⟨if keep then stored else code, enable⟩, bs)

def rdControl : Reader ControlSettings := fun bs => do
  let (silenceS, bs) ← rdIf (fun n => n = 0 || (2 ≤ n && n ≤ 120)) rd8 bs
  let (mask, bs) ← rd32 bs
  let (threshold, bs) ← rdName allSeverities bs
  let (autoLifeline, bs) ← rdFlag bs
  let (autostart, bs) ← rdFlag bs
  let (autoTone, bs) ← rdIn 0 15 rd8 bs
  pure (⟨silenceS, BitVec.ofNat 32 mask &&& allKinds, threshold, autoLifeline, autostart, autoTone⟩, bs)

/-- How many bytes the contents of a put take, from the bytes themselves where a list stands in them: none
where the count byte is missing. -/
def contentsLength (b : BlockId) (bs : List Byte) : Option Nat :=
  match b with
  | .ident => some 5
  | .link => (rd8 bs).map fun x => 4 + 9 * x.1
  | .ports => some 30
  | .tones => some 48
  | .programs => (rd8 bs).map fun x => 3 + 7 * x.1
  | .tests => some 78
  | .power => some 8
  | .remote => some 8
  | .control => some 9

/-- The bytes hold the whole contents of a put. -/
def contentsComplete (b : BlockId) (bs : List Byte) : Bool :=
  match contentsLength b bs with
  | none => false
  | some n => n ≤ bs.length

/-- The settings with the contents of a put in place of the block's, or none where they break a check
(R208 step 6). -/
def Settings.put (c : Settings) (b : BlockId) (program : Nat) (bs : List Byte) : Option Settings :=
  match b with
  | .ident => none
  | .link => (rdLink bs).map fun x => { c with link := x.1 }
  | .ports => (rdPorts bs).map fun x => { c with ports := x.1 }
  | .tones => (rdTones bs).map fun x => { c with tones := x.1 }
  | .programs => (rdProgram bs).map fun x => { c with programs := c.programs.set program x.1 }
  | .tests => (rdTests bs).map fun x => { c with tests := x.1 }
  | .power => (rdPower bs).map fun x => { c with power := x.1 }
  | .remote => (rdRemote c.remote.code bs).map fun x => { c with remote := x.1 }
  | .control => (rdControl bs).map fun x => { c with control := x.1 }

/-! ## Requests (R191, R192) -/

/-- A request taken at the intake. `decode` reads its arguments, none where the body is too short to hold them;
`always` marks the requests answered while SST loads. Behind one reply the answer is BUSY, by R191's table and not by its
example (log 44). -/
def takeRequest {α : Type} (code : Byte) (always : Bool) (decode : List Byte → Option α)
    (body : α → State → Answer × State) (tag : Byte) (args : List Byte) (s : State) : State :=
  match s.mpt.replies with
  | _ :: _ :: _ => s.onMpt fun m => { m with discards := up16 m.discards }
  | [_] => queueReply tag code (Answer.refuse .busy) s
  | [] =>
    if s.loading && !always then queueReply tag code (Answer.refuse .retry) s
    else
      match decode args with
      | none => queueReply tag code (Answer.refuse .badArgument) s
      | some a =>
        let r := body a s
        queueReply tag code r.1 r.2

/-- No arguments. -/
def noArgs : List Byte → Option Unit := fun _ => some ()

/-- One byte. -/
def arg8 (bs : List Byte) : Option Nat := (rd8 bs).map (·.1)

/-- Two numbers of one byte. -/
def arg88 (bs : List Byte) : Option (Nat × Nat) := do
  let (a, bs) ← rd8 bs
  let (b, _) ← rd8 bs
  pure (a, b)

/-- Three numbers of one byte. -/
def arg888 (bs : List Byte) : Option (Nat × Nat × Nat) := do
  let (a, bs) ← rd8 bs
  let (b, bs) ← rd8 bs
  let (c, _) ← rd8 bs
  pure (a, b, c)

/-- A number of two bytes. -/
def arg16 (bs : List Byte) : Option Nat := (rd16 bs).map (·.1)

/-- A request that names a port: BAD_ARGUMENT for any other number (R67). -/
def onNamedPort (n : Nat) (f : PortId → State → Answer × State) (s : State) : Answer × State :=
  match portOf n with
  | none => (Answer.refuse .badArgument, s)
  | some p => f p s

end Sys2Proof.Machine
end

