-- ==== Sys2Proof/Machine/Flags.lean ====
section
/-! DEFINITION. The conditions the part derives from its records and keeps nowhere: permitted rungs, the payload
port, remote access, the supply conditions, the blockers of SLEEP, loop feed. -/

namespace Sys2Proof.Machine

open Sys2Proof

/-! ## The ladder (R54, R55) -/

/-- A rung is permitted in a holdover stage (R55). -/
def permitted (stage : HoldStage) (r : RungRecord) : Bool :=
  match stage with
  | .mains => true
  | .battery => r.power = .reduced
  | .conserve => r.power = .reduced
  | .lifeline => false

/-- The record of a rung in a ladder. -/
def rungIn (ladder : List RungRecord) (n : Nat) : Option RungRecord := ladder.find? (fun r => r.number = n)

/-- The floor of a ladder; 0 where there is none yet (log 25). -/
def floorOf (ladder : List RungRecord) : Nat := (ladder.getLast?.map (·.number)).getD 0

/-- The top of a ladder. -/
def topOf (ladder : List RungRecord) : Nat := (ladder.head?.map (·.number)).getD 0

/-- The first permitted rung below a rung (R55). -/
def permittedBelow (stage : HoldStage) (ladder : List RungRecord) (n : Nat) : Option Nat :=
  (ladder.find? (fun r => n < r.number && permitted stage r)).map (·.number)

/-- The first permitted rung at or below a rung (R23). -/
def permittedFrom (stage : HoldStage) (ladder : List RungRecord) (n : Nat) : Option Nat :=
  (ladder.find? (fun r => n ≤ r.number && permitted stage r)).map (·.number)

/-- The next rung above a rung (R54). -/
def nextAbove (ladder : List RungRecord) (n : Nat) : Option Nat :=
  ((ladder.filter (fun r => r.number < n)).getLast?).map (·.number)

/-- The barrier of a rung (R65). -/
def Lks.barrier (k : Lks) (n : Nat) : Option Nat := (k.barriers[n]?).getD none

/-! ## The link -/

/-- The payload port is open (R34). -/
def State.payloadOpen (s : State) : Bool := s.lks.state = .carrying && s.mcr.loopback.isNone

/-- A port is IDLE, DISABLED or COPPER_IDLE (R62, R183). -/
def PortState.quiet : PortState → Bool
  | .idle => true
  | .disabled => true
  | .copperIdle => true
  | _ => false

/-- A step-up is due (R62); the target rung. -/
def State.stepUpDue (s : State) : Option Nat :=
  match nextAbove s.lks.ladder s.lks.rung with
  | none => none
  | some target =>
    if s.lks.state = .carrying && (s.lks.stepClock = stepClockFull && (s.psv.stage = .mains
        && (s.lks.params.stepUp && (s.hpc1.state.quiet && (s.hpc2.state.quiet
        && ((s.lks.barrier target).isNone && s.lks.trial.isNone))))))
    then some target else none

/-! ## The pair -/

/-- R3: the LINK claim may be granted. -/
def State.linkGrantable (s : State) : Bool := s.pac.test.state = .free && s.pac.hazardEnd.isNone

/-- R4: the TEST claim may be granted. -/
def State.testGrantable (s : State) : Bool :=
  (s.pac.link.state != .held && s.pac.lifeline.state = .free) && (s.pac.hazardEnd.isNone && !s.pac.ringSession)

/-- The lifeline relay rests in a position. -/
def State.restsIn (p : RelayPos) (s : State) : Bool := s.pac.relay.pos = p && s.pac.relay.move.isNone

/-! ## Ports -/

/-- A local state (R67). -/
def PortState.isLocal : PortState → Bool
  | .switching => false
  | .copperIdle => false
  | .copperActive => false
  | _ => true

/-- The loop feed of a port state (R70). -/
def PortState.feed : PortState → Feed
  | .idle => .full
  | .ringing => .full
  | .offhook => .full
  | .connected => .full
  | .howler => .full
  | .lockout => .reduced
  | _ => .none

/-- The states with full or reduced feed, in which the hook debouncer runs (R70). -/
def PortState.fed (st : PortState) : Bool := st.feed != .none

/-- The states a line fault takes to FAULT (R85). -/
def PortState.watched (st : PortState) : Bool := st.fed

/-- Loop current flows in the port's own feed: the loop is closed and fed (R70). -/
def Port.current (q : Port) : Bool := q.loopClosed && q.state.fed

/-- A break is in progress (R72). -/
def Port.inBreak (q : Port) : Bool := q.offHook && !q.loopClosed

/-- The settings a port works from; the built-in ones while its copy is empty (R68). -/
def Port.settings (q : Port) : PortSettings := q.copy.getD PortSettings.builtIn

/-- The settings of a port in the PORTS block. -/
def PortsSettings.of (c : PortsSettings) : PortId → PortSettings
  | .one => c.one
  | .two => c.two

/-- A program of the store; numbers above 15 do not arise. -/
def State.program (n : Nat) (s : State) : Program := (s.sst.contents.programs[n]?).getD builtInProgramHigh

/-- A program holds a RING_ON segment (R96). -/
def Program.rings (p : Program) : Bool := (p.segments.take (p.last + 1)).any (fun g => g.kind = .ringOn)

/-- The sequencer is IDLE (R99). -/
def Sequencer.isIdle (q : Sequencer) : Bool := q.run.isNone

/-! ## Maintenance and settings -/

/-- The record SST keeps of a block. -/
def Sst.infoOf (t : Sst) (b : BlockId) : BlockMeta := (t.info[b.ctorIdx]?).getD (BlockMeta.unloaded b.ctorIdx)

/-- Remote access is enabled (R163). -/
def State.remoteEnabled (s : State) : Bool := s.sst.contents.remote.enable && (s.sst.infoOf .remote).good

/-! ## Power -/

/-- The supply conditions as they stand (R186). -/
def State.conditions (s : State) : Conditions where
  mainsPresent := s.psv.mainsDeclared
  batteryPresent := batteryPresentMv ≤ s.psv.battery
  batteryLow := s.psv.belowConserve = 3
  enclosureClosed := !s.psv.enclosureOpen

/-- The watch matches: every selected condition has its expected value (R186). -/
def Conditions.matches (mask pattern now : Conditions) : Bool :=
  ((!mask.mainsPresent || pattern.mainsPresent == now.mainsPresent)
    && (!mask.batteryPresent || pattern.batteryPresent == now.batteryPresent))
  && ((!mask.batteryLow || pattern.batteryLow == now.batteryLow)
    && (!mask.enclosureClosed || pattern.enclosureClosed == now.enclosureClosed))

/-- The conditions of a grant of SLEEP in the order of R183, true where the blocker's condition fails. -/
def State.sleepBlockers (s : State) : List Bool :=
  [ s.lks.state != .off,
    !s.hpc1.state.quiet,
    !s.hpc2.state.quiet,
    !s.ltu.queue.isEmpty,
    !s.seq1.isIdle,
    !s.seq2.isIdle,
    s.rsc.state != .off,
    s.mcr.flight.isSome,
    s.sst.store != .idle,
    !s.mpt.notices.isEmpty,
    !s.hpc1.voice.capture.isEmpty || !s.hpc2.voice.capture.isEmpty ]

/-- The host silence limit in ms; none for off, and while the settings load (R195, R200). -/
def State.silenceLimit (s : State) : Option Nat :=
  if s.loading || s.sst.contents.control.silenceS = 0 then none else some (s.sst.contents.control.silenceS * 1000)

/-- The host silence timer starts at its limit, or is stopped where the limit is off or the settings load (R195,
R200). -/
def restartSilence (s : State) : State :=
  s.onMpt fun m => { m with silenceEnd := s.silenceLimit.map (fun ms => s.clock + ms) }

end Sys2Proof.Machine
end

