-- ==== Sys2Proof/Machine/Pair.lean ====
section
/-! DEFINITION. The claim table of the copper pair (01): requests, grants, releases and the re-examination, with
what a grant does to LKS and LTU; the start of a relay move to LOCAL. -/

namespace Sys2Proof.Machine

open Sys2Proof

/-! ## Grants -/

/-- LKS queues a LINK_STATE notice of the state it stands in (R21). -/
def linkNotice (prev : LinkState) (cause : LinkCause) (s : State) : State :=
  let k := s.lks
  notice
    (.linkState k.state prev k.wait cause k.rung s.uptime
      (if k.state = .carrying then k.attained else none)
      (if k.state = .waiting && k.wait = some .backoff then k.backoffEnd.map (s.secondsTo ·) else none))
    s

/-- The link enters GREETING (R24). -/
def enterGreeting (s : State) : State :=
  linkNotice s.lks.state .other
    (s.onLks fun k => { k with state := .greeting, wait := none, greetingEnd := some (s.after greetingMs) })

/-- PAC grants LINK (R3). -/
def grantLink (s : State) : State :=
  enterGreeting (s.onPac fun p => { p with link := { state := .held, since := s.uptime } })

/-- How many values a kind measures (R132). -/
def TestKind.values : TestKind → Nat
  | .foreignVoltage => 6
  | .insulation => 3
  | .capacitance => 3
  | .quietNoise => 1

/-- A granted test: it settles, its aggregates are empty (R137, R139). -/
def TestRun.start (kind : TestKind) (settleEnd : Nat) : TestRun where
  settleEnd := some settleEnd
  sampleAt := none
  sums := List.replicate kind.values 0
  taken := 0
  aggregates := []
  completed := 0

/-- LTU is told of a grant: its head enters SETTLE (R136, R137). -/
def Ltu.settle (settleEnd : Nat) (l : Ltu) : Ltu :=
  match l.queue with
  | [] => l
  | e :: rest =>
    { l with queue := { e with phase := .settle } :: rest, run := some (TestRun.start e.kind settleEnd) }

/-- PAC grants TEST: the test relay closes (R4, R7). -/
def grantTest (s : State) : State :=
  (s.onPac fun p =>
    { p with
      test := { state := .held, since := s.uptime }
      releaseAsked := false
      waitEnd := none
      testRelayClosed := true }).onLtu (Ltu.settle (s.after settleMs))

/-- PAC re-examines the WAITING claims, TEST before LINK (R1). -/
def reexamine (s : State) : State :=
  if s.pac.test.state = .waiting && s.testGrantable then grantTest s
  else if s.pac.link.state = .waiting && s.linkGrantable then grantLink s
  else s

/-! ## Requests, releases, withdrawals -/

/-- LKS asks for the pair (R3). -/
def requestLink (s : State) : State :=
  if s.linkGrantable then grantLink s
  else s.onPac fun p => { p with link := { state := .waiting, since := s.uptime } }

/-- LKS releases a HELD claim or withdraws a WAITING one (R3). -/
def releaseLink (s : State) : State :=
  if s.pac.link.state = .free then s
  else reexamine (s.onPac fun p => { p with link := { state := .free, since := s.uptime } })

/-- The TEST entry returns to FREE; the test relay opens (R6, R7). The re-examination is the caller's. -/
def freeTest (s : State) : State :=
  if s.pac.test.state = .free then s
  else
    s.onPac fun p =>
      { p with
        test := { state := .free, since := s.uptime }
        testInfo := none
        releaseAsked := false
        waitEnd := none
        testRelayClosed := false }

/-- LTU asks for the pair for an entry; the test relay is open while the claim waits (R4, R6, R7). -/
def claimTest (e : TestEntry) (s : State) : State :=
  let s1 := s.onPac fun p => { p with testInfo := some { job := e.job, origin := e.origin, disruptive := e.disruptive } }
  if s1.testGrantable then grantTest s1
  else
    s1.onPac fun p =>
      { p with
        test := { state := .waiting, since := s.uptime }
        waitEnd := some (s.after pairWaitMs)
        testRelayClosed := false }

/-! ## The move to LOCAL -/

/-- A move of the relay from COPPER to LOCAL starts; HPC1 follows into SWITCHING (R12, R18). -/
def startLocalMove (carriesOut : Bool) (s : State) : State :=
  (s.onPac fun p =>
    { p with
      copperOffHook := false
      relay :=
        { p.relay with
          deferred := false
          move := some
            { target := .localPort, doneAt := s.after relayMoveMs, reason := p.relay.reason,
              carriesOut := carriesOut } } }).onPort .one
    fun q => { q with state := .switching }

/-- The return to LOCAL of a relay that auto-lifeline took to COPPER (R17). -/
def tryReturnLocal (s : State) : State :=
  if (s.restsIn .copper && s.pac.relay.reason = .linkDown)
      && ((s.lks.state = .carrying && !s.pac.copperActive)
      && (s.psv.stage != .lifeline && !s.mpt.autonomous))
  then startLocalMove false s else s

end Sys2Proof.Machine
end

