-- ==== Sys2Proof/Machine/LinkCore.lean ====
section
/-! DEFINITION. The Link Supervisor (02, 03): attempts, entry to and departure from CARRYING, drops other than
LOSS and QUALITY, step-up trials, and the parts of the payload port and of MCR that a departure touches. -/

namespace Sys2Proof.Machine

open Sys2Proof

/-! ## Loopback, channel and payload port (09 R165, R171; R34) -/

/-- The port closes: its buffers are emptied into the flushed count (R34). -/
def flushPayload (s : State) : State :=
  s.onLks fun k =>
    { k with payload :=
      { k.payload with
        up := []
        down := []
        flushed := add32 k.payload.flushed (k.payload.up.length + k.payload.down.length) } }

/-- A running loopback ends with a cause; RESET queues no notice (R171). -/
def endLoopback (cause : LoopEnd) (s : State) : State :=
  match s.mcr.loopback with
  | none => s
  | some l =>
    let s1 := s.onMcr fun m => { m with loopback := none }
    if cause = .reset then s1 else notice (.remoteEvent (.loopbackEnded cause l.cells) s.uptime) s1

/-- The maintenance channel is no longer available (R165). -/
def channelLost (s : State) : State :=
  let s1 := s.onMcr fun m =>
    { m with
      flight := none
      abandoned := if m.flight.isSome then up16 m.abandoned else m.abandoned
      outbox := [] }
  endLoopback .linkDrop s1

/-! ## Intervals (R51, R52) -/

/-- The seconds an interval has classified (R51). -/
def Interval.seconds (r : Interval) : Nat := r.clean + r.errored + r.severe

/-- A new interval record begins (R51). -/
def beginInterval (s : State) : State :=
  s.onLks fun k =>
    { k with
      nextInterval := k.nextInterval + 1
      interval := some
        { number := k.nextInterval, start := s.uptime, rung := k.rung, clean := 0, errored := 0, severe := 0,
          lowMargin := 0, blocks := 0, unguarded := 0, guarded := 0, impulses := 0, guardedImpulses := 0,
          longest := 0, upCells := 0, downCells := 0, closing := none } }

/-- A record joins a history of at most 32, the oldest giving way (R52). -/
def pushHistory (r : Interval) (h : List Interval) : List Interval :=
  (h ++ [r]).drop (h.length + 1 - historyMax)

/-- A closed record is appended to the history, with its INTERVAL_END notice (R52). -/
def appendInterval (r : Interval) (s : State) : State :=
  notice (.intervalEnd r) (s.onLks fun k => { k with history := pushHistory r k.history })

/-- The current interval closes as partial; one without a classified second is discarded (R52). -/
def closePartial (reason : DropReason) (s : State) : State :=
  match s.lks.interval with
  | none => s
  | some r =>
    let s1 := s.onLks fun k => { k with interval := none }
    if r.seconds = 0 then s1 else appendInterval { r with closing := some (.drop reason) } s1

/-- What a departure from CARRYING does beside the change of state (R27, R34, R16). -/
def leaveCarrying (reason : DropReason) (s : State) : State :=
  let s1 := closePartial reason s
  let s2 := s1.onLks fun k =>
    { k with carryingSince := none, retrainEnd := none, powerDropEnd := none, lossEnd := none }
  let s3 := flushPayload (channelLost s2)
  s3.onPac fun p => { p with absenceFrom := some s.clock, absenceTaken := false }

/-! ## Step-up trials (R63, R64) -/

/-- A trial fails: the former rung returns and a barrier bars the target (R64, R65). -/
def trialFail (s : State) : State :=
  match s.lks.trial with
  | none => s
  | some t =>
    s.onLks fun k =>
      { k with
        trial := none
        rung := t.former
        barriers := k.barriers.setIfInBounds t.target (some (s.after barrierMs)) }

/-- A trial ends without a verdict (R64). -/
def trialEnd (s : State) : State := s.onLks fun k => { k with trial := none }

/-! ## Where a link goes (R22, R30, R33) -/

/-- The link goes to OFF; no timer of the link runs there (R22). -/
def toOff (cause : LinkCause) (s : State) : State :=
  linkNotice s.lks.state cause
    (s.onLks fun k =>
      { k with
        state := .off, wait := none, dest := none, backoffEnd := none, releaseWait := none, greetingEnd := none,
        trainingEnd := none, lossEnd := none, releasingEnd := none, retrainEnd := none, powerDropEnd := none })

/-- The link waits out a backoff of `waitS` seconds (R33). -/
def toBackoff (waitS : Nat) (cause : LinkCause) (s : State) : State :=
  linkNotice s.lks.state cause
    (s.onLks fun k =>
      { k with
        state := .waiting, wait := some .backoff, dest := none, backoffEnd := some (s.after (waitS * 1000)),
        releaseWait := none, greetingEnd := none, trainingEnd := none, releasingEnd := none })

/-- The ladder copy, the parameters and the rung an attempt takes at its step 1 (R23, R55, R63). -/
def freshLadder (s : State) : State :=
  s.onLks fun k =>
    let l := s.sst.contents.link
    { k with
      ladder := l.ladder
      params := l.params
      rung := if (rungIn l.ladder k.rung).isSome then k.rung else floorOf l.ladder
      trial := k.trial.filter (fun t => (rungIn l.ladder t.target).isSome) }

/-- WAITING with a wait reason, and a LINK_STATE notice where state or reason changed (R21). -/
def waitWith (w : WaitReason) (cause : LinkCause) (s : State) : State :=
  let s1 := s.onLks fun k =>
    { k with
      state := .waiting, wait := some w, dest := none, backoffEnd := none, releaseWait := none, greetingEnd := none,
      trainingEnd := none, releasingEnd := none }
  if s.lks.state = .waiting && s.lks.wait = some w then s1 else linkNotice s.lks.state cause s1

/-- An attempt begins (R23). -/
def beginAttempt (cause : LinkCause) (s : State) : State :=
  let s1 := freshLadder s
  match permittedFrom s1.psv.stage s1.lks.ladder s1.lks.rung with
  | none =>
    report .noPermittedRung .lks .major [d32 s1.psv.stage.ctorIdx, d32 s1.lks.rung]
      (waitWith .noPermittedRung cause s1)
  | some r =>
    let s2 := clearFault .noPermittedRung .lks (s1.onLks fun k => { k with rung := r })
    let s3 := waitWith .pair cause s2
    requestLink (s3.onLks fun k => { k with attempts := up16 k.attempts })

/-- An attempt that waits with reason NO_PERMITTED_RUNG runs again (R23). -/
def rerunAttempt (s : State) : State :=
  if s.lks.state = .waiting && s.lks.wait = some .noPermittedRung then beginAttempt .other s else s

/-- An attempt in GREETING or TRAINING is abandoned: the claim is released, a trial ends without a verdict
(R26, R64). -/
def abandonAttempt (s : State) : State :=
  releaseLink (trialEnd (s.onLks fun k => { k with greetingEnd := none, trainingEnd := none }))

/-- The code of an outcome or drop reason in the detail of LINK_DOWN (R26, R33, log 12). -/
def outcomeCode (o : FailOutcome) : Nat := o.ctorIdx
def reasonCode (r : DropReason) : Nat := 5 + r.ctorIdx

/-- The backoff value after a failure (R33). -/
def doubled (b : Nat) : Nat := min (2 * b) backoffMaxS

/-- An attempt fails (R26, R33, R64). -/
def failAttempt (o : FailOutcome) (s : State) : State :=
  let s1 := releaseLink (s.onLks fun k =>
    { k with greetingEnd := none, trainingEnd := none, failures := up16 k.failures, lastFail := some o })
  let s2 := trialFail s1
  let wait := s2.lks.backoff
  let s3 := toBackoff wait (.failed o) (s2.onLks fun k => { k with backoff := doubled wait })
  report .linkDown .lks .minor [d32 (outcomeCode o), d32 s3.lks.rung, d32 wait] s3

/-- A rung is not attainable: training steps down or the attempt fails (R25, R64). -/
def stepTraining (s : State) : State :=
  let s1 := trialFail s
  match permittedBelow s.psv.stage s.lks.ladder s.lks.rung with
  | some r =>
    linkNotice .training .other (s1.onLks fun k => { k with rung := r, trainingEnd := some (s.after trainingMs) })
  | none => failAttempt .notAttainable s1

/-- The link enters TRAINING (R25). -/
def enterTraining (s : State) : State :=
  linkNotice s.lks.state .other
    (s.onLks fun k => { k with state := .training, greetingEnd := none, trainingEnd := some (s.after trainingMs) })

/-- The link enters CARRYING (R27, R28, R46, R49, R51, R62, R63, R16, R17). -/
def enterCarrying (a : Attained) (s : State) : State :=
  let s1 := linkNotice s.lks.state .other
    (s.onLks fun k =>
      { k with
        state := .carrying
        trainingEnd := none
        carryingSince := some s.clock
        attained := some a
        lastFail := none
        lossEnd := if k.signalLost then some (s.after lossMs) else none
        reportAt := s.after 1000
        consecutiveSevere := 0
        stepClock := 0
        trial := k.trial.map (fun t => { t with watchEnd := some (s.after trialWatchMs) }) })
  let s2 := clearFault .linkDown .lks (beginInterval s1)
  tryReturnLocal (s2.onPac fun p => { p with absenceFrom := none, absenceTaken := false })

/-! ## Drops (R30) -/

/-- A drop sets the last drop reason and raises its counter (R30). -/
def countDrop (r : DropReason) (s : State) : State :=
  s.onLks fun k =>
    { k with
      lastDrop := some r
      drops := k.drops.setIfInBounds r.ctorIdx (up16 ((k.drops[r.ctorIdx]?).getD 0)) }

/-- An orderly release from CARRYING; `wait` is the backoff that follows (R30, R31). -/
def dropOrderly (r : DropReason) (dest : ReleaseDest) (wait : Option Nat) (s : State) : State :=
  let s1 := countDrop r s
  let s2 := linkNotice s.lks.state (.drop r)
    (s1.onLks fun k =>
      { k with
        state := .releasing, dest := some dest, releaseWait := wait, releasingEnd := some (s.after releasingMs) })
  leaveCarrying r s2

/-- An orderly drop of a reason other than LOSS and QUALITY; a watch ends without a verdict (R64). -/
def dropByReason (r : DropReason) (dest : ReleaseDest) (s : State) : State :=
  dropOrderly r dest none (trialEnd s)

/-- RELEASING ends: the claim is released and the link goes to its destination (R31). -/
def endReleasing (s : State) : State :=
  let cause : LinkCause := match s.lks.lastDrop with | some r => .drop r | none => .other
  let s1 := releaseLink (s.onLks fun k => { k with releasingEnd := none })
  match s.lks.dest with
  | some .off => toOff cause s1
  | _ =>
    match s.lks.releaseWait with
    | some w => toBackoff w cause s1
    | none => beginAttempt cause s1

/-- A step-up is carried out if it is due (R62, R63). -/
def stepUpCheck (s : State) : State :=
  match s.stepUpDue with
  | none => s
  | some target =>
    dropOrderly .stepTrial .waiting none
      (s.onLks fun k => { k with trial := some { former := k.rung, target := target, watchEnd := none }, rung := target })

/-- The pending power drop is made (R42). -/
def powerDrop (s : State) : State := dropByReason .power .waiting s

/-- PAC's release request reaches LKS (R5). -/
def releaseRequest (s : State) : State :=
  match s.lks.state with
  | .carrying => dropByReason .test .waiting s
  | .greeting => beginAttempt .other (abandonAttempt s)
  | .training => beginAttempt .other (abandonAttempt s)
  | _ => s

/-- PAC asks LKS to release the pair for a waiting disruptive test (R5). -/
def askRelease (s : State) : State :=
  let wanted := match s.pac.testInfo with | some i => i.disruptive | none => false
  if (s.pac.test.state = .waiting && wanted) && (s.pac.link.state = .held && (s.noCall && !s.pac.releaseAsked))
  then releaseRequest (s.onPac fun p => { p with releaseAsked := true })
  else s

/-- PAC's hazard response reaches LKS, which holds the claim (R10, R30, R31). -/
def linkHazard (s : State) : State :=
  match s.lks.state with
  | .carrying =>
    leaveCarrying .hazard (beginAttempt (.drop .hazard) (releaseLink (countDrop .hazard (trialEnd s))))
  | .greeting => beginAttempt (.drop .hazard) (abandonAttempt (countDrop .hazard s))
  | .training => beginAttempt (.drop .hazard) (abandonAttempt (countDrop .hazard s))
  | .releasing => endReleasing ((countDrop .hazard s).onLks fun k => { k with releaseWait := none })
  | _ => s

/-- An abrupt drop to OFF, from every state that holds the claim; from WAITING without a drop (R43, R45). -/
def linkOff (r : DropReason) (s : State) : State :=
  match s.lks.state with
  | .off => s
  | .waiting => toOff (if r = .reset then .drop .reset else .other) (releaseLink (trialEnd s))
  | .carrying => leaveCarrying r (toOff (.drop r) (releaseLink (countDrop r (trialEnd s))))
  | _ => toOff (.drop r) (abandonAttempt (countDrop r s))

/-! ## The link under the holdover stages (R41 to R43) -/

/-- The current rung is of power class FULL. -/
def Lks.fullRung (k : Lks) : Bool :=
  match rungIn k.ladder k.rung with
  | some r => r.power = .full
  | none => false

/-- LKS on entry to CONSERVE (R42). -/
def linkConserve (s : State) : State :=
  if s.lks.fullRung then
    match s.lks.state with
    | .carrying =>
      let s1 := s.onLks fun k => { k with powerDropEnd := some (s.after callGraceMs) }
      if s1.noCall then powerDrop s1 else s1
    | .greeting => beginAttempt .other (abandonAttempt s)
    | .training => beginAttempt .other (abandonAttempt s)
    | _ => rerunAttempt s
  else rerunAttempt s

/-- LKS on a return to MAINS (R22, R41, R42, R62). -/
def linkMains (s : State) : State :=
  let s1 := s.onLks fun k => { k with powerDropEnd := none }
  let s2 := if s1.lks.state = .off && s1.lks.enabled then beginAttempt .other s1 else rerunAttempt s1
  stepUpCheck s2

/-- A trial whose watch has not begun ends when the stage leaves MAINS (R64). -/
def trialStage (s : State) : State :=
  if s.psv.stage = .mains then s else s.onLks fun k => { k with trial := k.trial.filter (fun t => t.watchEnd.isSome) }

/-- LKS is told of the stage that PSV has entered (R41 to R43, R64). -/
def linkStage (s : State) : State :=
  let s1 := trialStage s
  match s1.psv.stage with
  | .mains => linkMains s1
  | .battery => rerunAttempt s1
  | .conserve => linkConserve s1
  | .lifeline => linkOff .power s1

end Sys2Proof.Machine
end

