-- ==== Sys2Proof/Machine/TestCore.lean ====
section
/-! DEFINITION. The Line Test Unit (07): requests, accumulation, rounding, verdicts, and the end of a test. -/

namespace Sys2Proof.Machine

open Sys2Proof

/-! ## Numbers (R132, R138, R139) -/

/-- A quotient rounded by the rounding mode (R138). -/
def roundDiv (mode : Rounding) (n : Int) (d : Nat) : Int :=
  let q := n.fdiv d
  let r := n - q * d
  if 2 * r < d then q
  else if (d : Int) < 2 * r then q + 1
  else
    match mode with
    | .halfUp => q + 1
    | .nearestEven => if q % 2 = 0 then q else q + 1

/-- The place of a kind's first value among the thirteen of R132. -/
def TestKind.place : TestKind → Nat
  | .foreignVoltage => 0
  | .insulation => 6
  | .capacitance => 9
  | .quietNoise => 12

/-- The range of the value at a place (R132). -/
def rangeOf (place : Nat) : Int × Int := (if place < 3 then -150000 else 0, limitMax place)

/-- A number clamped to a range, with the mark that it was (R138). -/
def clamp (lo hi z : Int) : Int × Bool :=
  if z < lo then (lo, true) else if hi < z then (hi, true) else (z, false)

/-- The value of a completed repeat: sum by 16, rounded and clamped (R138). -/
def repeatValue (mode : Rounding) (place : Nat) (sum : Int) : Int × Bool :=
  clamp (rangeOf place).1 (rangeOf place).2 (roundDiv mode sum samplesPerRepeat)

/-- A repeat's value joins the aggregates of its value (R139). -/
def Aggregate.add (v : Int × Bool) : Option Aggregate → Aggregate
  | none => { min := v.1, max := v.1, sum := v.1, saturated := v.2 }
  | some a =>
    { min := Min.min a.min v.1, max := Max.max a.max v.1, sum := a.sum + v.1, saturated := a.saturated || v.2 }

/-- The aggregates after a repeat with these sums (R139). -/
def addRepeat (mode : Rounding) (place : Nat) (aggregates : List Aggregate) (sums : List Int) : List Aggregate :=
  sums.zipIdx.map fun x => Aggregate.add (repeatValue mode (place + x.2) x.1) aggregates[x.2]?

/-! ## Verdicts (R140) -/

/-- The value judged against the limits of a place (R140). -/
def judged (place : Nat) (a : Aggregate) : Int :=
  if place < 3 then Max.max a.min.natAbs a.max.natAbs
  else if limitUpper place then a.max
  else a.min

/-- The verdict of a judged value (R140). -/
def verdictOf (upper : Bool) (l : TestLimit) (j : Int) : Verdict :=
  if upper then
    if j < l.marginal then .pass else if j < l.fail then .marginal else .fail
  else
    if (l.marginal : Int) ≤ j then .pass else if (l.fail : Int) ≤ j then .marginal else .fail

/-- The limits of a place in the TESTS block. -/
def TestsSettings.limit (t : TestsSettings) (place : Nat) : TestLimit := (t.limits[place]?).getD ⟨0, 0⟩

/-- A value of the result (R139, R140). -/
def testValue (t : TestsSettings) (place completed : Nat) (a : Aggregate) : TestValue where
  min := a.min
  max := a.max
  mean := roundDiv t.rounding a.sum completed
  saturated := a.saturated
  verdict := verdictOf (limitUpper place) (t.limit place) (judged place a)

/-- The worse of two verdicts. -/
def Verdict.worse (a b : Verdict) : Verdict := if a.ctorIdx < b.ctorIdx then b else a

/-- The worst verdict of a result, none without values (R140). -/
def worstOf (values : List TestValue) : Option Verdict :=
  match values with
  | [] => none
  | v :: vs => some (vs.foldl (fun w x => w.worse x.verdict) v.verdict)

/-- The estimated length of a CAPACITANCE test (R139). -/
def estimate (t : TestsSettings) (kind : TestKind) (values : List TestValue) : Option (Nat × Bool) :=
  match kind, values with
  | .capacitance, v :: _ =>
    let c := clamp 0 20000 (roundDiv t.rounding (v.mean * 1000) t.cable)
    some (c.1.toNat, c.2)
  | _, _ => none

/-- The result record of an entry that ends (R141 step 1, R142). -/
def testResult (t : TestsSettings) (e : TestEntry) (run : Option TestRun) (status : TestStatus)
    (abort : Option AbortReason) (uptime : Nat) : TestResult :=
  let completed := (run.map (·.completed)).getD 0
  let aggregates := (run.map (·.aggregates)).getD []
  let values :=
    if completed = 0 then [] else aggregates.zipIdx.map fun x => testValue t (e.kind.place + x.2) completed x.1
  { job := e.job, kind := e.kind, origin := e.origin, status := status, abort := abort, repeats := e.repeats,
    completed := completed, values := values, length := estimate t e.kind values, worst := worstOf values,
    uptime := uptime }

/-! ## Faults of a result (R143) -/

def TestKind.faultCode : TestKind → FaultCode
  | .foreignVoltage => .lineTestForeignVoltage
  | .insulation => .lineTestInsulation
  | .capacitance => .lineTestCapacitance
  | .quietNoise => .lineTestQuietNoise

/-- The judged value of a value of a result (R140). -/
def judgedValue (place : Nat) (v : TestValue) : Int :=
  judged place { min := v.min, max := v.max, sum := 0, saturated := v.saturated }

/-- The detail of a test fault: job, origin, first value with the worst verdict, its judged value (R143). -/
def resultDetail (r : TestResult) (worst : Verdict) : List (BitVec 32) :=
  let i := (r.values.findIdx? (fun v => v.verdict = worst)).getD 0
  let j := match r.values[i]? with | some v => judgedValue (r.kind.place + i) v | none => 0
  [d32 r.job, d32 r.origin.ctorIdx, d32 (i + 1), BitVec.ofInt 32 j]

/-- The fault a result records or clears (R143). -/
def resultFault (r : TestResult) (s : State) : State :=
  match r.status, r.worst with
  | .complete, some .pass => clearFault r.kind.faultCode .ltu s
  | .complete, some .marginal => report r.kind.faultCode .ltu .minor (resultDetail r .marginal) s
  | .complete, some .fail => report r.kind.faultCode .ltu .major (resultDetail r .fail) s
  | .partialResult, some .marginal => report r.kind.faultCode .ltu .minor (resultDetail r .marginal) s
  | .partialResult, some .fail => report r.kind.faultCode .ltu .major (resultDetail r .fail) s
  | _, _ => s

/-! ## The queue (R133 to R136) -/

/-- The head asks PAC for the pair and enters CLAIMING (R136); PAC checks whether to ask for a release (R5). -/
def claimHead (s : State) : State :=
  match s.ltu.queue with
  | [] => s
  | e :: rest => askRelease (claimTest e (s.onLtu fun l => { l with queue := { e with phase := .claiming } :: rest }))

/-- The job number after n: 255 is followed by 1 (R133). -/
def nextJobAfter (n : Nat) : Nat := if 255 ≤ n then 1 else n + 1

/-- LTU takes a test request of any origin, by steps 2 to 5 of R134 (R135). -/
def requestTest (kind : TestKind) (origin : Origin) (repeats : Nat) (disruptive : Bool) (s : State) :
    TestAnswer × State :=
  if s.psv.stage = .conserve || s.psv.stage = .lifeline then (.powerLimit, s)
  else
    match s.ltu.queue.find? (fun e => e.kind = kind && e.origin = origin) with
    | some e => (.accepted .merged e.job, s)
    | none =>
      if testQueueMax ≤ s.ltu.queue.length then (.queueFull, s)
      else
        let job := s.ltu.nextJob
        let e : TestEntry :=
          { job := job, kind := kind, origin := origin, repeats := repeats, disruptive := disruptive,
            arrival := s.uptime, phase := .queued }
        let s1 := s.onLtu fun l => { l with queue := l.queue ++ [e], nextJob := nextJobAfter job }
        (.accepted .queued job, if s.ltu.queue.isEmpty then claimHead s1 else s1)

/-! ## The end of a test (R141) -/

/-- PARTIAL with a repeat completed, ABORTED with none (R141). -/
def cutStatus (run : Option TestRun) : TestStatus :=
  match run with
  | some r => if r.completed = 0 then .aborted else .partialResult
  | none => .aborted

/-- Step 4 of R141 for the head: the claim is freed and, where `claimNext`, a new head's request handed over in the same
moment. -/
def handOver (claimNext : Bool) (s : State) : State :=
  let s1 := freeTest s
  if claimNext then claimHead s1 else s1

/-- An entry ends (R141). `isHead` tells whether it is the head, whose run and claim end with it. PAC's re-examination
stands behind the TEST_DONE notice, as the example of 07 section 7.7 tells it, and behind the fault (log 17). -/
def finishTest (isHead claimNext : Bool) (e : TestEntry) (status : TestStatus) (abort : Option AbortReason)
    (s : State) : State :=
  let run := if isHead then s.ltu.run else none
  let r := testResult s.sst.contents.tests e run status abort s.uptime
  let s1 := s.onLtu fun l =>
    { l with
      results := l.results.setIfInBounds e.kind.ctorIdx (some r)
      queue := eraseFirst (fun x => x.job = e.job) l.queue
      run := if isHead then none else l.run }
  let s2 := if isHead then handOver claimNext s1 else s1
  let s3 := resultFault r
    (notice
      (.testDone r.job r.kind r.origin r.status r.abort r.completed r.repeats r.worst r.uptime) s2)
  if isHead then reexamine s3 else s3

/-- The head ends early with a reason (R144, R146, R147). -/
def cutHead (claimNext : Bool) (reason : AbortReason) (s : State) : State :=
  match s.ltu.queue with
  | [] => s
  | e :: _ => finishTest true claimNext e (cutStatus s.ltu.run) (some reason) s

/-- PAC ends the running test: it frees the claim, takes what `between` stands for, and tells LTU
(R2, R9, R10, R144). -/
def abortTest (reason : AbortReason) (between : State → State) (s : State) : State :=
  if s.pac.test.state = .held then cutHead true reason (between (freeTest s)) else between s

/-- The queue is emptied from head to tail at entry to CONSERVE or LIFELINE (R146). -/
def emptyQueue : Nat → State → State
  | 0, s => s
  | n + 1, s => emptyQueue n (cutHead false .power s)

/-- LTU is told of the stage that PSV has entered (R146). -/
def testStage (s : State) : State :=
  if s.psv.stage = .conserve || s.psv.stage = .lifeline then emptyQueue s.ltu.queue.length s else s

/-- LTU at a LINES reset: the head ends with reason RESET, the others are discarded (R147). -/
def testLines (s : State) : State :=
  match s.ltu.queue with
  | [] => s
  | e :: _ => cutHead false .reset (s.onLtu fun l => { l with queue := [e] })

end Sys2Proof.Machine
end

