-- ==== Sys2Proof/Machine/Storm.lean ====
section
/-! DEFINITION. LOSS and QUALITY drops with their backoff, the drop window and storm steps (02 R30, R33; 03 R56
to R61), and what the end of calls and the close of an interval bring about. -/

namespace Sys2Proof.Machine

open Sys2Proof

/-- The job number an INTERNAL request is answered with, 0 where it was refused (R60). -/
def TestAnswer.job : TestAnswer → Nat
  | .accepted _ job => job
  | _ => 0

/-- A storm step (R59), or the one at the floor with its two INTERNAL tests (R60). `oldest` is the uptime of the
oldest of the three drops. -/
def stormStep (oldest : Nat) (s : State) : State :=
  match permittedBelow s.psv.stage s.lks.ladder s.lks.rung with
  | some r =>
    report .linkUnstable .lks .minor [d32 s.lks.rung, d32 r, d32 oldest] (s.onLks fun k => { k with rung := r })
  | none =>
    let a := requestTest .foreignVoltage .internal 1 false s
    let b := requestTest .insulation .internal 1 false a.2
    report .linkFailing .lks .major
      [d32 s.lks.rung, d32 s.psv.stage.ctorIdx, d32 a.1.job, d32 b.1.job] b.2

/-- A LOSS or QUALITY drop enters the drop window; a third one takes a storm step and empties it (R58). -/
def enterWindow (r : DropReason) (s : State) : State :=
  let w := (s.lks.window.filter (fun d => s.clock ≤ d.at_ + dropWindowMs)) ++ [{ at_ := s.clock, reason := r }]
  if w.length < 3 then s.onLks fun k => { k with window := w }
  else
    let oldest := ((w.head?.map (·.at_)).getD 0) / 1000
    stormStep oldest (s.onLks fun k => { k with window := [] })

/-- The drop counts as a failure: less than 60 s after carrying-since, from the ms of the entry (R33, log 43). -/
def State.earlyDrop (s : State) : Bool :=
  match s.lks.carryingSince with
  | some t => s.clock < t + earlyDropMs
  | none => false

/-- The backoff value after a LOSS or QUALITY drop (R33). -/
def countFailure (s : State) : State :=
  s.onLks fun k => { k with backoff := if s.earlyDrop then doubled k.backoff else k.backoff }

/-- The LINK_DOWN fault of a drop, and its place in the drop window (R33, R58, R59). -/
def recordDrop (r : DropReason) (wait : Nat) (s : State) : State :=
  enterWindow r (report .linkDown .lks .minor [d32 (reasonCode r), d32 s.lks.rung, d32 wait] s)

/-- A LOSS drop: abrupt, to WAITING, with backoff (R28, R30, R33, R64). A trial in its watch has failed before the
notice and the fault, which carry the former rung (log 23). -/
def lossDrop (s : State) : State :=
  let wait := s.lks.backoff
  let s1 := countFailure (trialFail (countDrop .loss s))
  let s2 := toBackoff wait (.drop .loss) (releaseLink (s1.onLks fun k => { k with lossEnd := none }))
  recordDrop .loss wait (leaveCarrying .loss s2)

/-- A QUALITY drop: orderly, to WAITING, with backoff (R30, R33, R50, R56, R64); with a trial as at a LOSS drop (log
23). -/
def qualityDrop (s : State) : State :=
  let wait := s.lks.backoff
  let s1 := countFailure (trialFail s)
  recordDrop .quality wait (dropOrderly .quality .waiting (some wait) s1)

/-- The last CONNECTED port has left CONNECTED: a waiting retrain or power drop is made; where both wait, either
(R42, R57). -/
def callsEnded (s : State) : State :=
  if s.noCall then
    match s.lks.retrainEnd.isSome, s.lks.powerDropEnd.isSome with
    | true, true =>
      let c := s.choose 2
      if c.1 = 0 then qualityDrop c.2 else powerDrop c.2
    | true, false => qualityDrop s
    | false, true => powerDrop s
    | false, false => s
  else s

/-- A COMPLETE interval reached the quality limit: the retrain is carried out, or deferred under call grace
(R56). -/
def raiseRetrain (s : State) : State :=
  if s.lks.retrainEnd.isSome then s
  else if s.noCall then qualityDrop s
  else s.onLks fun k => { k with retrainEnd := some (s.after callGraceMs) }

/-- The current interval closes COMPLETE after its sixtieth second and a new one begins (R52). -/
def closeComplete (s : State) : State :=
  match s.lks.interval with
  | none => s
  | some r =>
    if r.seconds < intervalS then s
    else
      let s1 := beginInterval (appendInterval { r with closing := some .complete } s)
      if s1.lks.params.quality ≤ r.severe then raiseRetrain s1 else s1

/-- Classification by the severe-second threshold (R49). -/
def classify (p : LinkParams) (r : LineReport) : SecondClass :=
  if r.signalLost || p.severe ≤ r.unguarded then .severe
  else if r.unguarded = 0 then .clean
  else .errored

/-- The second is LOW_MARGIN (R49). -/
def Lks.lowMargin (k : Lks) (r : LineReport) : Bool :=
  match rungIn k.ladder k.rung with
  | some g => r.margin < g.minMargin
  | none => false

/-- A second counted into an interval (R51). -/
def Interval.count (c : SecondClass) (low : Bool) (r : LineReport) (i : Interval) : Interval :=
  { i with
    clean := if c = .clean then i.clean + 1 else i.clean
    errored := if c = .errored then i.errored + 1 else i.errored
    severe := if c = .severe then i.severe + 1 else i.severe
    lowMargin := if low then i.lowMargin + 1 else i.lowMargin
    blocks := add32 i.blocks r.blocks
    unguarded := add32 i.unguarded r.unguarded
    guarded := add32 i.guarded r.guarded }

/-- Steps 1 and 2 of R50: the counts a classified second moves (R49, R51, R62). -/
def countSecond (r : LineReport) (s : State) : State :=
  s.onLks fun k =>
    let c := classify k.params r
    let low := k.lowMargin r
    { k with
      consecutiveSevere := if c = .severe then min (k.consecutiveSevere + 1) severeLimit else 0
      stepClock := if c = .severe || low then 0 else min (k.stepClock + 1) stepClockFull
      interval := k.interval.map (Interval.count c low r) }

/-- LKS takes a line report (R46, R50, R62). The step-up check of a clock that becomes full stands last, after step 4 of
R50 (log 35). -/
def takeReport (r : LineReport) (s : State) : State :=
  if s.lks.state = .carrying then
    let s0 := (s.reach s.lks.reportAt).onLks fun k => { k with reportAt := k.reportAt + 1000 }
    let s1 := closeComplete (countSecond r s0)
    let s2 := if s1.lks.state = .carrying && severeLimit ≤ s1.lks.consecutiveSevere then qualityDrop s1 else s1
    if s.lks.stepClock < stepClockFull then stepUpCheck s2 else s2
  else s

end Sys2Proof.Machine
end

