-- ==== Sys2Proof/Machine/PortCore.lean ====
section
/-! DEFINITION. The handset ports (04) and the ring supply's lists (05) as far as a change of port state needs
them: the reports of R69, auto-lifeline (R16), the ends of bursts (R113), the stop of a sequencer (R107), entry to
IDLE (R77) and to DISABLED (R87). -/

namespace Sys2Proof.Machine

open Sys2Proof

/-! ## The voice path (06) -/

/-- The voice path closes: the playout queue is emptied, playout is IDLE, the frame clock stops; the capture side
keeps its frames (R81, section 6.4). The two consecutive counts return to 0 here too (log 40). -/
def Voice.close (v : Voice) : Voice :=
  { v with
    state := .idle, queue := [], base := none, position := none, last := none, fills := 0, underruns := 0,
    slot := .nothing, tickAt := none }

/-- The voice path opens at entry to CONNECTED (R118, R123, R127). -/
def Voice.opened (now : Nat) (v : Voice) : Voice :=
  { v.close with state := .prefill, tickAt := some (now + frameMs), captureSeq := 0 }

/-! ## HPC1 leaves its local states (R14, R89) -/

/-- The record of HPC1 once the relay takes it out of its local states (R89). -/
def Port.toSwitching (q : Port) : Port :=
  { q with
    state := .switching, cause := none, fault := none, latched := false, offHook := false, pulse := none,
    dialMarker := false, autoMarker := false, receiverEnd := none, howlerEnd := none, retryEnd := none,
    retryOut := false, wiringBad := false, heldOffHook := false, voice := q.voice.close }

/-- A move to COPPER starts, or a move to LOCAL is retargeted (R12, R14). The deferred request that a retargeted move
was to carry out is no longer present: the notice of the completed move has outcome none (log 34). -/
def startCopperMove (reason : CopperReason) (s : State) : State :=
  s.onPac fun p =>
    { p with
      relay :=
        { p.relay with
          move := some { target := .copper, doneAt := s.after relayMoveMs, reason := reason, carriesOut := false } } }

/-- The conditions of auto-lifeline (R16). -/
def State.autoLifelineDue (s : State) : Bool :=
  let absent60 := match s.pac.absenceFrom with | some t => t + linkAbsenceMs ≤ s.clock | none => false
  (s.sst.contents.control.autoLifeline && s.restsIn .localPort)
    && ((s.lks.state != .carrying && absent60) && (s.hpc1.state = .idle || s.hpc1.state = .disabled))

/-- PAC evaluates auto-lifeline (R16). HPC1 is IDLE or DISABLED then: no call, program or burst ends with it. -/
def autoLifeline (s : State) : State :=
  if s.autoLifelineDue then (startCopperMove .linkDown s).onPort .one Port.toSwitching else s

/-! ## Reports of a change of port state (R69) -/

/-- A port controller reports a change of its state to LKS and to PAC (R42, R57, R62; R5, R16). What the last call held
up and PAC's release request come before the check of a step-up (log 35). -/
def portChanged (p : PortId) (old : PortState) (s : State) : State :=
  let new := (s.port p).state
  if new = old then s
  else
    let s1 := if old = .connected then askRelease (callsEnded s) else s
    let s2 := if new.quiet then stepUpCheck s1 else s1
    if p = .one then autoLifeline s2 else s2

/-! ## Ring guard and the ring supply's lists (R48, R108 to R113) -/

/-- An edge of a ring burst opens or extends the ring-guard window (R48). -/
def ringEdge (s : State) : State := s.onLks fun k => { k with ringGuard := some (s.after ringGuardMs) }

/-- The loads of the burst list together. -/
def loads (xs : List RingEntry) : Nat := (xs.map (·.load)).foldr (· + ·) 0

/-- The port has a burst, or waits. -/
def Rsc.bursting (r : Rsc) (p : PortId) : Bool := r.bursts.any (fun e => e.port = p)
def Rsc.waiting (r : Rsc) (p : PortId) : Bool := r.waits.any (fun e => e.port = p)

/-- The duration of the segment a run stands at. -/
def State.segmentOf (r : SeqRun) (s : State) : Segment :=
  ((s.program r.program).segments[r.segment]?).getD (seg .silence 10 true)

/-- A burst is granted: the port joins the burst list, its sequencer runs the segment, the edge is reported
(R103, R113). -/
def grantBurst (p : PortId) (load : Nat) (s : State) : State :=
  let s1 := s.onRsc fun r =>
    { r with
      bursts := r.bursts ++ [{ port := p, load := load, at_ := s.clock }]
      granted := up32 r.granted
      idleEnd := none }
  let s2 := s1.onSeq p fun q =>
    { q with run := q.run.map fun r =>
      { r with phase := .running, burst := true, endAt := s.after (s.segmentOf r).durationMs } }
  ringEdge s2

/-- The head of the wait list is granted if it fits (R111). -/
def tryHead (s : State) : State :=
  match s.rsc.waits with
  | [] => s
  | e :: rest =>
    if s.rsc.state = .ready && e.load + loads s.rsc.bursts ≤ s.rsc.capacity then
      grantBurst e.port e.load (s.onRsc fun r => { r with waits := rest })
    else s

/-- RSC tries the wait list, which holds at most two entries (R111). -/
def tryWaits (s : State) : State := tryHead (tryHead s)

/-- The idle timer starts when both lists are empty in READY (R109). -/
def idleCheck (s : State) : State :=
  if s.rsc.state = .ready && (s.rsc.bursts.isEmpty && (s.rsc.waits.isEmpty && s.rsc.idleEnd.isNone)) then
    s.onRsc fun r => { r with idleEnd := some (s.after supplyIdleMs) }
  else s

/-- The burst of a port ends: entry removed, edge, wait list tried, idle timer (R113). -/
def endBurst (p : PortId) (s : State) : State :=
  if s.rsc.bursting p then
    let s1 := s.onRsc fun r => { r with bursts := eraseFirst (fun e => e.port = p) r.bursts }
    idleCheck (tryWaits (ringEdge s1))
  else s

/-- A port leaves the wait list; where it was the head, the list is tried (R112). -/
def leaveWaits (p : PortId) (s : State) : State :=
  if s.rsc.waiting p then
    idleCheck (tryWaits (s.onRsc fun r => { r with waits := eraseFirst (fun e => e.port = p) r.waits }))
  else s

/-! ## The stop of a sequencer (R107) -/

/-- The port's markers of the program it started are clear once that program ends (R102). -/
def clearMarkers (p : PortId) (s : State) : State :=
  s.onPort p fun q => { q with dialMarker := false, autoMarker := false }

/-- A program is stopped: burst or wait ended, pending program discarded, IDLE; SEQ_DONE unless a LINES reset stops
it (R107, R117). -/
def stopSeq (cause : Option DoneCause) (p : PortId) (s : State) : State :=
  match (s.seq p).run with
  | none => s
  | some r =>
    let s1 := s.onSeq p fun q => { q with run := none }
    let s2 := if r.burst then endBurst p s1 else s1
    let s3 := if r.phase = .waitingSupply then leaveWaits p s2 else s2
    let s4 := clearMarkers p s3
    match cause with
    | none => s4
    | some c => notice (.seqDone p r.program c r.pass r.pending s.uptime) s4

/-! ## Entry to IDLE and to DISABLED -/

/-- The line faults of a port that has left FAULT are CLEARED (R86). -/
def clearWiring (p : PortId) (old : PortState) (s : State) : State :=
  if old = .fault then clearFault .portWiringLatched (portSource p) (clearFault .portWiringFault (portSource p) s)
  else s

/-- The states in which the debouncer and the line sense are stopped or held off (R70, R85). -/
def PortState.senseStopped : PortState → Bool
  | .disabled => true
  | .fault => true
  | .switching => true
  | _ => false

/-- The record of a port that enters IDLE (R70, R77). `restart`: the debouncer starts afresh; else an off-hook that is
held for the end of the wake delay stays held (R91). -/
def Port.toIdle (restart : Bool) (now : Nat) (settings : PortSettings) (q : Port) : Port :=
  { q with
    state := .idle, cause := none, fault := none, latched := false, offHook := !restart && q.heldOffHook,
    loopSince := if restart then now else q.loopSince,
    pulse := none, dialMarker := false, autoMarker := false, receiverEnd := none, howlerEnd := none, retryEnd := none,
    retryOut := false, wiringBad := if restart then false else q.wiringBad, copy := some settings,
    heldOffHook := !restart && q.heldOffHook, voice := q.voice.close }

/-- HPC2 does not stay in IDLE in CONSERVE or LIFELINE stage (R77, R90, R95); at the end of loading too it is judged by
the stage as it then stands (R94, log 36). -/
def shedAtIdle (p : PortId) (s : State) : State :=
  if p = .two && (s.psv.stage = .conserve || s.psv.stage = .lifeline) then
    s.onPort .two fun q => { q with state := .disabled, cause := some .power }
  else s

/-- Entry to IDLE (R77), with SEQ_DONE cause PORT for a program it stops unless the entry is silent (R95). `told`
is the port's own notice of it, queued before the reports of R69. -/
def enterIdleWith (cause : Option DoneCause) (restart : Bool) (told : State → State) (p : PortId) (s : State) : State :=
  let old := (s.port p).state
  let s1 := stopSeq cause p s
  let s2 := s1.onPort p (Port.toIdle (restart || old.senseStopped) s.clock (s.sst.contents.ports.of p))
  portChanged p old (shedAtIdle p (clearWiring p old (told s2)))

def enterIdle (p : PortId) (s : State) : State := enterIdleWith (some .port) false id p s

/-- The record of a port that enters DISABLED (R87). -/
def Port.toDisabled (cause : DisableCause) (q : Port) : Port :=
  { q with
    state := .disabled, cause := some cause, fault := none, latched := false, offHook := false, pulse := none,
    dialMarker := false, autoMarker := false, receiverEnd := none, howlerEnd := none, retryEnd := none,
    retryOut := false, wiringBad := false, heldOffHook := false, voice := q.voice.close }

/-- A port enters DISABLED from a local state, with the effects R87 lists. -/
def enterDisabled (cause : DisableCause) (p : PortId) (s : State) : State :=
  let old := (s.port p).state
  let s1 := (stopSeq (some .port) p s).onPort p (Port.toDisabled cause)
  portChanged p old (clearWiring p old s1)

/-- HPC2 is told of the stage that PSV has entered (R90). -/
def portStage (s : State) : State :=
  match s.psv.stage with
  | .mains => if s.hpc2.state = .disabled && s.hpc2.cause = some .power then enterIdle .two s else s
  | .battery => s
  | .conserve => if s.hpc2.state = .idle then enterDisabled .power .two s else s
  | .lifeline => if s.hpc2.state = .disabled then s else enterDisabled .power .two s

end Sys2Proof.Machine
end

