-- ==== Sys2Proof/Machine/Sequencer.lean ====
section
/-! DEFINITION. The sequencers (05): running segments, the end of a segment and of a program, starting programs,
and the ring supply's skips and cuts, which end segments. -/

namespace Sys2Proof.Machine

open Sys2Proof

/-! ## Beginning a segment (R100, R103, R111) -/

/-- A burst request joins the wait list; in OFF the supply starts to charge (R109, R111). -/
def joinWaits (p : PortId) (load : Nat) (s : State) : State :=
  s.onRsc fun r =>
    { r with
      waits := r.waits ++ [{ port := p, load := load, at_ := s.clock }]
      idleEnd := none
      state := if r.state = .off then .charging else r.state
      chargeEnd :=
        if r.state = .off then some (s.after (if s.psv.stage = .mains then chargeMainsMs else chargeOtherMs))
        else r.chargeEnd }

/-- A burst is skipped: both counts rise (R103, R111, R112). -/
def countSkip (p : PortId) (s : State) : State :=
  (s.onRsc fun r => { r with skipped := up32 r.skipped }).onSeq p fun q => { q with skipped := up16 q.skipped }

/-- The segment the sequencer stands at begins (R100). The mark tells that it was skipped at once and has ended. -/
def beginSegment (p : PortId) (s : State) : Bool × State :=
  match (s.seq p).run with
  | none => (false, s)
  | some r =>
    let g := s.segmentOf r
    if g.kind = .ringOn then
      let load := (s.port p).settings.ringLoad
      let s1 := s.onSeq p fun q =>
        { q with run := q.run.map fun r => { r with phase := .waitingSupply, left := g.durationMs, burst := false } }
      if s.rsc.capacity < load || s.rsc.state = .faultLatched then (true, countSkip p s1)
      else if s.rsc.state = .ready && (s.rsc.waits.isEmpty && load + loads s.rsc.bursts ≤ s.rsc.capacity) then
        (false, grantBurst p load s1)
      else (false, joinWaits p load s1)
    else
      (false, s.onSeq p fun q =>
        { q with run := q.run.map fun r =>
          { r with phase := .running, endAt := s.after g.durationMs, burst := false } })

/-! ## The end of a program (R102) -/

/-- A program begins at its segment 0 (R100). -/
def SeqRun.start (n : Nat) (p : Program) : SeqRun where
  phase := .running
  program := n
  segment := 0
  endAt := 0
  left := 0
  repeats := if p.repeats = 0 then none else some p.repeats
  pass := 1
  pending := none
  burst := false

/-- HPCp is told that a program has ended of its own accord (R79, R102). -/
def toldOfEnd (p : PortId) (s : State) : State :=
  let s1 := clearMarkers p s
  if (s1.port p).state = .ringing then enterIdle p s1 else s1

/-- A program ends of its own accord; the mark tells that a pending program takes its place (R102). -/
def endProgram (cause : DoneCause) (p : PortId) (r : SeqRun) (s : State) : Bool × State :=
  let s1 := notice (.seqDone p r.program cause r.pass r.pending s.uptime) s
  match r.pending with
  | some n => (true, (clearMarkers p s1).onSeq p fun q => { q with run := some (SeqRun.start n (s.program n)) })
  | none => (false, toldOfEnd p (s1.onSeq p fun q => { q with run := none }))

/-! ## The end of a segment (R101) -/

/-- Step 6: the run moves to its next segment; in PAUSING it pauses before it. The mark tells that the segment
begins. -/
def nextSegment (p : PortId) (r : SeqRun) (s : State) : Bool × State :=
  if r.phase = .pausing then
    (false, s.onSeq p fun q =>
      { q with run := some { r with phase := .paused, left := (s.segmentOf r).durationMs } })
  else (true, s.onSeq p fun q => { q with run := some r })

/-- Steps 3 to 6 of R101. -/
def segmentTail (p : PortId) (r : SeqRun) (s : State) : Bool × State :=
  let prog := s.program r.program
  if r.repeats = some 1 && prog.stop = some r.segment then endProgram .stopIndex p r s
  else if r.segment = prog.last then
    match r.repeats with
    | none => nextSegment p { r with pass := up16 r.pass, segment := 0 } s
    | some n =>
      if 1 < n then nextSegment p { r with repeats := some (n - 1), pass := up16 r.pass, segment := 0 } s
      else endProgram .completed p r s
  else nextSegment p { r with segment := r.segment + 1 } s

/-- The end of a segment (R101); `cutShort` tells that it was skipped or cut. In HELD the remaining time is then 0, for such
a segment too (log 43). -/
def segmentEnds (cutShort : Bool) (p : PortId) (s : State) : Bool × State :=
  match (s.seq p).run with
  | none => (false, s)
  | some r0 =>
    let r := { r0 with burst := false, left := 0 }
    let g := s.segmentOf r
    let s1 := if g.mark then notice (.seqMark p r.program r.segment r.pass cutShort s.uptime) s else s
    if g.hold then (false, s1.onSeq p fun q => { q with run := some { r with phase := .held } })
    else segmentTail p r s1

/-- Segments are run until one takes time. Where the count of those skipped at once runs out, the segment is left
due to end at this moment (log 18). -/
def runSegments : Nat → PortId → State → State
  | 0, p, s =>
    s.onSeq p fun q => { q with run := q.run.map fun r => { r with phase := .running, endAt := s.clock } }
  | n + 1, p, s =>
    match beginSegment p s with
    | (false, s1) => s1
    | (true, s1) =>
      match segmentEnds true p s1 with
      | (false, s2) => s2
      | (true, s2) => runSegments n p s2

/-- More segments than any program that ends can skip: 12 segments in 255 passes. -/
def skipFuel : Nat := 3100

/-- What follows the end of a segment or of a program. -/
def runOn (p : PortId) (x : Bool × State) : State := if x.1 then runSegments skipFuel p x.2 else x.2

/-- A segment ends, and the sequencer runs on (R101). -/
def takeSegmentEnd (cutShort : Bool) (p : PortId) (s : State) : State := runOn p (segmentEnds cutShort p s)

/-! ## Starting programs (R81, R100) -/

/-- A program starts on an IDLE sequencer (R100). -/
def startProgram (p : PortId) (n : Nat) (s : State) : State :=
  runSegments skipFuel p (s.onSeq p fun q => { q with run := some (SeqRun.start n (s.program n)) })

/-- HPCp starts a tone program: any program is stopped first, and one that holds a RING_ON segment is not started
(R68, R81). -/
def startTone (p : PortId) (n : Nat) (s : State) : State :=
  let s1 := stopSeq (some .port) p s
  if (s1.program n).rings then s1 else startProgram p n s1

/-- The dial tone at entry to OFFHOOK, with its marker (R77). -/
def startDialTone (p : PortId) (s : State) : State :=
  let s1 := startTone p (s.port p).settings.dialTone s
  s1.onPort p fun q => { q with dialMarker := (s1.seq p).run.isSome }

/-- The autonomous tone program (R92). -/
def startAutoTone (p : PortId) (s : State) : State :=
  let s1 := startTone p s.sst.contents.control.autoTone s
  s1.onPort p fun q => { q with dialMarker := false, autoMarker := (s1.seq p).run.isSome }

/-! ## Skips and cuts by the ring supply (R103, R110, R112, R114, R115) -/

/-- A waiting port is skipped: it leaves the list and its segment ends (R103, R112). -/
def skipWaiter (p : PortId) (s : State) : State :=
  if s.rsc.waiting p then takeSegmentEnd true p (leaveWaits p (countSkip p s)) else s

/-- A burst is cut: it leaves the list, the edge is reported, its segment ends (R103, R113). -/
def cutBurst (p : PortId) (s : State) : State :=
  if s.rsc.bursting p then
    let s1 := (s.onRsc fun r => { r with cut := up32 r.cut }).onSeq p fun q =>
      { q with skipped := up16 q.skipped, run := q.run.map fun r => { r with burst := false } }
    takeSegmentEnd true p (endBurst p s1)
  else s

/-- Bursts are cut, the latest first, while they exceed the capacity (R110 step 1). -/
def cutExcess : Nat → State → State
  | 0, s => s
  | n + 1, s =>
    if s.rsc.capacity < loads s.rsc.bursts then
      match s.rsc.bursts.getLast? with
      | some e => cutExcess n (cutBurst e.port s)
      | none => s
    else s

/-- Waiters whose load alone exceeds the capacity are skipped (R110 step 2). -/
def skipExcess (waits : List RingEntry) (s : State) : State :=
  waits.foldl (fun s e => if s.rsc.capacity < e.load then skipWaiter e.port s else s) s

/-- At capacity 0 the supply goes OFF from CHARGING and READY (R110 step 3). -/
def offAtZero (s : State) : State :=
  if s.rsc.capacity = 0 && (s.rsc.state = .charging || s.rsc.state = .ready) then
    s.onRsc fun r => { r with state := .off, chargeEnd := none, idleEnd := none }
  else s

/-- RSC is told of the stage that PSV has entered (R110). -/
def supplyStage (s : State) : State :=
  let old := s.rsc.capacity
  let new := capacityOf s.psv.stage
  let s1 := s.onRsc fun r => { r with capacity := new }
  if new < old then
    let s2 := cutExcess 2 s1
    offAtZero (skipExcess s2.rsc.waits s2)
  else if old < new then tryWaits s1
  else s1

/-- A supply fault (R114, R115). While the bursts are cut the supply stands in FAULT_RETRY already, so a request that a
cut brings about joins the wait list (log 40). -/
def supplyFaults (kind : SupplyFaultKind) (s : State) : State :=
  let s1 := s.onRsc fun r =>
    { r with state := .faultRetry, idleEnd := none, chargeEnd := none, retryEnd := some (s.after supplyRetryMs) }
  let s2 := s.rsc.bursts.foldl (fun s e => cutBurst e.port s) s1
  let history := (s.recent supplyHistoryMs s2.rsc.history) ++ [s.clock]
  let s3 := s2.onRsc fun r => { r with faults := up32 r.faults, history := history }
  if history.length < 3 then notice (.ringSupply (.retry kind history.length)) s3
  else
    let s4 := s3.onRsc fun r => { r with state := .faultLatched, history := [], retryEnd := none }
    let s5 := s4.rsc.waits.foldl (fun s e => skipWaiter e.port s) s4
    notice (.ringSupply (.latched kind))
      (report .ringSupply .rsc .major (d32 kind.ctorIdx :: history.map (fun t => d32 (t / 1000))) s5)

end Sys2Proof.Machine
end

