-- ==== Sys2Proof/Machine/Relay.lean ====
section
/-! DEFINITION. The copper side and the lifeline relay (01 R2, R8, R9, R12 to R18). -/

namespace Sys2Proof.Machine

open Sys2Proof

/-- The relay's target while it moves. -/
def Relay.target (r : Relay) : Option RelayPos := r.move.map (·.target)

/-! ## Activity of the copper side (R2, R8, R9) -/

/-- The LIFELINE claim is held (R2). -/
def holdLifeline (s : State) : State :=
  if s.pac.lifeline.state = .held then s
  else s.onPac fun p => { p with lifeline := { state := .held, since := s.uptime } }

/-- The copper side becomes active: a held test is ended, LIFELINE is held, HPC1 follows (R2, R8, R9, R18). -/
def copperActivates (reason : AbortReason) (s : State) : State :=
  if s.pac.copperActive then s
  else
    let s1 := (s.onPac fun p => { p with copperActive := true }).onPort .one fun q => { q with state := .copperActive }
    abortTest reason holdLifeline s1

/-- The copper side becomes idle: LIFELINE is freed, HPC1 follows, a deferred LOCAL request is carried out or a
LINK_DOWN relay returns (R2, R8, R15, R17, R62). LKS looks at its step-up before PAC looks at the return, which is then
not made where the link drops (log 35). -/
def copperIdles (s : State) : State :=
  if s.pac.copperActive then
    let s1 := s.onPac fun p => { p with copperActive := false, lifeline := { state := .free, since := s.uptime } }
    let s2 := reexamine (stepUpCheck (s1.onPort .one fun q => { q with state := .copperIdle }))
    if s2.pac.relay.deferred then startLocalMove true s2 else tryReturnLocal s2
  else s

/-! ## Moves to COPPER (R14) -/

/-- HPC1's local activity ends as a move to COPPER starts from LOCAL (R14, R89). -/
def endLocal (s : State) : State :=
  let old := s.hpc1.state
  let s1 := (stopSeq (some .port) .one s).onPort .one Port.toSwitching
  portChanged .one old (clearWiring .one old s1)

/-- A COPPER cause taken with the relay resting in COPPER: the reason is written; a deferred LOCAL request is
superseded (R14). -/
def copperCauseAtRest (reason : CopperReason) (s : State) : State :=
  let s1 := s.onPac fun p => { p with relay := { p.relay with reason := reason, deferred := false } }
  if s.pac.relay.deferred then notice (.lifelinePosition .copper reason (some .superseded)) s1 else s1

/-- A COPPER cause (R14). -/
def copperCause (reason : CopperReason) (s : State) : State :=
  match s.pac.relay.move with
  | some m =>
    if m.target = .localPort then startCopperMove reason s
    else s.onPac fun p => { p with relay := { p.relay with move := some { m with reason := reason } } }
  | none =>
    if s.pac.relay.pos = .localPort then endLocal (startCopperMove reason s)
    else copperCauseAtRest reason s

/-! ## The end of a move (R12, R18) -/

/-- The relay arrives in COPPER: the off-hook sense starts from on-hook; a ringing session makes the copper side
active (R8, R9, R12, R18). The step-up is checked before that, and before the return to LOCAL (R17, R62, log 35). -/
def arriveCopper (m : RelayMove) (s : State) : State :=
  let s1 := s.onPac fun p =>
    { p with copperOffHook := false, relay := { p.relay with pos := .copper, move := none, reason := m.reason } }
  let s2 := s1.onPort .one fun q => { q with state := .copperIdle, loopSince := s.clock }
  let s3 := stepUpCheck (notice (.lifelinePosition .copper m.reason none) s2)
  if s3.pac.ringSession then copperActivates .ringing s3 else tryReturnLocal s3

/-- The relay arrives in LOCAL: HPC1 enters IDLE and the link-absence time restarts (R12, R16, R18, R89). -/
def arriveLocal (m : RelayMove) (s : State) : State :=
  let s1 := s.onPac fun p =>
    { p with
      relay := { p.relay with pos := .localPort, move := none }
      absenceFrom := if s.lks.state = .carrying then none else some s.clock
      absenceTaken := false }
  let s2 := notice
    (.lifelinePosition .localPort s.pac.relay.reason (if m.carriesOut then some .carriedOut else none)) s1
  enterIdle .one s2

/-- A relay move completes (R12). -/
def completeMove (s : State) : State :=
  match s.pac.relay.move with
  | none => s
  | some m => if m.target = .copper then arriveCopper m s else arriveLocal m s

end Sys2Proof.Machine
end

