-- ==== Sys2Proof/Machine/Stage.lean ====
section
/-! DEFINITION. The Power Supervisor (10): stage changes, the supply watch, entry to DORMANT. -/

namespace Sys2Proof.Machine

open Sys2Proof

/-! ## The supply watch (R186) -/

/-- The watch is judged again; going to a mismatch queues a notice (R186). -/
def watchCheck (s : State) : State :=
  let now := s.conditions
  let m := Conditions.matches s.psv.watchMask s.psv.watchPattern now
  let s1 := s.onPsv fun p => { p with matching := m }
  if s.psv.matching && !m then notice (.supplyWatch now s.psv.watchMask s.psv.watchPattern s.uptime) s1 else s1

/-! ## A change of stage (R177 to R179) -/

/-- PAC is told of the stage: entry to LIFELINE is a COPPER cause (R14, R179). -/
def pairStage (s : State) : State := if s.psv.stage = .lifeline then copperCause .power s else s

/-- The record of a stage entered (R174, R178, R179). -/
def Psv.enter (stage : HoldStage) (cause : StageCause) (now uptime stage1Ms : Nat) (p : Psv) : Psv :=
  { p with
    stage := stage
    stageSince := uptime
    cause := cause
    stage1From := if stage = .battery then now else p.stage1From
    stage1End := if stage = .battery then some (now + stage1Ms) else none
    stageChanges := up16 p.stageChanges }

/-- The faults PSV reports for the stage it has entered (R179). -/
def stageFaults (s : State) : State :=
  match s.psv.stage with
  | .mains => clearFault .batteryLow .psv (clearFault .mainsLost .psv s)
  | .battery => report .mainsLost .psv .major [d32 s.psv.battery] s
  | st => report .batteryLow .psv .major [d32 s.psv.battery, d32 st.ctorIdx] s

/-- The stage-1 time of the POWER block in ms (R178). -/
def State.stage1Ms (s : State) : Nat := s.sst.contents.power.stage1Min * 60000

/-- PSV enters a stage and tells the blocks, LKS first (R179, log 17). SST takes no action of its own: it looks at
the stage when a save is asked for. -/
def enterStage (stage : HoldStage) (cause : StageCause) (s : State) : State :=
  let prev := s.psv.stage
  let s1 := s.onPsv (Psv.enter stage cause s.clock s.uptime s.stage1Ms)
  let s2 := testStage (pairStage (portStage (supplyStage (linkStage s1))))
  stageFaults (notice (.powerStage stage (some prev) cause s2.psv.battery s2.uptime) s2)

/-- The next descent that the thresholds call for (R177). -/
def State.descent (s : State) : Option (HoldStage × StageCause) :=
  match s.psv.stage with
  | .battery =>
    if s.psv.belowConserve = 3 then some (.conserve, .conserveThreshold)
    else if s.psv.belowLifeline = 3 then some (.lifeline, .lifelineThreshold)
    else none
  | .conserve => if s.psv.belowLifeline = 3 then some (.lifeline, .lifelineThreshold) else none
  | _ => none

/-- Descents are taken one after another at one moment; each is a wake cause (R177, R185). -/
def descend : Nat → State → State
  | 0, s => s
  | n + 1, s =>
    match s.descent with
    | none => s
    | some (st, cause) => descend n (enterStage st cause (wakeCause .stage none s))

/-- Entry to DORMANT, steps 1 and 2 of R181: from QUIESCENT the part returns to ACTIVE without delay or notice. What was
kept for the end of a wake delay is not taken, and the host silence timer stays stopped (log 42). -/
def enterDormant (s : State) : State :=
  let s1 := s.onPsv fun p => { p with mode := .active, wake := none, sleepGranted := false, stopping := true }
  report .batteryExhausted .psv .critical [d32 s.psv.battery, d32 s.sst.contents.power.cutoff] s1

/-- The cutoff is met in LIFELINE stage; a start defers the entry until loading completes (R181, R188). -/
def cutoffCheck (s : State) : State :=
  if (s.psv.stage = .lifeline && s.psv.belowCutoff = 3) && (!s.psv.stopping && !s.loading) then enterDormant s else s

/-- PSV checks the conditions of R177. -/
def stageCheck (s : State) : State := cutoffCheck (descend 2 s)

/-- The mains are declared (R175, R177, R185). -/
def declareMains (present : Bool) (s : State) : State :=
  let s1 := wakeCause .mains none
    (s.onPsv fun p => { p with mainsDeclared := present, debounceEnd := none })
  let s2 :=
    if present then (if s1.psv.stage = .mains then s1 else enterStage .mains .mainsPresent s1)
    else (if s1.psv.stage = .mains then enterStage .battery .mainsAbsent s1 else s1)
  watchCheck (stageCheck s2)

/-- The stage-1 timer runs out (R177, R178). -/
def stage1Expires (s : State) : State :=
  if s.psv.stage = .battery then
    stageCheck (enterStage .conserve .stage1Time (wakeCause .stage none (s.onPsv fun p => { p with stage1End := none })))
  else s

/-- A below count after a reading (R176). -/
def below (reading threshold count : Nat) : Nat := if reading < threshold then min (count + 1) 3 else 0

/-- A battery measurement (R176, R177). -/
def takeReading (mv : Nat) (s : State) : State :=
  let t := s.sst.contents.power
  let s1 := s.onPsv fun p =>
    { p with
      batteryInput := mv
      battery := mv
      belowConserve := below mv t.conserve p.belowConserve
      belowLifeline := below mv t.lifeline p.belowLifeline
      belowCutoff := below mv t.cutoff p.belowCutoff }
  watchCheck (stageCheck s1)

end Sys2Proof.Machine
end

