-- ==== Sys2Proof/Machine/Start.lean ====
section
/-! DEFINITION. Starts and resets: the sections "Starts and resets" of every chapter, the load of the settings
image (R206) and the stop of the part (R19, R181). -/

namespace Sys2Proof.Machine

open Sys2Proof

/-! ## The image (R206, R210, R212) -/

/-- The image with the entry of an item left with a bad CRC (R210). -/
def Image.spoil (i : SaveItem) (m : Image) : Image :=
  match i with
  | .block .ident => { m with ident := none }
  | .block .link => { m with link := none }
  | .block .ports => { m with ports := none }
  | .block .tones => { m with tones := none }
  | .block .programs => { m with programs := none }
  | .block .tests => { m with tests := none }
  | .block .power => { m with power := none }
  | .block .remote => { m with remote := none }
  | .block .control => { m with control := none }
  | .lockRecord => { m with locks := none }

/-- The image after a save is cut short, if one runs (R210). -/
def Sst.cutImage (t : Sst) : Image :=
  match t.store with
  | .saving r => t.image.spoil r.item
  | _ => t.image

/-- What an entry gives its block: contents and record (R206). -/
def loaded {α : Type} (entry : Option (α × Seq16)) (readable locked : Bool) (builtIn : α) : α × BlockMeta :=
  match entry, readable with
  | some (a, gen), true => (a, { gen := gen, dirty := false, locked := locked, good := true })
  | _, _ => (builtIn, { gen := 0, dirty := true, locked := locked, good := false })

/-- The lock flags the lock record gives, LINK and REMOTE (R206). -/
def loadedLocks (m : Image) (readable : Bool) : Bool × Bool :=
  if readable then m.locks.getD (false, false) else (false, false)

/-- SST after the read of the image; bit n of `unreadable`: entry n did not answer (R206). -/
def Sst.load (unreadable : BitVec 10) (t : Sst) : Sst :=
  let m := t.image
  let ok := fun n : Nat => !unreadable.getLsbD n
  let locks := loadedLocks m (ok 9)
  let b := Settings.builtIn
  let ident := loaded m.ident (ok 0) true b.ident
  let link := loaded m.link (ok 1) locks.1 b.link
  let ports := loaded m.ports (ok 2) false b.ports
  let tones := loaded m.tones (ok 3) false b.tones
  let programs := loaded m.programs (ok 4) false b.programs
  let tests := loaded m.tests (ok 5) false b.tests
  let power := loaded m.power (ok 6) false b.power
  let remote := loaded m.remote (ok 7) locks.2 b.remote
  let control := loaded m.control (ok 8) false b.control
  { t with
    store := .idle
    contents :=
      { ident := ident.1, link := link.1, ports := ports.1, tones := tones.1, programs := programs.1,
        tests := tests.1, power := power.1, remote := remote.1, control := control.1 }
    info := #v[ident.2, link.2, ports.2, tones.2, programs.2, tests.2, power.2, remote.2, control.2] }

/-- The lock record fails its CRC, or could not be read, which counts as failed (R206, log 44). -/
def Sst.locksBad (unreadable : BitVec 10) (t : Sst) : Bool := unreadable.getLsbD 9 || t.image.locks.isNone

/-! ## Starts (R19, R44, R66, R94, R117, R131, R147, R161, R173, R188, R200, R212) -/

/-- Every block takes its state of a start; what the phones do, the free values drawn and the queue of commands go
on. -/
def startBlocks (reason : StartReason) (flg : Flg) (mains : Bool) (batteryMv : Nat) (enclosureIsOpen : Bool)
    (s : State) : State :=
  { s with
    clock := 0
    powered := true
    mpt := Mpt.start
    pac := Pac.start
    lks := Lks.start
    hpc1 := Port.startOne s.hpc1.loopClosed
    hpc2 := Port.startTwo s.hpc2.loopClosed
    seq1 := Sequencer.start
    seq2 := Sequencer.start
    rsc := Rsc.start (stageAtStart mains batteryMv)
    ltu := Ltu.start
    flg := flg
    mcr := Mcr.start
    psv := Psv.start mains batteryMv enclosureIsOpen
    sst := Sst.start reason s.sst.cutImage }

/-- FLG at a FULL reset: the log is emptied, the retention domain stands (R158, R161). -/
def Flg.fullReset (f : Flg) : Flg := { f with log := [], next := 0, dropped := 0, evicted := 0, writing := false }

/-- A FULL reset; PSV reads the inputs as they stand (R188, R199). It does not turn back a part that goes on to its stop
in DORMANT (R181, log 38). -/
def fullReset (reason : StartReason) (s : State) : State :=
  if s.psv.stopping then s
  else startBlocks reason s.flg.fullReset s.psv.mainsInput s.psv.batteryInput s.psv.enclosureInputOpen s

/-- A start with a check of the retention domain (R159): power-on, or a wake from DORMANT. -/
def checkedStart (reason : StartReason) (mains : Bool) (batteryMv : Nat) (enclosureIsOpen recordKept countKept : Bool)
    (s : State) : State :=
  startBlocks reason (Flg.checked s.flg.retention recordKept countKept) mains batteryMv enclosureIsOpen s

/-- Loss of main power: a write of the retained record and a save are cut short, the relay falls; what else the
blocks held is gone (R19, R158, R210, log 27). -/
def losePower (s : State) : State :=
  let r := s.flg.retention
  let flg := { s.flg.fullReset with retention := { r with recordGood := r.recordGood && !s.flg.writing } }
  { startBlocks s.sst.reason flg s.psv.mainsInput s.psv.batteryInput s.psv.enclosureInputOpen s with
    powered := false }

/-- The part stops in DORMANT (R181 step 3): the relay falls, the queues of MPT are lost, a save is cut short. -/
def stopPart (s : State) : State :=
  let s1 := s.onMpt fun m => { m with rx := .hunt, replies := [], sending := none, notices := [], held := [] }
  let s2 := freeTest s1
  let s3 := s2.onPac fun p => { p with relay := { p.relay with pos := .copper, move := none, deferred := false } }
  let s4 := if s.restsIn .copper then s3 else s3.onPort .one fun q => { q.toSwitching with state := .copperIdle }
  let s5 := s4.onSst fun t => { t with image := t.cutImage, store := .idle }
  s5.onPsv fun p =>
    { p with
      mode := .dormant, stopping := false, wake := none,
      dormantWakeAt := if p.mainsInput then some (s.after mainsPresentMs) else none }

/-! ## When loading completes (R44, R94, R188, R194, R195, R206, R207) -/

/-- LKS takes its copies, the floor and the autostart setting (R44). The attempt goes by the stage as it stands at the end
of loading (log 43). -/
def linkLoaded (s : State) : State :=
  let l := s.sst.contents.link
  let s1 := s.onLks fun k =>
    { k with
      ladder := l.ladder, params := l.params, rung := floorOf l.ladder, enabled := s.sst.contents.control.autostart }
  if s1.lks.enabled && s1.psv.stage != .lifeline then beginAttempt .other s1 else s1

/-- The ports take their setting copies; HPC2 enters IDLE, or DISABLED by the stage as it stands at the end of loading
(R94, log 36). -/
def portsLoaded (s : State) : State :=
  let c := s.sst.contents.ports
  let s1 := (s.onPort .one fun q => { q with copy := some c.one }).onPort .two fun q => { q with copy := some c.two }
  enterIdle .two s1

/-- The loaded POWER block applies to a stage-1 timer that runs (R188, log 28). -/
def powerLoaded (s : State) : State :=
  s.onPsv fun p => { p with stage1End := p.stage1End.map fun _ => p.stage1From + s.stage1Ms }

/-- MPT takes its mask and starts the host silence timer (R194, R195). -/
def portLoaded (s : State) : State :=
  restartSilence (s.onMpt fun m => { m with mask := s.sst.contents.control.mask ||| forcedKinds })

/-- The START_REPORT notice (R207). The start count, the present flag and the retention-lost value are read as they stand
at the end of loading (R159, log 41). -/
def startReport (s : State) : State :=
  notice
    (.startReport s.sst.reason s.flg.retention.startCount s.flg.retention.record.isSome s.flg.lost
      (s.sst.info.toList.map (·.good)) (s.sst.info.toList.map (·.locked)))
    s

/-- SETTINGS_BAD for each defaulted block in block order, and for a failed lock record (R206). -/
def reportBad (locksBad : Bool) (s : State) : State :=
  let bad := s.sst.info.toList.zipIdx.filter (fun x => !x.1.good)
  let s1 := bad.foldl (fun s x => report .settingsBad .sst .major [d32 x.2] s) s
  if locksBad then report .settingsBad .sst .major [d32 9] s1 else s1

/-- PSV's faults at a start (R188). -/
def startFaults (s : State) : State :=
  let st := s.psv.stage
  let s1 := if st = .mains then s else report .mainsLost .psv .major [d32 s.psv.battery] s
  let s2 :=
    if st = .conserve || st = .lifeline then
      report .batteryLow .psv .major [d32 s.psv.battery, d32 st.ctorIdx] s1
    else s1
  if s.psv.enclosureOpen then report .enclosureOpen .psv .info [] s2 else s2

/-- The POWER_STAGE notice of a start (R188). -/
def startStage (s : State) : State :=
  notice (.powerStage s.psv.stage none .start s.psv.battery s.uptime) s

/-- The read of the image is done (R206). -/
def finishLoading (unreadable : BitVec 10) (s : State) : State :=
  let locksBad := s.sst.locksBad unreadable
  let s1 := portLoaded (powerLoaded (portsLoaded (linkLoaded (s.onSst (Sst.load unreadable)))))
  cutoffCheck (startFaults (reportBad locksBad (startStage (startReport s1))))

/-! ## A LINES reset (R20, R45, R66, R95, R117, R131, R147, R173, R199) -/

/-- LKS at a LINES reset, up to OFF (R45). -/
def linkLines (s : State) : State :=
  let s1 := trialEnd (linkOff .reset s)
  s1.onLks fun k =>
    { k with enabled := false, backoff := backoffMinS, retrainEnd := none, powerDropEnd := none }

/-- LKS after a LINES reset: autostart (R45). -/
def linkAutostart (s : State) : State :=
  if s.sst.contents.control.autostart then
    let s1 := s.onLks fun k => { k with enabled := true }
    if s1.psv.stage = .lifeline then s1 else beginAttempt .other s1
  else s

/-- A deferred LOCAL request is discarded with its notice (R15, R20). -/
def pairLines (s : State) : State :=
  if s.pac.relay.deferred then
    notice (.lifelinePosition s.pac.relay.pos s.pac.relay.reason (some .discarded))
      (s.onPac fun p => { p with relay := { p.relay with deferred := false } })
  else s

/-- RSC at a LINES reset: every burst ends with its edge, OFF from every state (R117). -/
def supplyLines (s : State) : State :=
  let s1 := s.rsc.bursts.foldl (fun s _ => ringEdge s) s
  clearFault .ringSupply .rsc
    (s1.onRsc fun r =>
      { r with
        state := .off, bursts := [], waits := [], idleEnd := none, chargeEnd := none, retryEnd := none,
        history := [] })

/-- The buffers a LINES reset empties in every port state (R95, R131). -/
def Port.emptied (q : Port) : Port := { q with digits := [], voice := { q.voice with capture := [] } }

/-- A port at a LINES reset (R95). HPC1 in SWITCHING or a copper state keeps its fault history and tone pause
reference. The entry to IDLE is reported to PAC, which evaluates auto-lifeline (R16, R20). A tone digit that still sounds
on a port taken to IDLE is forgotten, and its end sets no reference (log 36). -/
def portLines (p : PortId) (s : State) : State :=
  let s1 := stopSeq none p (s.onPort p Port.emptied)
  if (s.port p).state.isLocal then
    enterIdleWith none true id p (s1.onPort p fun q => { q with history := [], toneEnd := none, tone := none })
  else s1

/-- A LINES reset; PSV, SST, FLG and MPT stand (R199, log 26). A LIFELINE claim held for the copper side is kept with
its former uptime (R20, log 34). -/
def linesReset (s : State) : State :=
  let s1 := linkLines (endLoopback .reset s)
  let s2 := pairLines (testLines s1)
  let s3 := portLines .two (portLines .one (supplyLines s2))
  linkAutostart s3

end Sys2Proof.Machine
end

