-- ==== Sys2Proof/Machine/Frames.lean ====
section
/-! DEFINITION. Autonomous mode (R196, R197, R92) and what every good frame from the host does beside its own
matter (R189, R195, R197). -/

namespace Sys2Proof.Machine

open Sys2Proof

/-! ## OFFHOOK -/

/-- The record of a port that enters OFFHOOK, the receiver-off-hook timer at 20 s (R77, R79, R81). -/
def Port.toOffhook (now : Nat) (q : Port) : Port :=
  { q with
    state := .offhook, pulse := none, receiverEnd := some (now + receiverMs), howlerEnd := none, voice := q.voice.close }

/-! ## Autonomous mode -/

/-- A port at entry to autonomous mode (R92). -/
def portAutonomous (p : PortId) (s : State) : State :=
  match (s.port p).state with
  | .connected => portChanged p .connected (startAutoTone p (s.onPort p (Port.toOffhook s.clock)))
  | .offhook => startAutoTone p s
  | _ => s

/-- The part becomes autonomous (R196). -/
def enterAutonomous (s : State) : State :=
  let limit := s.sst.contents.control.silenceS
  let s1 := s.onMpt fun m => { m with autonomous := true, autonomousSince := s.clock, silenceEnd := none }
  let s2 := notice (.autonomous limit s.uptime) s1
  let s3 := copperCause .autonomous (portAutonomous .two (portAutonomous .one s2))
  report .hostSilent .mpt .major [d32 limit] s3

/-- A port at the end of autonomous mode (R92). -/
def portResumes (p : PortId) (s : State) : State :=
  if (s.port p).autoMarker then stopSeq (some .port) p s else s

/-- Autonomous mode ends, if the part is in it (R197). -/
def endAutonomous (s : State) : State :=
  if s.mpt.autonomous then
    let s1 := s.onMpt fun m => { m with autonomous := false }
    let s2 := notice (.autonomousEnd s.uptime ((s.clock - s.mpt.autonomousSince) / 1000)) s1
    clearFault .hostSilent .mpt (portResumes .two (portResumes .one s2))
  else s

/-! ## Good frames -/

/-- A good frame is taken: it restarts the host silence timer, its own rule applies, and it ends autonomous mode
(R195, R197). -/
def takeFrame (take : State → State) (s : State) : State := pump (endAutonomous (take (restartSilence s)))

/-- A good frame arrives: the receiver hunts again; it is a wake cause; in QUIESCENT it is kept for the end of the
wake delay (R185, R189). -/
def arriveFrame (c : Instr) (take : State → State) (s : State) : State :=
  let s1 := wakeCause .hostFrame none (s.onMpt fun m => { m with rx := .hunt, rxLast := s.clock })
  if s.psv.mode = .quiescent then s1.onMpt fun m => { m with held := m.held ++ [c] }
  else takeFrame take s1

/-- The outcome of a good frame from the host. -/
def frame (c : Instr) (take : State → State) (s : State) : Host.Outcome State Fault Refusal :=
  finish (whenAlive (arriveFrame c take) s)

end Sys2Proof.Machine
end

