-- ==== Sys2Proof/Machine/ControlLink.lean ====
section
/-! DEFINITION. The control link (11): the receiver, the transmitter's end of a frame, host silence, and the
requests of MPT and PSV that concern the whole part. -/

namespace Sys2Proof.Machine

open Sys2Proof

/-! ## Replies -/

/-- Reply data of HEARTBEAT (R198). -/
def heartbeatData (s : State) : List Byte :=
  u32 s.uptime ++ flag s.mpt.autonomous ++ u8 s.sst.contents.control.silenceS ++ u8 s.mpt.notices.length
    ++ u16 s.mpt.lost

/-- MPT's part of GET_STATUS (R198). -/
def mptStatus (s : State) : List Byte :=
  let m := s.mpt
  u16 m.lineErrors ++ u16 m.gapAbandons ++ u16 m.lengthErrors ++ u16 m.crcErrors ++ u16 m.unknownTypes
    ++ u16 m.discards ++ u16 m.lost ++ u32 m.malformed ++ flag m.autonomous
    ++ opt 1 (fun t => u8 (s.secondsTo t)) m.silenceEnd ++ u32 m.mask.toNat ++ u8 m.replies.length
    ++ u8 m.notices.length ++ u8 (s.hpc1.voice.capture.length + s.hpc2.voice.capture.length)

/-- A claim entry: state and uptime (R1). -/
def Claim.encode (c : Claim) : List Byte := u8 c.state.ctorIdx ++ u32 c.since

/-- The relay record (R12). -/
def Relay.encode (r : Relay) : List Byte :=
  u8 r.pos.ctorIdx ++ flag r.move.isSome ++ opt 1 (fun t : RelayPos => u8 t.ctorIdx) r.target ++ u8 r.reason.ctorIdx
    ++ flag r.deferred

/-- PAC's part of GET_STATUS: the claim table, the hazard hold, the relay record (R1, R11, R12). -/
def pacStatus (s : State) : List Byte :=
  let p := s.pac
  p.link.encode ++ p.lifeline.encode ++ p.test.encode
    ++ (match p.testInfo with
        | none => absent 4
        | some i => u8 i.job ++ u8 i.origin.ctorIdx ++ flag i.disruptive ++ flag p.releaseAsked)
    ++ flag p.hazardEnd.isSome ++ opt 4 (fun t => u32 (t / 1000)) p.hazardEnd ++ p.relay.encode

def RingEntry.encode (e : RingEntry) : List Byte := u8 (portNumber e.port) ++ u8 e.load ++ u32 (e.at_ / 1000)

/-- The ring supply record (R108). -/
def rscStatus (s : State) : List Byte :=
  let r := s.rsc
  u8 r.state.ctorIdx ++ u8 r.capacity ++ listOf RingEntry.encode r.bursts ++ listOf RingEntry.encode r.waits
    ++ opt 1 (fun t => u8 (s.secondsTo t)) r.idleEnd ++ opt 1 (fun t => u8 (t - s.clock)) r.chargeEnd
    ++ opt 1 (fun t => u8 (s.secondsTo t)) r.retryEnd ++ listOf (fun t => u32 (t / 1000)) r.history
    ++ u32 r.granted ++ u32 r.skipped ++ u32 r.cut ++ u32 r.faults

/-- The state of a sequencer: IDLE, or its phase (R99). -/
def Sequencer.stateCode (q : Sequencer) : Nat :=
  match q.run with
  | none => 0
  | some r => 1 + r.phase.ctorIdx

/-- The item being written: a block's number, and 9 for the lock record (R205, log 44). -/
def SaveItem.code : SaveItem → Nat
  | .block b => b.ctorIdx
  | .lockRecord => 9

/-- The store state: IDLE, LOADING, SAVING with the item being written (R205). -/
def StoreState.encode : StoreState → List Byte
  | .idle => u8 0 ++ absent 1
  | .loading => u8 1 ++ absent 1
  | .saving r => u8 2 ++ u8 r.item.code

/-- GOOD or DEFAULTED (R205). -/
def BlockMeta.statusCode (b : BlockMeta) : Nat := if b.good then 0 else 1

/-- The other blocks' part of GET_STATUS (R198, R205). -/
def otherStatus (s : State) : List Byte :=
  u8 s.lks.state.ctorIdx ++ u8 s.lks.rung ++ u8 s.hpc1.state.ctorIdx ++ u8 s.hpc2.state.ctorIdx
    ++ u8 s.seq1.stateCode ++ u8 s.seq2.stateCode ++ u8 s.psv.stage.ctorIdx ++ u8 s.psv.mode.ctorIdx
    ++ s.sst.store.encode ++ vec (fun b : BlockMeta => u8 b.statusCode) s.sst.info
    ++ u16 s.flg.retention.startCount

/-! ## HEARTBEAT, GET_STATUS (R198) -/

def takeHeartbeat (tag : Byte) (args : List Byte) : State → State :=
  takeRequest 0x01 true noArgs (fun _ s => (Answer.with .ok (heartbeatData s), s)) tag args

def execHeartbeat (tag : Byte) (args : List Byte) (s : State) : Host.Outcome State Fault Refusal :=
  frame (.heartbeat tag args) (takeHeartbeat tag args) s

def takeGetStatus (tag : Byte) (args : List Byte) : State → State :=
  takeRequest 0x02 true noArgs
    (fun _ s => (Answer.with .ok (mptStatus s ++ pacStatus s ++ rscStatus s ++ otherStatus s), s)) tag args

def execGetStatus (tag : Byte) (args : List Byte) (s : State) : Host.Outcome State Fault Refusal :=
  frame (.getStatus tag args) (takeGetStatus tag args) s

/-! ## PART_RESET, RESET_PIN (R199) -/

/-- PART_RESET with its scope: 0 FULL, which waits for its reply to be sent, 1 LINES, which is taken at once. -/
def partReset (scope : Nat) (s : State) : Answer × State :=
  match scope with
  | 0 => (⟨.ok, [], .fullReset⟩, s)
  | 1 => (Answer.ok, linesReset s)
  | _ => (Answer.refuse .badArgument, s)

def takePartReset (tag : Byte) (args : List Byte) : State → State :=
  takeRequest 0x03 false arg8 partReset tag args

def execPartReset (tag : Byte) (args : List Byte) (s : State) : Host.Outcome State Fault Refusal :=
  frame (.partReset tag args) (takePartReset tag args) s

def execResetPin (s : State) : Host.Outcome State Fault Refusal := event (fullReset .resetPin) s

/-! ## SLEEP (R183) -/

/-- The positions of the blockers whose condition fails (R183). -/
def blockerCodes (s : State) : List Nat := (s.sleepBlockers.zipIdx.filter (fun x => x.1)).map (·.2)

/-- The reply of an earlier grant, whose entry has been abandoned, no longer brings QUIESCENT (R183). -/
def TxFrame.withoutSleep : TxFrame → TxFrame
  | .reply r => .reply { r with after := if r.after = .enterQuiescent then .nothing else r.after }
  | f => f

def sleepRequest (s : State) : Answer × State :=
  if (blockerCodes s).isEmpty then
    (⟨.ok, [], .enterQuiescent⟩,
      (s.onMpt fun m => { m with sending := m.sending.map TxFrame.withoutSleep }).onPsv fun p =>
        { p with sleepGranted := true, sleepsGranted := up16 p.sleepsGranted })
  else
    (Answer.with .wrongState (listOf u8 (blockerCodes s)),
      s.onPsv fun p => { p with sleepsRefused := up16 p.sleepsRefused })

def takeSleep (tag : Byte) (args : List Byte) : State → State :=
  takeRequest 0x04 false noArgs (fun _ => sleepRequest) tag args

def execSleep (tag : Byte) (args : List Byte) (s : State) : Host.Outcome State Fault Refusal :=
  frame (.sleep tag args) (takeSleep tag args) s

/-! ## NOTICE_MASK (R194) -/

/-- The mask in use that a set of kinds gives: unknown bits dropped, two kinds always set (R194). -/
def maskInUse (kinds : BitVec 32) : BitVec 32 := (kinds &&& allKinds) ||| forcedKinds

def noticeMaskRequest (kinds : Nat) (s : State) : Answer × State :=
  let new := maskInUse (BitVec.ofNat 32 kinds)
  (Answer.with .ok (u32 s.mpt.mask.toNat ++ u32 new.toNat), s.onMpt fun m => { m with mask := new })

def takeNoticeMask (tag : Byte) (args : List Byte) : State → State :=
  takeRequest 0x05 false (fun bs => (rd32 bs).map (·.1)) noticeMaskRequest tag args

def execNoticeMask (tag : Byte) (args : List Byte) (s : State) : Host.Outcome State Fault Refusal :=
  frame (.noticeMask tag args) (takeNoticeMask tag args) s

/-! ## UNKNOWN_REQUEST_CODE (R192) -/

def takeUnknownRequestCode (tag : Byte) (body : List Byte) : State → State :=
  takeRequest (body.headD 0x00) true noArgs (fun _ s => (Answer.refuse .unknown, s)) tag body

def execUnknownRequestCode (tag : Byte) (body : List Byte) (s : State) : Host.Outcome State Fault Refusal :=
  frame (.unknownRequestCode tag body) (takeUnknownRequestCode tag body) s

/-! ## The receiver (R189) -/

/-- The count a frame that fails its checks raises: length, CRC or type (R189). Bytes that are no whole frame of
their length raise none. -/
def countDiscard (bytes : List Byte) (m : Mpt) : Mpt :=
  match bytes with
  | a :: b :: type :: _ =>
    let length := a.toNat + 256 * b.toNat
    if bodyMax < length then { m with lengthErrors := up16 m.lengthErrors }
    else if bytes.length = length + 6 then
      if u16 (crc (bytes.take (length + 4))).toNat = bytes.drop (length + 4) then
        if type = 0x01 || type = 0x02 then m else { m with unknownTypes := up16 m.unknownTypes }
      else { m with crcErrors := up16 m.crcErrors }
    else m
  | a :: b :: [] =>
    if bodyMax < a.toNat + 256 * b.toNat then { m with lengthErrors := up16 m.lengthErrors } else m
  | _ => m

def execFrameDiscard (bytes : List Byte) (s : State) : Host.Outcome State Fault Refusal :=
  event (fun s => s.onMpt fun m => { countDiscard bytes m with rx := .hunt, rxLast := s.clock }) s

/-- More than 5 ms without a byte in SYNC or FRAME (R189, log 24). -/
def receiverGap (s : State) : State :=
  if s.mpt.rx = .hunt then s
  else (s.reach (s.mpt.rxLast + gapMs + 1)).onMpt fun m => { m with rx := .hunt, gapAbandons := up16 m.gapAbandons }

def execReceiverGap (s : State) : Host.Outcome State Fault Refusal := event receiverGap s

/-- The phase after a byte (R189); the bytes of a frame come with the command of the whole frame. -/
def RxPhase.next (b : Byte) : RxPhase → RxPhase
  | .hunt => if b = 0xC5 then .sync else .hunt
  | .sync => if b = 0x3A then .frame else if b = 0xC5 then .sync else .hunt
  | .frame => .frame

def execSyncByte (byte : Byte) (s : State) : Host.Outcome State Fault Refusal :=
  event (fun s => s.onMpt fun m => { m with rx := m.rx.next byte, rxLast := s.clock }) s

/-- A byte without its stop bit is dropped and counted, in HUNT too (log 24); a frame under way is abandoned
(R189). -/
def Mpt.lineError (now : Nat) (m : Mpt) : Mpt := { m with rx := .hunt, rxLast := now, lineErrors := up16 m.lineErrors }

def execLineError (s : State) : Host.Outcome State Fault Refusal :=
  event (fun s => s.onMpt (Mpt.lineError s.clock)) s

/-! ## The end of a transmission (R129, R183, R199) -/

/-- The part enters QUIESCENT: the host silence timer, the line sense and the tone detectors stop
(R91, R183, R184, R195). -/
def enterQuiescent (s : State) : State :=
  let s1 := s.onPsv fun p =>
    { p with mode := .quiescent, quiescentSince := s.clock, sleepGranted := false, wake := none }
  let s2 := s1.onMpt fun m => { m with silenceEnd := none }
  (s2.onPort .one fun q => { q with tone := none }).onPort .two fun q => { q with tone := none }

/-- What takes effect when the last byte of a reply has been sent (R183, R199). The entry to QUIESCENT is abandoned by
wake causes alone: a port that has left R91's states since the grant, by a line fault or an auto-lifeline move, does not
hinder it (log 42). -/
def afterReply (a : AfterReply) (s : State) : State :=
  match a with
  | .nothing => s
  | .enterQuiescent => if s.psv.sleepGranted then enterQuiescent s else s
  | .fullReset => fullReset .resetRequest s

/-- The end of a transmission; the transmitter takes the next frame as the command ends (R129). -/
def transmitterFree (s : State) : State :=
  match s.mpt.sending with
  | none => s
  | some f =>
    let s1 := s.onMpt fun m => { m with sending := none }
    match f with
    | .reply r => afterReply r.after s1
    | _ => s1

def execTransmitterFree (s : State) : Host.Outcome State Fault Refusal := event transmitterFree s

/-! ## Host silence (R195, R196) -/

def execHostSilenceTimeout (s : State) : Host.Outcome State Fault Refusal :=
  event (fun s => onExpiry s.mpt.silenceEnd enterAutonomous s) s

end Sys2Proof.Machine
end

