-- ==== Sys2Proof/Machine/FaultCommands.lean ====
section
/-! DEFINITION. The requests on the fault log and the retained record, and the end of its write (08). -/

namespace Sys2Proof.Machine

open Sys2Proof

/-! ## FAULT_READ (R155, R203) -/

/-- The records a read from n finds, and whether it missed some (R155). -/
def recordsRead (n : Seq16) (log : List FaultRecord) : Bool × List FaultRecord :=
  match log.head?, log.getLast? with
  | some oldest, some newest =>
    if newer n newest.seq then (false, [])
    else if (newest.seq - n).toNat ≤ (newest.seq - oldest.seq).toNat then
      (false, log.filter fun r => (newest.seq - r.seq).toNat ≤ (newest.seq - n).toNat)
    else (true, log)
  | _, _ => (false, [])

/-- The records that fit, while the next fits whole, up to a number (R203). -/
def pack : Nat → Nat → List FaultRecord → List FaultRecord
  | 0, _, _ => []
  | _, _, [] => []
  | n + 1, room, r :: rest =>
    if r.encode.length ≤ room then r :: pack n (room - r.encode.length) rest else []

/-- The bytes of a body left behind code, status and the 13-byte header (R203). -/
def readRoom : Nat := bodyMax - 15

/-- The reply data of FAULT_READ (R203). -/
def faultData (n : Seq16) (f : Flg) : List Byte :=
  let found := recordsRead n f.log
  let records := pack 8 readRoom found.2
  let number := opt 2 fun r : FaultRecord => u16 r.seq.toNat
  u8 f.log.length ++ number f.log.head? ++ number f.log.getLast? ++ u16 f.next.toNat ++ u16 f.dropped ++ u16 f.evicted
    ++ flag found.1 ++ u8 records.length ++ records.flatMap FaultRecord.encode

def takeFaultRead (tag : Byte) (args : List Byte) : State → State :=
  takeRequest 0x48 false arg16 (fun n s => (Answer.with .ok (faultData (BitVec.ofNat 16 n) s.flg), s)) tag args

def execFaultRead (tag : Byte) (args : List Byte) (s : State) : Host.Outcome State Fault Refusal :=
  frame (.faultRead tag args) (takeFaultRead tag args) s

/-! ## FAULT_ACK, FAULT_PURGE (R156, R157) -/

/-- The selector of FAULT_ACK: 0 with a sequence number, 1 for ALL (R202). -/
def rdAck (bs : List Byte) : Option (Nat × Nat) := do
  let (selector, bs) ← rd8 bs
  if selector = 0 then
    let (n, _) ← rd16 bs
    pure (selector, n)
  else pure (selector, 0)

/-- The records that a condition selects are acknowledged. -/
def Flg.acknowledge (p : FaultRecord → Bool) (f : Flg) : Flg :=
  { f with log := f.log.map fun r => if p r then { r with acked := true } else r }

def faultAckRequest (a : Nat × Nat) (s : State) : Answer × State :=
  let seq : Seq16 := BitVec.ofNat 16 a.2
  match a.1 with
  | 0 =>
    if s.flg.log.any (fun r => r.seq = seq) then (Answer.ok, s.onFlg (Flg.acknowledge fun r => r.seq = seq))
    else (Answer.refuse .wrongState, s)
  | 1 => (Answer.ok, s.onFlg (Flg.acknowledge fun _ => true))
  | _ => (Answer.refuse .badArgument, s)

def takeFaultAck (tag : Byte) (args : List Byte) : State → State := takeRequest 0x49 false rdAck faultAckRequest tag args

def execFaultAck (tag : Byte) (args : List Byte) (s : State) : Host.Outcome State Fault Refusal :=
  frame (.faultAck tag args) (takeFaultAck tag args) s

def faultPurgeRequest (s : State) : Answer × State :=
  let kept := s.flg.log.filter FaultRecord.active
  (Answer.with .ok (u8 (s.flg.log.length - kept.length)), s.onFlg fun f => { f with log := kept })

def takeFaultPurge (tag : Byte) (args : List Byte) : State → State :=
  takeRequest 0x4A false noArgs (fun _ => faultPurgeRequest) tag args

def execFaultPurge (tag : Byte) (args : List Byte) (s : State) : Host.Outcome State Fault Refusal :=
  frame (.faultPurge tag args) (takeFaultPurge tag args) s

/-! ## The retained record (R158, R160) -/

/-- The check value of the retained record as FLG computes it (log 8). -/
def retainedCheckOf : Option RetainedFault → BitVec 32
  | none => Config.retainedCheck false 0 0 0 0 0
  | some r => Config.retainedCheck true r.code.ctorIdx r.uptime r.startCount r.detail0 r.detail1

/-- The reply data of RETAINED_READ (R158, R160); the retention-lost value is coded as in START_REPORT (log 12). -/
def retainedData (f : Flg) : List Byte :=
  let r := f.retention.record
  flag r.isSome ++ u8 ((r.map fun x => x.code.ctorIdx).getD 0) ++ u32 ((r.map fun x => x.uptime).getD 0)
    ++ u16 ((r.map fun x => x.startCount).getD 0) ++ u32 ((r.map fun x => x.detail0.toNat).getD 0)
    ++ u32 ((r.map fun x => x.detail1.toNat).getD 0) ++ u32 (retainedCheckOf r).toNat
    ++ u16 f.retention.startCount ++ u8 (retentionCode f.lost)

def takeRetainedRead (tag : Byte) (args : List Byte) : State → State :=
  takeRequest 0x4B false noArgs (fun _ s => (Answer.with .ok (retainedData s.flg), s)) tag args

def execRetainedRead (tag : Byte) (args : List Byte) (s : State) : Host.Outcome State Fault Refusal :=
  frame (.retainedRead tag args) (takeRetainedRead tag args) s

/-- The record is emptied and its check written afresh (R160). A write under way goes on to its end (log 41). -/
def Flg.clearRetained (f : Flg) : Flg := { f with retention := { f.retention with record := none, recordGood := true } }

def takeRetainedClear (tag : Byte) (args : List Byte) : State → State :=
  takeRequest 0x4C false noArgs (fun _ s => (Answer.ok, s.onFlg Flg.clearRetained)) tag args

def execRetainedClear (tag : Byte) (args : List Byte) (s : State) : Host.Outcome State Fault Refusal :=
  frame (.retainedClear tag args) (takeRetainedClear tag args) s

/-- The write of the retained record is complete; PSV then stops a part that enters DORMANT (R158, R181). One report of
completion serves every write under way (log 41). -/
def retainedWriteDone (s : State) : State :=
  if s.flg.writing then
    let s1 := s.onFlg fun f => { f with writing := false }
    if s1.psv.stopping then stopPart s1 else s1
  else s

def execRetainedWriteDone (s : State) : Host.Outcome State Fault Refusal := event retainedWriteDone s

end Sys2Proof.Machine
end

