-- ==== Sys2Proof/Machine/LinkCommands.lean ====
section
/-! DEFINITION. The Link Supervisor's requests and events: attempts, drops, the payload port (02). -/

namespace Sys2Proof.Machine

open Sys2Proof

/-! ## LINK_ENABLE, LINK_DISABLE, LINK_RETRAIN, LINK_RUNG_SET (R31, R35 to R40) -/

def linkEnableRequest (s : State) : Answer × State :=
  if s.psv.stage = .lifeline then (Answer.refuse .powerLimit, s)
  else
    match s.lks.state with
    | .off => (Answer.ok, beginAttempt .other (s.onLks fun k => { k with enabled := true }))
    | .releasing =>
      if s.lks.dest = some .off then
        (Answer.ok, s.onLks fun k => { k with enabled := true, dest := some .waiting })
      else (Answer.ok, s)
    | _ => (Answer.ok, s)

def takeLinkEnable (tag : Byte) (args : List Byte) : State → State :=
  takeRequest 0x20 false noArgs (fun _ => linkEnableRequest) tag args

def execLinkEnable (tag : Byte) (args : List Byte) (s : State) : Host.Outcome State Fault Refusal :=
  frame (.linkEnable tag args) (takeLinkEnable tag args) s

/-- The link is no longer wanted (R36). In the RELEASING of a step-up the trial is kept until the next attempt (R64,
log 35). -/
def disableLink (s : State) : State :=
  match s.lks.state with
  | .off => s
  | .waiting => toOff .other (releaseLink (trialEnd s))
  | .greeting => toOff .other (abandonAttempt s)
  | .training => toOff .other (abandonAttempt s)
  | .carrying => dropByReason .host .off s
  | .releasing => s.onLks fun k => { k with dest := some .off }

def linkDisableRequest (s : State) : Answer × State :=
  (Answer.ok, disableLink ((endLoopback .host s).onLks fun k => { k with enabled := false }))

def takeLinkDisable (tag : Byte) (args : List Byte) : State → State :=
  takeRequest 0x21 false noArgs (fun _ => linkDisableRequest) tag args

def execLinkDisable (tag : Byte) (args : List Byte) (s : State) : Host.Outcome State Fault Refusal :=
  frame (.linkDisable tag args) (takeLinkDisable tag args) s

/-- The effect of LINK_RETRAIN where it is replied OK (R31, R38). -/
def retrain (s : State) : State :=
  match s.lks.state with
  | .off => s
  | .waiting => if s.lks.wait = some .pair then s else beginAttempt .other s
  | .greeting => beginAttempt .other (abandonAttempt s)
  | .training => beginAttempt .other (abandonAttempt s)
  | .carrying => dropByReason .host .waiting s
  | .releasing => s.onLks fun k => { k with releaseWait := none }

def linkRetrainRequest (s : State) : Answer × State :=
  if s.lks.state = .off || (s.lks.state = .releasing && s.lks.dest = some .off) then (Answer.refuse .wrongState, s)
  else (Answer.ok, retrain (endLoopback .host s))

def takeLinkRetrain (tag : Byte) (args : List Byte) : State → State :=
  takeRequest 0x22 false noArgs (fun _ => linkRetrainRequest) tag args

def execLinkRetrain (tag : Byte) (args : List Byte) (s : State) : Host.Outcome State Fault Refusal :=
  frame (.linkRetrain tag args) (takeLinkRetrain tag args) s

/-- A new current rung set by the host (R39, R64). -/
def newRung (r : Nat) (s : State) : State :=
  let s1 := (trialEnd s).onLks fun k => { k with rung := r }
  match s1.lks.state with
  | .waiting => rerunAttempt s1
  | .training => beginAttempt .other (abandonAttempt s1)
  | .carrying => dropByReason .host .waiting s1
  | _ => s1

def linkRungSetRequest (r : Nat) (s : State) : Answer × State :=
  match rungIn s.lks.ladder r with
  | none => (Answer.refuse .badArgument, s)
  | some g =>
    if permitted s.psv.stage g then
      let s1 := endLoopback .host s
      (Answer.ok, if r = s1.lks.rung then s1 else newRung r s1)
    else (Answer.refuse .powerLimit, s)

def takeLinkRungSet (tag : Byte) (args : List Byte) : State → State :=
  takeRequest 0x23 false arg8 linkRungSetRequest tag args

def execLinkRungSet (tag : Byte) (args : List Byte) (s : State) : Host.Outcome State Fault Refusal :=
  frame (.linkRungSet tag args) (takeLinkRungSet tag args) s

/-! ## LINK_STATUS (R37), LINK_HISTORY (R53) -/

/-- The reply data of LINK_STATUS: the link record in the order of R21, the four counts, the loopback (R37). -/
def linkData (s : State) : List Byte :=
  let k := s.lks
  u8 k.state.ctorIdx ++ flag k.enabled ++ opt 1 (fun w => u8 (WaitReason.ctorIdx w)) k.wait
    ++ opt 1 (fun d => u8 (ReleaseDest.ctorIdx d)) k.dest ++ opt 1 (fun r => u8 (DropReason.ctorIdx r)) k.lastDrop
    ++ opt 1 (fun o => u8 (FailOutcome.ctorIdx o)) k.lastFail ++ listOf RungRecord.encode k.ladder ++ u8 k.rung
    ++ u16 k.backoff ++ opt 2 (fun t => u16 (s.secondsTo t)) k.backoffEnd
    ++ opt 4 (fun t => u32 (t / 1000)) k.carryingSince ++ opt 12 Attained.encode k.attained
    ++ opt 1 (fun t => u8 (s.secondsTo t)) k.powerDropEnd ++ u16 k.attempts ++ u16 k.failures ++ vec u16 k.drops
    ++ u32 k.payload.sent ++ u32 k.payload.handed ++ u32 k.payload.overflow ++ u32 k.payload.flushed
    ++ flag s.mcr.loopback.isSome

def takeLinkStatus (tag : Byte) (args : List Byte) : State → State :=
  takeRequest 0x24 false noArgs (fun _ s => (Answer.with .ok (linkData s), s)) tag args

def execLinkStatus (tag : Byte) (args : List Byte) (s : State) : Host.Outcome State Fault Refusal :=
  frame (.linkStatus tag args) (takeLinkStatus tag args) s

/-- The arguments of LINK_HISTORY: selector, and with RECORDS an interval number. -/
def rdHistory (bs : List Byte) : Option (Nat × Nat) := do
  let (selector, bs) ← rd8 bs
  if selector = 0 then
    let (n, _) ← rd16 bs
    pure (selector, n)
  else pure (selector, 0)

/-- An interval number is older than the oldest record held (R53). -/
def olderThanAll (n : Seq16) (h : List Interval) : Bool :=
  match h.head? with
  | some r => newer r.number n
  | none => false

/-- The history records numbered n or newer, at most 6 (R53). -/
def recordsFrom (n : Seq16) (h : List Interval) : List Interval :=
  (if olderThanAll n h then h else h.filter (fun r => r.number = n || newer r.number n)).take 6

def recordsData (n : Seq16) (h : List Interval) : List Byte :=
  listOf Interval.encode (recordsFrom n h) ++ u8 h.length
    ++ opt 2 (fun r : Interval => u16 r.number.toNat) h.head? ++ opt 2 (fun r : Interval => u16 r.number.toNat) h.getLast?
    ++ flag (olderThanAll n h)

def DropEntry.encode (d : DropEntry) : List Byte := u32 (d.at_ / 1000) ++ u8 d.reason.ctorIdx

/-- Trial state, former and target rungs, watch time remaining (R63). -/
def trialData (s : State) : List Byte :=
  match s.lks.trial with
  | none => u8 0 ++ absent 4
  | some t => u8 1 ++ u8 t.former ++ u8 t.target ++ opt 2 (fun e => u16 (s.secondsTo e)) t.watchEnd

/-- The reply data of LINK_HISTORY with selector STATE (R53). -/
def qualityData (s : State) : List Byte :=
  let k := s.lks
  opt 38 Interval.encode k.interval ++ u8 k.consecutiveSevere ++ opt 1 (fun t => u8 (s.secondsTo t)) k.retrainEnd
    ++ listOf DropEntry.encode k.window ++ u16 k.stepClock ++ trialData s
    ++ vec (opt 4 fun t => u32 (t / 1000)) k.barriers ++ k.params.encode

def linkHistoryRequest (a : Nat × Nat) (s : State) : Answer × State :=
  match a.1 with
  | 0 => (Answer.with .ok (recordsData (BitVec.ofNat 16 a.2) s.lks.history), s)
  | 1 => (Answer.with .ok (qualityData s), s)
  | _ => (Answer.refuse .badArgument, s)

def takeLinkHistory (tag : Byte) (args : List Byte) : State → State :=
  takeRequest 0x25 false rdHistory linkHistoryRequest tag args

def execLinkHistory (tag : Byte) (args : List Byte) (s : State) : Host.Outcome State Fault Refusal :=
  frame (.linkHistory tag args) (takeLinkHistory tag args) s

/-! ## The attempt (R24, R25) -/

/-- An event that concerns the link in one state only. -/
def inLinkState (st : LinkState) (f : State → State) (s : State) : State := if s.lks.state = st then f s else s

def execGreeted (s : State) : Host.Outcome State Fault Refusal := event (inLinkState .greeting enterTraining) s

def execRefused (s : State) : Host.Outcome State Fault Refusal := event (inLinkState .greeting (failAttempt .refused)) s

def execGreetingTimeout (s : State) : Host.Outcome State Fault Refusal :=
  event (fun s => onExpiry s.lks.greetingEnd (failAttempt .greetingTimeout) s) s

/-- The attained figures meet a rung (R25). -/
def Attained.meets (a : Attained) (r : RungRecord) : Bool :=
  r.down ≤ a.down && (r.up ≤ a.up && r.minMargin ≤ a.margin)

/-- LTX reports ATTAINED (R25). -/
def attainedReport (a : Attained) (s : State) : State :=
  match rungIn s.lks.ladder s.lks.rung with
  | some r => if a.meets r then enterCarrying a s else stepTraining s
  | none => stepTraining s

def execAttained (down up margin : Nat) (s : State) : Host.Outcome State Fault Refusal :=
  event (inLinkState .training (attainedReport ⟨down, up, margin⟩)) s

def execNotAttainable (s : State) : Host.Outcome State Fault Refusal := event (inLinkState .training stepTraining) s

def execLost (s : State) : Host.Outcome State Fault Refusal := event (inLinkState .training (failAttempt .lost)) s

def execTrainingTimeout (s : State) : Host.Outcome State Fault Refusal :=
  event (fun s => onExpiry s.lks.trainingEnd (failAttempt .trainingTimeout) s) s

/-! ## Signal, backoff, release (R28, R29, R31, R33) -/

/-- LTX reports the signal lost (R28, R31). -/
def signalLost (s : State) : State :=
  if s.lks.signalLost then s
  else
    let s1 := s.onLks fun k => { k with signalLost := true }
    match s.lks.state with
    | .carrying => s1.onLks fun k => { k with lossEnd := some (s.after lossMs) }
    | .releasing => endReleasing s1
    | _ => s1

def execSignalLost (s : State) : Host.Outcome State Fault Refusal := event signalLost s

/-- LTX reports the signal present (R28). -/
def signalPresent (s : State) : State := s.onLks fun k => { k with signalLost := false, lossEnd := none }

def execSignalPresent (s : State) : Host.Outcome State Fault Refusal := event signalPresent s

def execLossTimer (s : State) : Host.Outcome State Fault Refusal :=
  event (fun s => onExpiry s.lks.lossEnd lossDrop s) s

/-- The moment at which the link has carried for so long, from the ms of carrying-since (R29, R61, log 43). -/
def State.carriedFor (ms : Nat) (s : State) : Option Nat :=
  if s.lks.state = .carrying then s.lks.carryingSince.map (fun t => t + ms) else none

def execBackoffResetTime (s : State) : Host.Outcome State Fault Refusal :=
  event (fun s => onExpiry (s.carriedFor backoffResetMs)
    (State.onLks fun k => { k with backoff := backoffMinS }) s) s

def execCloseAck (s : State) : Host.Outcome State Fault Refusal := event (inLinkState .releasing endReleasing) s

def execReleasingTimeout (s : State) : Host.Outcome State Fault Refusal :=
  event (fun s => onExpiry s.lks.releasingEnd endReleasing s) s

def execBackoffEnd (s : State) : Host.Outcome State Fault Refusal :=
  event (fun s => onExpiry s.lks.backoffEnd (beginAttempt .other) s) s

def execPowerDropGraceExpiry (s : State) : Host.Outcome State Fault Refusal :=
  event (fun s => onExpiry s.lks.powerDropEnd powerDrop s) s

/-! ## The payload port (R34, R51, R170) -/

/-- A cell the router offers is accepted while the port is open and the buffer has room. -/
def upstreamCell (c : PayloadCell) (s : State) : State :=
  if s.payloadOpen && s.lks.payload.up.length < cellMax then
    s.onLks fun k => { k with payload := { k.payload with up := k.payload.up ++ [c] } }
  else s

def execUpstreamCell (c : PayloadCell) (s : State) : Host.Outcome State Fault Refusal := event (upstreamCell c) s

/-- A cell from the link enters the buffer, or is lost to it. -/
def downstreamCell (c : PayloadCell) (s : State) : State :=
  if s.payloadOpen then
    s.onLks fun k =>
      { k with payload :=
        if k.payload.down.length < cellMax then { k.payload with down := k.payload.down ++ [c] }
        else { k.payload with overflow := up32 k.payload.overflow } }
  else s

def execDownstreamCell (c : PayloadCell) (s : State) : Host.Outcome State Fault Refusal := event (downstreamCell c) s

/-- The oldest upstream cell is sent on the link. -/
def upstreamCellSent (s : State) : State :=
  match s.lks.payload.up with
  | [] => s
  | _ :: rest =>
    s.onLks fun k =>
      { k with
        payload := { k.payload with up := rest, sent := up32 k.payload.sent }
        interval := k.interval.map fun i => { i with upCells := up32 i.upCells } }

def execUpstreamCellSent (s : State) : Host.Outcome State Fault Refusal := event upstreamCellSent s

/-- The oldest downstream cell is handed to the router. -/
def downstreamCellHanded (s : State) : State :=
  match s.lks.payload.down with
  | [] => s
  | _ :: rest =>
    s.onLks fun k =>
      { k with
        payload := { k.payload with down := rest, handed := up32 k.payload.handed }
        interval := k.interval.map fun i => { i with downCells := up32 i.downCells } }

def execDownstreamCellHanded (s : State) : Host.Outcome State Fault Refusal := event downstreamCellHanded s

/-- A cell is returned to the exchange by a running loopback (R170). -/
def loopedCell (s : State) : State :=
  s.onMcr fun m => { m with loopback := m.loopback.map fun l => { l with cells := up32 l.cells } }

def execLoopedCell (s : State) : Host.Outcome State Fault Refusal := event loopedCell s

end Sys2Proof.Machine
end

