-- ==== Sys2Proof/Machine/TestCommands.lean ====
section
/-! DEFINITION. The Line Test Unit's requests and events (07). -/

namespace Sys2Proof.Machine

open Sys2Proof

/-! ## TEST_REQUEST (R134) -/

/-- The HOST entry of a kind; the queue holds at most one (R133). -/
def TestEntry.hostOf (kind : TestKind) (e : TestEntry) : Bool := e.kind = kind && e.origin = .host

/-- The place of the HOST entry of a kind in the queue, the head at 1 (R134). -/
def State.placeOf (kind : TestKind) (s : State) : Nat := ((s.ltu.queue.findIdx? (TestEntry.hostOf kind)).getD 0) + 1

/-- The reply to a request: disposition, job, for a merged request the entry's repeat count and disruptive flag,
place (R134). -/
def testReply (kind : TestKind) (a : TestAnswer) (s : State) : Answer :=
  match a with
  | .powerLimit => Answer.refuse .powerLimit
  | .queueFull => Answer.refuse .queueFull
  | .accepted .queued job => Answer.with .accepted (u8 Disposition.queued.ctorIdx ++ u8 job ++ u8 (s.placeOf kind))
  | .accepted .merged job =>
    let entry := (s.ltu.queue.find? (TestEntry.hostOf kind)).map fun e => u8 e.repeats ++ flag e.disruptive
    Answer.with .accepted (u8 Disposition.merged.ctorIdx ++ u8 job ++ entry.getD [] ++ u8 (s.placeOf kind))

/-- A repeat count is in range (R133). -/
def repeatsOk (n : Nat) : Bool := 1 ≤ n && n ≤ 16

/-- TEST_REQUEST (R134). The range of the disruptive flag is judged with check 1 (log 13). -/
def testRequestRequest (a : Nat × Nat × Nat) (s : State) : Answer × State :=
  match nth allTestKinds a.1 with
  | none => (Answer.refuse .badArgument, s)
  | some kind =>
    if repeatsOk a.2.1 && a.2.2 ≤ 1 then
      let r := requestTest kind .host a.2.1 (a.2.2 = 1) s
      (testReply kind r.1 r.2, r.2)
    else (Answer.refuse .badArgument, s)

def takeTestRequest (tag : Byte) (args : List Byte) : State → State :=
  takeRequest 0x40 false arg888 testRequestRequest tag args

def execTestRequest (tag : Byte) (args : List Byte) (s : State) : Host.Outcome State Fault Refusal :=
  frame (.testRequest tag args) (takeTestRequest tag args) s

/-! ## TEST_CANCEL (R145) -/

/-- The head of the queue is this entry. -/
def State.isHead (e : TestEntry) (s : State) : Bool := s.ltu.queue.head? = some e

/-- TEST_CANCEL (R145). Of two entries with one job number it ends the older (log 40). -/
def testCancelRequest (job : Nat) (s : State) : Answer × State :=
  if job = 0 then (Answer.refuse .badArgument, s)
  else
    match s.ltu.queue.find? (fun e => e.job = job) with
    | none => (Answer.refuse .wrongState, s)
    | some e => (Answer.ok, finishTest (s.isHead e) true e .cancelled (some .hostCancel) s)

def takeTestCancel (tag : Byte) (args : List Byte) : State → State :=
  takeRequest 0x41 false arg8 testCancelRequest tag args

def execTestCancel (tag : Byte) (args : List Byte) (s : State) : Host.Outcome State Fault Refusal :=
  frame (.testCancel tag args) (takeTestCancel tag args) s

/-! ## TEST_RESULT (R142, R204) -/

/-- The record in the place of a kind. -/
def Ltu.resultOf (l : Ltu) (kind : TestKind) : Option TestResult := (l.results[kind.ctorIdx]?).getD none

def testResultRequest (kind : Nat) (s : State) : Answer × State :=
  match nth allTestKinds kind with
  | none => (Answer.refuse .badArgument, s)
  | some k =>
    let r := s.ltu.resultOf k
    (Answer.with .ok (flag r.isNone ++ (r.map TestResult.encode).getD [] ++ listOf TestEntry.encode s.ltu.queue), s)

def takeTestResult (tag : Byte) (args : List Byte) : State → State :=
  takeRequest 0x42 false arg8 testResultRequest tag args

def execTestResult (tag : Byte) (args : List Byte) (s : State) : Host.Outcome State Fault Refusal :=
  frame (.testResult tag args) (takeTestResult tag args) s

/-! ## Settling and measuring (R137 to R139) -/

/-- The head enters MEASURE and its first repeat begins (R137). -/
def Ltu.measure (now : Nat) (l : Ltu) : Ltu :=
  { l with
    queue := match l.queue with | [] => [] | e :: rest => { e with phase := .measure } :: rest
    run := l.run.map fun r => { r with settleEnd := none, sampleAt := some (now + periodMs) } }

def execSettleEnd (s : State) : Host.Outcome State Fault Refusal :=
  event (fun s => onExpiry (s.ltu.run.bind (·.settleEnd)) (fun s => s.onLtu (Ltu.measure s.clock)) s) s

/-- One sample of every value is added (R138); a missing sample counts as 0 (log 29). -/
def TestRun.sample (samples : List Int) (r : TestRun) : TestRun :=
  { r with
    sums := r.sums.zipIdx.map fun x => x.1 + samples.getD x.2 0
    taken := r.taken + 1
    sampleAt := r.sampleAt.map fun t => t + periodMs }

/-- The sixteenth sample is taken: the repeat joins the aggregates and the accumulators are emptied (R138, R139). -/
def TestRun.completeRepeat (t : TestsSettings) (kind : TestKind) (r : TestRun) : TestRun :=
  { r with
    aggregates := addRepeat t.rounding kind.place r.aggregates r.sums
    sums := List.replicate kind.values 0
    taken := 0
    completed := r.completed + 1 }

/-- The end of a measuring period of the head (R137). -/
def measurePeriod (samples : List Int) (s : State) : State :=
  match s.ltu.queue, s.ltu.run with
  | e :: _, some r =>
    let r1 := r.sample samples
    if r1.taken < samplesPerRepeat then s.onLtu fun l => { l with run := some r1 }
    else
      let r2 := r1.completeRepeat s.sst.contents.tests e.kind
      let s1 := s.onLtu fun l => { l with run := some r2 }
      if r2.completed < e.repeats then s1 else finishTest true true e .complete none s1
  | _, _ => s

/-- The end of a measuring period, at its moment. -/
def takeSamples (samples : List Int) (s : State) : State :=
  onExpiry (s.ltu.run.bind (·.sampleAt)) (measurePeriod samples) s

def execMeasurePeriodEnd (samples : List Int) (s : State) : Host.Outcome State Fault Refusal :=
  event (takeSamples samples) s

/-- The next sample is the sixteenth of its repeat (R138). -/
def State.completesRepeat (s : State) : Bool :=
  match s.ltu.run with
  | some r => r.taken + 1 = samplesPerRepeat
  | none => false

def execRepeatComplete (samples : List Int) (s : State) : Host.Outcome State Fault Refusal :=
  event (fun s => if s.completesRepeat then takeSamples samples s else s) s

end Sys2Proof.Machine
end

