-- ==== Sys2Proof/Machine/MaintCommands.lean ====
section
/-! DEFINITION. The Maintenance Channel Responder (09). -/

namespace Sys2Proof.Machine

open Sys2Proof

/-! ## REMOTE_STATUS, REMOTE_COUNTS_CLEAR (R172) -/

/-- Enabled or not; if not, by a DEFAULTED block (1) or by the setting (0) (R163, log 12). -/
def remoteAccessData (s : State) : List Byte :=
  if s.remoteEnabled then flag true ++ absent 1
  else flag false ++ u8 (if (s.sst.infoOf .remote).good then 0 else 1)

/-- The reply data of REMOTE_STATUS (R172). -/
def remoteData (s : State) : List Byte :=
  let m := s.mcr
  remoteAccessData s ++ flag (s.lks.state = .carrying) ++ opt 1 (fun f : Flight => u8 f.kind.ctorIdx) m.flight
    ++ opt 1 (fun f : Flight => [f.ref]) m.flight ++ opt 4 (fun f : Flight => u32 (f.at_ / 1000)) m.flight
    ++ listOf (fun t => u32 (t / 1000)) m.window ++ u8 m.total ++ opt 1 (fun t => u8 (s.secondsTo t)) m.lockoutEnd
    ++ opt 2 (fun l : Loopback => u16 (s.secondsTo l.endAt)) m.loopback
    ++ opt 4 (fun l : Loopback => u32 l.cells) m.loopback ++ u16 m.accepted ++ u16 m.refusedBusy ++ u16 m.abandoned
    ++ u16 m.unacknowledged ++ u16 m.refusedDisabled ++ u16 m.refusedLocked

def takeRemoteStatus (tag : Byte) (args : List Byte) : State → State :=
  takeRequest 0x50 false noArgs (fun _ s => (Answer.with .ok (remoteData s), s)) tag args

def execRemoteStatus (tag : Byte) (args : List Byte) (s : State) : Host.Outcome State Fault Refusal :=
  frame (.remoteStatus tag args) (takeRemoteStatus tag args) s

/-- The wrong-attempt total returns to 0 (R172). -/
def clearCounts (s : State) : State := clearFault .remoteIntrusion .mcr (s.onMcr fun m => { m with total := 0 })

def takeRemoteCountsClear (tag : Byte) (args : List Byte) : State → State :=
  takeRequest 0x51 false noArgs (fun _ s => (Answer.ok, clearCounts s)) tag args

def execRemoteCountsClear (tag : Byte) (args : List Byte) (s : State) : Host.Outcome State Fault Refusal :=
  frame (.remoteCountsClear tag args) (takeRemoteCountsClear tag args) s

/-! ## Taking a maintenance request (R162, R164) -/

/-- A response is handed to LTX. Where the request has itself ended the link, an orderly release has sent it
(R162, R165). -/
def respond (r : MaintResponse) (s : State) : State :=
  if s.lks.state = .carrying then s.onMcr fun m => { m with outbox := m.outbox ++ [r] } else s

/-- A REMOTE_EVENT notice (R172). -/
def remoteEvent (e : RemoteEvent) (s : State) : State := notice (.remoteEvent e s.uptime) s

/-- A maintenance request arrives: answered BUSY behind a request in flight, else accepted and taken by the rule of
its kind (R164). -/
def maintenance (kind : MaintKind) (ref : Byte) (serve : State → (MaintStatus × MaintData) × State) (s : State) : State :=
  if s.lks.state = .carrying then
    if s.mcr.flight.isSome then
      respond ⟨ref, .busy, .none⟩ (s.onMcr fun m => { m with refusedBusy := up16 m.refusedBusy })
    else
      let s1 := s.onMcr fun m =>
        { m with flight := some { kind := kind, ref := ref, at_ := s.clock }, accepted := up16 m.accepted }
      let r := serve s1
      respond ⟨ref, r.1.1, r.1.2⟩ r.2
  else s

/-! ## Open requests (R155, R166) -/

/-- ACTIVE records of one severity, newest first. -/
def activeOf (sev : Severity) (log : List FaultRecord) : List FaultRecord :=
  log.reverse.filter fun r => r.active && r.severity = sev

/-- Up to 8 codes of ACTIVE records, highest severity and newest first (R155). -/
def summaryCodes (log : List FaultRecord) : List (FaultCode × Source) :=
  ((allSeverities.reverse.flatMap fun sev => activeOf sev log).take 8).map fun r => (r.code, r.source)

/-- SUMMARY, with the fields of the retained record, its check value among them (R158, R166, log 8). -/
def serveSummary (s : State) : (MaintStatus × MaintData) × State :=
  let record := s.flg.retention.record
  ((.done, .summary s.lks.rung s.lks.history.getLast? (summaryCodes s.flg.log) record (retainedCheckOf record)
    s.psv.stage), s)

def execSummary (ref : Byte) (s : State) : Host.Outcome State Fault Refusal :=
  event (maintenance .summary ref serveSummary) s

/-- RESULT_READ: a record of origin REMOTE or INTERNAL (R166). The byte of the test kind is read by the control link's code
(log 12). -/
def serveResult (kind : Byte) (s : State) : (MaintStatus × MaintData) × State :=
  match nth allTestKinds kind.toNat with
  | none => ((.badArgument, .none), s)
  | some k =>
    match s.ltu.resultOf k with
    | some r => if r.origin = .host then ((.noResult, .none), s) else ((.done, .result r), s)
    | none => ((.noResult, .none), s)

def execResultRead (ref : Byte) (kind : Byte) (s : State) : Host.Outcome State Fault Refusal :=
  event (maintenance .resultRead ref (serveResult kind)) s

/-- A kind that MCR does not know (R164). -/
def execUnknownMaintenanceRequest (ref : Byte) (s : State) : Host.Outcome State Fault Refusal :=
  event (maintenance .unknown ref fun s => ((.unknownRequest, .none), s)) s

/-! ## The access code (R167, R168) -/

/-- The intrusion fault at a total of 8 or more, and the WRONG_CODE notice (R168 steps 4 and 5). -/
def reportAttempt (kind : MaintKind) (s : State) : State :=
  let m := s.mcr
  let s1 := if intrusionTotal ≤ m.total then report .remoteIntrusion .mcr .major [d32 m.total] s else s
  remoteEvent (.wrongCode kind m.total m.window.length m.lockoutEnd.isSome) s1

/-- The wrong-attempt total rises, to at most 255. -/
def countAttempt (s : State) : State := s.onMcr fun m => { m with total := min (m.total + 1) 255 }

/-- A wrong attempt outside a lockout (R168). -/
def wrongAttempt (kind : MaintKind) (s : State) : State :=
  let s1 := countAttempt s
  let window := (s.recent attemptMs s1.mcr.window) ++ [s.clock]
  if window.length < 3 then reportAttempt kind (s1.onMcr fun m => { m with window := window })
  else
    remoteEvent .lockoutStarted
      (reportAttempt kind (s1.onMcr fun m => { m with window := [], lockoutEnd := some (s.after lockoutMs) }))

/-- A privileged request by the checks of R167. -/
def privileged (kind : MaintKind) (code : AccessCode) (argsOk : Bool)
    (carry : State → (MaintStatus × MaintData) × State) (s : State) : (MaintStatus × MaintData) × State :=
  let right := code = s.sst.contents.remote.code
  if !s.remoteEnabled then
    ((.disabled, .none), s.onMcr fun m => { m with refusedDisabled := up16 m.refusedDisabled })
  else if s.mcr.lockoutEnd.isSome then
    let s1 := s.onMcr fun m => { m with refusedLocked := up16 m.refusedLocked }
    ((.locked, .none), if right then s1 else reportAttempt kind (countAttempt s1))
  else if !right then ((.wrongCode, .none), wrongAttempt kind s)
  else if !argsOk then ((.badArgument, .none), s)
  else carry s

/-! ## TEST_START (R169) -/

/-- LTU is asked for a REMOTE test (R135, R169); the kind is read by the control link's code (log 12). -/
def startRemoteTest (kind repeats : Byte) (s : State) : (MaintStatus × MaintData) × State :=
  match nth allTestKinds kind.toNat with
  | none => ((.badArgument, .none), s)
  | some k =>
    let r := requestTest k .remote repeats.toNat true s
    let s1 := match r.1 with
      | .accepted d job => remoteEvent (.testAccepted job d) r.2
      | _ => r.2
    ((.done, .test r.1), s1)

def execTestStart (ref : Byte) (code : AccessCode) (kind repeats : Byte) (s : State) :
    Host.Outcome State Fault Refusal :=
  event (maintenance .testStart ref
    (privileged .testStart code ((nth allTestKinds kind.toNat).isSome && repeatsOk repeats.toNat)
      (startRemoteTest kind repeats))) s

/-! ## Loopback (R170, R171) -/

/-- A loopback starts, or is given a new duration (R170). -/
def startLoopback (minutes : Nat) (s : State) : (MaintStatus × MaintData) × State :=
  if !s.noCall then ((.busyVoice, .none), s)
  else
    let endAt := s.after (minutes * 60000)
    match s.mcr.loopback with
    | none =>
      let s1 := flushPayload (s.onMcr fun m => { m with loopback := some { endAt := endAt, cells := 0 } })
      ((.done, .loopback false), remoteEvent (.loopbackStarted minutes) s1)
    | some l =>
      let s1 := s.onMcr fun m => { m with loopback := some { l with endAt := endAt } }
      ((.done, .loopback true), remoteEvent (.loopbackStarted minutes) s1)

/-- A duration of 1 to 60 minutes (R170). -/
def minutesOk (n : Nat) : Bool := 1 ≤ n && n ≤ 60

def execLoopbackStart (ref : Byte) (code : AccessCode) (minutes : Byte) (s : State) :
    Host.Outcome State Fault Refusal :=
  event (maintenance .loopbackStart ref
    (privileged .loopbackStart code (minutesOk minutes.toNat) (startLoopback minutes.toNat))) s

/-- A running loopback is stopped (R170). -/
def stopLoopback (s : State) : (MaintStatus × MaintData) × State :=
  ((.done, .stopped (s.mcr.loopback.map (·.cells))), endLoopback .stopped s)

def execLoopbackStop (ref : Byte) (code : AccessCode) (s : State) : Host.Outcome State Fault Refusal :=
  event (maintenance .loopbackStop ref (privileged .loopbackStop code true stopLoopback)) s

def execLoopbackExpiry (s : State) : Host.Outcome State Fault Refusal :=
  event (fun s => onExpiry (s.mcr.loopback.map (·.endAt)) (endLoopback .expired) s) s

/-! ## Acknowledgements, attempts, lockout (R164, R168) -/

/-- The responses that remain once the one in flight is known to have arrived: those handed over before it have been
sent (log 21). -/
def afterResponse (ref : Byte) (outbox : List MaintResponse) : List MaintResponse :=
  match outbox.findIdx? (fun r => r.ref = ref && r.status != .busy) with
  | some i => outbox.drop (i + 1)
  | none => outbox

/-- An acknowledgement of the request in flight (R164). -/
def acknowledged (ref : Byte) (s : State) : State :=
  match s.mcr.flight with
  | none => s
  | some f => if f.ref = ref then s.onMcr fun m => { m with flight := none, outbox := afterResponse ref m.outbox } else s

def execMaintenanceAck (ref : Byte) (s : State) : Host.Outcome State Fault Refusal := event (acknowledged ref) s

/-- The end of the wait for an acknowledgement (R164). -/
def Mcr.ackEnd (m : Mcr) : Option Nat := m.flight.map fun f => f.at_ + ackMs

def execMaintenanceAckTimeout (s : State) : Host.Outcome State Fault Refusal :=
  event (fun s => onExpiry s.mcr.ackEnd
    (State.onMcr fun m => { m with flight := none, unacknowledged := up16 m.unacknowledged }) s) s

/-- The moment at which the oldest wrong attempt leaves the window (R168). -/
def Mcr.attemptEnd (m : Mcr) : Option Nat := m.window.head?.map fun t => t + attemptMs

def execAttemptWindowExpiry (s : State) : Host.Outcome State Fault Refusal :=
  event (fun s => onExpiry s.mcr.attemptEnd (State.onMcr fun m => { m with window := m.window.tail }) s) s

def execLockoutEnd (s : State) : Host.Outcome State Fault Refusal :=
  event (fun s => onExpiry s.mcr.lockoutEnd
    (fun s => remoteEvent .lockoutEnded (s.onMcr fun m => { m with lockoutEnd := none })) s) s

end Sys2Proof.Machine
end

