-- ==== Sys2Proof/Machine/PairCommands.lean ====
section
/-! DEFINITION. The Pair Access Controller's request and events (01), and the loops of the phones. -/

namespace Sys2Proof.Machine

open Sys2Proof

/-! ## LIFELINE_SELECT (R13) -/

/-- A request for COPPER (R13). -/
def selectCopper (s : State) : Answer × State :=
  let resting := s.restsIn .copper
  (Answer.refuse (if resting then .ok else .accepted), copperCause .host s)

/-- A request for LOCAL: the refusals, then the table (R13). R13 gives its two refusals no order: where both apply,
POWER_LIMIT stands first (log 34). -/
def selectLocal (s : State) : Answer × State :=
  if s.psv.stage = .lifeline then (Answer.refuse .powerLimit, s)
  else if s.mpt.autonomous then (Answer.refuse .wrongState, s)
  else if s.pac.relay.move.isSome then (Answer.refuse .busy, s)
  else
    match s.pac.relay.pos with
    | .localPort => (Answer.ok, s)
    | .copper =>
      if s.pac.copperActive then
        (Answer.refuse .accepted, s.onPac fun p => { p with relay := { p.relay with deferred := true } })
      else (Answer.refuse .accepted, startLocalMove false s)

def lifelineSelectRequest (pos : Nat) (s : State) : Answer × State :=
  match pos with
  | 0 => selectCopper s
  | 1 => selectLocal s
  | _ => (Answer.refuse .badArgument, s)

def takeLifelineSelect (tag : Byte) (args : List Byte) : State → State :=
  takeRequest 0x28 false arg8 lifelineSelectRequest tag args

def execLifelineSelect (tag : Byte) (args : List Byte) (s : State) : Host.Outcome State Fault Refusal :=
  frame (.lifelineSelect tag args) (takeLifelineSelect tag args) s

/-! ## The copper side (R8, R185) -/

/-- A copper-side event of port 1 (R8, R69). -/
def copperEvent (e : PortEvent) (s : State) : State := notice (.portEvent .one e s.uptime true) s

/-- The house phone is recognised as off-hook on the copper side (R8). -/
def copperOffhook (s : State) : State :=
  let s1 := copperEvent .offhook (s.onPac fun p => { p with copperOffHook := true })
  let s2 := if s.pac.copperActive then s1 else wakeCause .copperSide none s1
  copperActivates .lifeline s2

/-- The moment at which the loop current of the house phone, present ever since the loop closed or the relay arrived in
COPPER, is recognised as off-hook (R8). -/
def State.copperOffHookDue (s : State) : Option Nat :=
  if s.restsIn .copper && (s.hpc1.loopClosed && !s.pac.copperOffHook) then some (s.hpc1.loopSince + copperOffHookMs)
  else none

def execCopperOffhook (s : State) : Host.Outcome State Fault Refusal :=
  event (fun s => onExpiry s.copperOffHookDue copperOffhook s) s

/-- The house phone is recognised as on-hook on the copper side (R8). The notice carries no state left, which R69 gives
a local event (log 34). -/
def copperOnhook (s : State) : State :=
  let s1 := copperEvent (.hungUp none) (s.onPac fun p => { p with copperOffHook := false })
  if s.pac.ringSession then s1 else copperIdles s1

/-- The moment at which the absence of that current is recognised as on-hook (R8). -/
def State.copperOnHookDue (s : State) : Option Nat :=
  if s.restsIn .copper && (!s.hpc1.loopClosed && s.pac.copperOffHook) then some (s.hpc1.loopSince + copperOnHookMs)
  else none

def execCopperOnhook (s : State) : Host.Outcome State Fault Refusal :=
  event (fun s => onExpiry s.copperOnHookDue copperOnhook s) s

/-! ## Exchange ringing (R9) -/

/-- An EXCHANGE_RING notice (R9). R9 names position and uptime for STARTED; ENDED carries both too (log 34). -/
def exchangeRing (started : Bool) (s : State) : State :=
  notice (.exchangeRing started s.pac.relay.pos s.pac.relay.target s.uptime) s

/-- An exchange ringing session begins (R9, R185). -/
def sessionStarts (s : State) : State :=
  let s1 := wakeCause .exchangeRing none (exchangeRing true (s.onPac fun p => { p with ringSession := true }))
  if s1.restsIn .copper && !s1.pac.copperActive then copperActivates .ringing s1 else abortTest .ringing id s1

/-- A ring burst starts on the pair (R9). -/
def burstStart (s : State) : State :=
  if s.pac.ringBurst then s
  else
    let s1 := ringEdge (s.onPac fun p => { p with ringBurst := true, sessionEnd := none })
    if s.pac.ringSession then s1 else sessionStarts s1

def execExchangeBurstStart (s : State) : Host.Outcome State Fault Refusal := event burstStart s

/-- A ring burst ends on the pair (R9). -/
def burstEnd (s : State) : State :=
  if s.pac.ringBurst then
    ringEdge (s.onPac fun p => { p with ringBurst := false, sessionEnd := some (s.after ringSessionMs) })
  else s

def execExchangeBurstEnd (s : State) : Host.Outcome State Fault Refusal := event burstEnd s

/-- An exchange ringing session ends (R9, R1). -/
def sessionEnds (s : State) : State :=
  let s1 := exchangeRing false (s.onPac fun p => { p with ringSession := false, sessionEnd := none })
  if s1.restsIn .copper && (s1.pac.copperActive && !s1.pac.copperOffHook) then copperIdles s1 else reexamine s1

def execExchangeRingSessionEnd (s : State) : Host.Outcome State Fault Refusal :=
  event (fun s => onExpiry s.pac.sessionEnd sessionEnds s) s

/-! ## Hazard (R10, R11) -/

/-- The hazard hold starts or restarts (R10). -/
def startHold (s : State) : State := s.onPac fun p => { p with hazardEnd := some (s.after hazardHoldMs) }

/-- The pair voltage has risen above 120 V, or has fallen below it again (R10). -/
def setHigh (high : Bool) (s : State) : State := s.onPac fun p => { p with hazardHigh := high }

/-- PAC's response to a hazard, in the order of R10. -/
def hazard (peakMv : Nat) (s : State) : State :=
  let s1 := abortTest .hazard id (startHold (setHigh true (wakeCause .hazard none s)))
  let s2 := if s1.pac.link.state = .held then linkHazard s1 else s1
  report .hazardVoltage .pac .critical [d32 peakMv, d32 s.pac.relay.pos.ctorIdx] s2

def execHazard (peakMv : Nat) (s : State) : Host.Outcome State Fault Refusal := event (hazard peakMv) s

/-- The pair voltage falls below 120 V after a hazard: the hold restarts (R10). -/
def hazardVoltageFall (s : State) : State := if s.pac.hazardHigh then startHold (setHigh false s) else s

def execHazardVoltageFall (s : State) : Host.Outcome State Fault Refusal := event hazardVoltageFall s

/-- The moment at which the hazard hold ends: 30 s after the last excursion has ended, so not while the voltage is
still high (R10, log 37). -/
def Pac.holdEnd (p : Pac) : Option Nat := if p.hazardHigh then none else p.hazardEnd

/-- The hazard hold ends (R11). -/
def holdEnds (s : State) : State :=
  reexamine (clearFault .hazardVoltage .pac (s.onPac fun p => { p with hazardEnd := none }))

def execHazardHoldEnd (s : State) : Host.Outcome State Fault Refusal :=
  event (fun s => onExpiry s.pac.holdEnd holdEnds s) s

/-! ## Waits and moves (R6, R12, R16) -/

/-- The TEST claim has waited for 300 s: PAC withdraws it, and LTU ends its head (R6, R141). -/
def pairUnavailable (s : State) : State :=
  match s.ltu.queue with
  | [] => s
  | e :: _ => finishTest true true e .pairUnavailable none (freeTest s)

def execPairWaitLimit (s : State) : Host.Outcome State Fault Refusal :=
  event (fun s => onExpiry s.pac.waitEnd pairUnavailable s) s

def execRelayMoveComplete (s : State) : Host.Outcome State Fault Refusal :=
  event (fun s => onExpiry (s.pac.relay.move.map (·.doneAt)) completeMove s) s

/-- The end of the link-absence time, if it is still to be evaluated (R16). -/
def Pac.absenceEnd (p : Pac) : Option Nat :=
  if p.absenceTaken then none else p.absenceFrom.map fun t => t + linkAbsenceMs

def execLinkAbsenceExpiry (s : State) : Host.Outcome State Fault Refusal :=
  event (fun s => onExpiry s.pac.absenceEnd
    (fun s => autoLifeline (s.onPac fun p => { p with absenceTaken := true })) s) s

/-! ## The loops (R71, R72) -/

/-- The loop of a phone closes or opens: the debouncer starts to time afresh (R71, R72, log 39). -/
def loopCurrentChange (p : PortId) (present : Bool) (s : State) : State :=
  if (s.port p).loopClosed = present then s
  else s.onPort p fun q => { q with loopClosed := present, loopSince := s.clock }

def execLoopCurrentChange (p : PortId) (present : Bool) (s : State) : Host.Outcome State Fault Refusal :=
  finish (loopCurrentChange p present s)

end Sys2Proof.Machine
end

