-- ==== Sys2Proof/Machine/RingCommands.lean ====
section
/-! DEFINITION. The requests and events of the sequencers and of the ring supply (05). -/

namespace Sys2Proof.Machine

open Sys2Proof

/-! ## The sequencer record in a reply (R99) -/

/-- The remaining time of a run in ms (R99). -/
def SeqRun.remaining (now : Nat) (r : SeqRun) : Nat :=
  match r.phase with
  | .running => r.endAt - now
  | .pausing => r.endAt - now
  | _ => r.left

/-- The sequencer record in the order of R99; FOREVER is 0, as in the program store (log 12). -/
def seqData (p : PortId) (s : State) : List Byte :=
  let q := s.seq p
  u8 q.stateCode ++ opt 1 (fun r : SeqRun => u8 r.program) q.run ++ opt 1 (fun r : SeqRun => u8 r.segment) q.run
    ++ opt 2 (fun r : SeqRun => u16 (r.remaining s.clock)) q.run
    ++ opt 1 (fun r : SeqRun => u8 (r.repeats.getD 0)) q.run ++ opt 2 (fun r : SeqRun => u16 r.pass) q.run
    ++ opt 1 u8 (q.run.bind (·.pending)) ++ flag ((q.run.map (·.burst)).getD false) ++ u16 q.skipped

/-- OK with the record as it stands after the request. -/
def seqOk (p : PortId) (s : State) : Answer × State := (Answer.with .ok (seqData p s), s)

/-! ## PORT_TONE (R104) -/

/-- Disposition of an accepted PORT_TONE (R104). -/
inductive ToneDisposition where
  | started | queued | replaced
  deriving DecidableEq, Repr

/-- OK with disposition and record. -/
def toneOk (d : ToneDisposition) (p : PortId) (s : State) : Answer × State :=
  (Answer.with .ok (u8 d.ctorIdx ++ seqData p s), s)

/-- PORT_TONE by its checks and the table of R104. The range of the QUEUE flag is looked at with the program number
(log 13). -/
def toneOn (program queueFlag : Nat) (p : PortId) (s : State) : Answer × State :=
  if 15 < program || 1 < queueFlag then (Answer.refuse .badArgument, s)
  else if (s.port p).state != .offhook && (s.port p).state != .connected then (Answer.refuse .wrongState, s)
  else if (s.program program).rings then (Answer.refuse .badArgument, s)
  else
    match (s.seq p).run with
    | none => toneOk .started p (startProgram p program s)
    | some r =>
      if queueFlag = 0 then (Answer.refuse .busy, s)
      else
        toneOk (if r.pending.isSome then .replaced else .queued) p
          (s.onSeq p fun q => { q with run := q.run.map fun r => { r with pending := some program } })

def portToneRequest (a : Nat × Nat × Nat) (s : State) : Answer × State := onNamedPort a.1 (toneOn a.2.1 a.2.2) s

def takePortTone (tag : Byte) (args : List Byte) : State → State := takeRequest 0x35 false arg888 portToneRequest tag args

def execPortTone (tag : Byte) (args : List Byte) (s : State) : Host.Outcome State Fault Refusal :=
  frame (.portTone tag args) (takePortTone tag args) s

/-! ## SEQ_PAUSE, SEQ_RESUME, SEQ_STOP (R105 to R107) -/

/-- A run moved to another phase. -/
def setPhase (phase : SeqPhase) (p : PortId) (s : State) : State :=
  s.onSeq p fun q => { q with run := q.run.map fun r => { r with phase := phase } }

def pauseOn (p : PortId) (s : State) : Answer × State :=
  match (s.seq p).run with
  | none => (Answer.refuse .wrongState, s)
  | some r =>
    match r.phase with
    | .running => seqOk p (setPhase .pausing p s)
    | .waitingSupply => seqOk p (leaveWaits p (setPhase .paused p s))
    | _ => seqOk p s

def takeSeqPause (tag : Byte) (args : List Byte) : State → State :=
  takeRequest 0x38 false arg8 (fun n => onNamedPort n pauseOn) tag args

def execSeqPause (tag : Byte) (args : List Byte) (s : State) : Host.Outcome State Fault Refusal :=
  frame (.seqPause tag args) (takeSeqPause tag args) s

def resumeOn (p : PortId) (s : State) : Answer × State :=
  match (s.seq p).run with
  | none => (Answer.refuse .wrongState, s)
  | some r =>
    match r.phase with
    | .paused => seqOk p (runSegments skipFuel p (setPhase .running p s))
    | .held => seqOk p (runOn p (segmentTail p { r with phase := .running } s))
    | .pausing => seqOk p (setPhase .running p s)
    | _ => seqOk p s

def takeSeqResume (tag : Byte) (args : List Byte) : State → State :=
  takeRequest 0x39 false arg8 (fun n => onNamedPort n resumeOn) tag args

def execSeqResume (tag : Byte) (args : List Byte) (s : State) : Host.Outcome State Fault Refusal :=
  frame (.seqResume tag args) (takeSeqResume tag args) s

def stopOn (p : PortId) (s : State) : Answer × State :=
  if (s.seq p).isIdle then seqOk p s
  else if (s.port p).state = .ringing then (Answer.refuse .wrongState, s)
  else seqOk p (stopSeq (some .request) p s)

def takeSeqStop (tag : Byte) (args : List Byte) : State → State :=
  takeRequest 0x3A false arg8 (fun n => onNamedPort n stopOn) tag args

def execSeqStop (tag : Byte) (args : List Byte) (s : State) : Host.Outcome State Fault Refusal :=
  frame (.seqStop tag args) (takeSeqStop tag args) s

/-! ## RING_SUPPLY_RESET (R116) -/

def ringSupplyResetRequest (s : State) : Answer × State :=
  if s.rsc.state = .faultLatched then
    (Answer.ok, notice (.ringSupply .reset) (clearFault .ringSupply .rsc (s.onRsc fun r => { r with state := .off })))
  else (Answer.refuse .wrongState, s)

def takeRingSupplyReset (tag : Byte) (args : List Byte) : State → State :=
  takeRequest 0x3C false noArgs (fun _ => ringSupplyResetRequest) tag args

def execRingSupplyReset (tag : Byte) (args : List Byte) (s : State) : Host.Outcome State Fault Refusal :=
  frame (.ringSupplyReset tag args) (takeRingSupplyReset tag args) s

/-! ## Segments (R101, R103) -/

/-- The moment at which the running segment ends. -/
def Sequencer.segmentDue (q : Sequencer) : Option Nat :=
  match q.run with
  | none => none
  | some r => if r.phase = .running || r.phase = .pausing then some r.endAt else none

/-- The remaining time reaches 0: a burst ends, then the segment (R101, R103). -/
def segmentRunsOut (p : PortId) (s : State) : State := takeSegmentEnd false p (endBurst p s)

def execSegmentEnd (p : PortId) (s : State) : Host.Outcome State Fault Refusal :=
  event (fun s => onExpiry (s.seq p).segmentDue (segmentRunsOut p) s) s

/-! ## The ring supply's timers (R109, R112, R114) -/

/-- The supply is READY (R109). -/
def supplyReady (s : State) : State :=
  idleCheck (tryWaits (s.onRsc fun r => { r with state := .ready, chargeEnd := none }))

def execChargeDone (s : State) : Host.Outcome State Fault Refusal :=
  event (fun s => onExpiry s.rsc.chargeEnd supplyReady s) s

def execSupplyIdleTimeout (s : State) : Host.Outcome State Fault Refusal :=
  event (fun s => onExpiry s.rsc.idleEnd (State.onRsc fun r => { r with state := .off, idleEnd := none }) s) s

/-- The end of a port's wait for a burst (R112). -/
def Rsc.waitEnd (p : PortId) (r : Rsc) : Option Nat :=
  (r.waits.find? (fun e => e.port = p)).map fun e => e.at_ + burstWaitMs

def execBurstWaitTimeout (p : PortId) (s : State) : Host.Outcome State Fault Refusal :=
  event (fun s => onExpiry (s.rsc.waitEnd p) (skipWaiter p) s) s

/-- The output monitor judges while the voltage is raised or held; SHORT needs a connected burst (R114). -/
def State.monitorSees (kind : SupplyFaultKind) (s : State) : Bool :=
  match s.rsc.state with
  | .charging => kind = .overload || !s.rsc.bursts.isEmpty
  | .ready => kind = .overload || !s.rsc.bursts.isEmpty
  | _ => false

def execSupplyFault (kind : SupplyFaultKind) (s : State) : Host.Outcome State Fault Refusal :=
  event (fun s => if s.monitorSees kind then supplyFaults kind s else s) s

/-- The supply charges again after a fault (R114). -/
def supplyRetries (s : State) : State :=
  s.onRsc fun r =>
    { r with
      state := .charging, retryEnd := none,
      chargeEnd := some (s.after (if s.psv.stage = .mains then chargeMainsMs else chargeOtherMs)) }

def execSupplyRetryTimeout (s : State) : Host.Outcome State Fault Refusal :=
  event (fun s => onExpiry s.rsc.retryEnd supplyRetries s) s

/-- The moment at which the oldest supply fault leaves the history (R114). -/
def Rsc.historyEnd (r : Rsc) : Option Nat := r.history.head?.map fun t => t + supplyHistoryMs

def execSupplyFaultHistoryExpiry (s : State) : Host.Outcome State Fault Refusal :=
  event (fun s => onExpiry s.rsc.historyEnd (State.onRsc fun r => { r with history := r.history.tail }) s) s

end Sys2Proof.Machine
end

