-- ==== Sys2Proof/Machine/VoiceCommands.lean ====
section
/-! DEFINITION. Voice frames (06): VOICE_DOWN, the playout queue, the frame clock, capture. -/

namespace Sys2Proof.Machine

open Sys2Proof

/-! ## VOICE_DOWN (R119, R121, R122) -/

/-- A sample from its two bytes. -/
def sampleOf (lo hi : Byte) : BitVec 16 := hi ++ lo

/-- Sample i of the sample bytes of a voice body. -/
def sampleAt (bytes : List Byte) (i : Nat) : BitVec 16 := sampleOf (bytes.getD (2 * i) 0) (bytes.getD (2 * i + 1) 0)

/-- A VOICE_DOWN body read by its layout: port, sequence number, 80 samples; none where it is malformed
(R119, R201). -/
def rdVoice (body : List Byte) : Option (PortId × VoiceFrame) :=
  match body with
  | port :: lo :: hi :: samples =>
    if samples.length = 160 then
      (portOf port.toNat).map fun p => (p, { seq := sampleOf lo hi, samples := Vector.ofFn fun i => sampleAt samples i })
    else none
  | _ => none

/-- The reference number of the queue: playout position, or prefill base (section 6.2). -/
def Voice.reference (v : Voice) : Option Seq16 :=
  match v.state with
  | .playing => v.position
  | .prefill => v.base
  | .idle => none

/-- A frame is not newer than the reference (R121 check 2). -/
def Voice.late (seq : Seq16) (v : Voice) : Bool :=
  match v.reference with
  | some r => !newer seq r
  | none => false

/-- A frame placed before the first queued frame of greater distance from the reference (R122). -/
def insertFrame (reference : Seq16) (f : VoiceFrame) : List VoiceFrame → List VoiceFrame
  | [] => [f]
  | g :: rest =>
    if (f.seq - reference).toNat < (g.seq - reference).toNat then f :: g :: rest
    else g :: insertFrame reference f rest

/-- An accepted frame (R121 check 5). -/
def Voice.accept (f : VoiceFrame) (v : Voice) : Voice :=
  match v.reference with
  | some r => { v with queue := insertFrame r f v.queue }
  | none => { v with base := some (f.seq - 8), queue := insertFrame (f.seq - 8) f v.queue }

/-- A frame for a port, by the checks of R121. -/
def Voice.take (connected : Bool) (f : VoiceFrame) (v : Voice) : Voice :=
  let c := v.counts
  if !connected then { v with counts := { c with notConnected := up32 c.notConnected } }
  else if v.late f.seq then { v with counts := { c with late := up32 c.late } }
  else if v.queue.any (fun g => g.seq = f.seq) then { v with counts := { c with duplicate := up32 c.duplicate } }
  else if playoutMax ≤ v.queue.length then { v with counts := { c with overflow := up32 c.overflow } }
  else v.accept f

def voiceFrame (body : List Byte) (s : State) : State :=
  match rdVoice body with
  | none => s.onMpt fun m => { m with malformed := up32 m.malformed }
  | some (p, f) => s.onPort p fun q => { q with voice := q.voice.take (q.state = .connected) f }

/-- The tag is not examined (R119). -/
def takeVoiceDown (body : List Byte) : State → State := voiceFrame body

def execVoiceDown (tag : Byte) (body : List Byte) (s : State) : Host.Outcome State Fault Refusal :=
  frame (.voiceDown tag body) (takeVoiceDown body) s

/-! ## The playout step (R123 to R126) -/

/-- A sample halved, rounded towards zero (R125). -/
def halved (x : BitVec 16) : BitVec 16 := BitVec.sdiv x 2#16

/-- A fill (R125). -/
def Voice.fill (v : Voice) : Voice :=
  let n := up16 v.fills
  { v with
    fills := n
    slot :=
      match v.last with
      | some samples => if n ≤ repeatFills then .audio (samples.map halved) else .silence
      | none => .silence
    counts := { v.counts with fills := up32 v.counts.fills } }

/-- An underrun, and at the fifth in a row the return to PREFILL (R126). -/
def Voice.underrun (v : Voice) : Voice :=
  let v1 := { v with counts := { v.counts with underruns := up32 v.counts.underruns }, underruns := v.underruns + 1 }
  if v1.underruns < underrunMax then v1
  else
    { v1 with
      state := .prefill, position := none, base := none, fills := 0, underruns := 0,
      counts := { v1.counts with returns := up32 v1.counts.returns } }

/-- One slot in PLAYING (R124). -/
def Voice.playSlot (v : Voice) : Voice :=
  let expected := (v.position.getD 0) + 1
  match v.queue with
  | [] => ({ v.fill with position := some expected } : Voice).underrun
  | f :: rest =>
    if f.seq = expected then
      { v with
        queue := rest, position := some expected, last := some f.samples, fills := 0, underruns := 0,
        slot := .audio f.samples, counts := { v.counts with played := up32 v.counts.played } }
    else { v.fill with position := some expected, underruns := 0 }

/-- The playout step of a tick (R123, R124). -/
def Voice.playout (depth : Nat) (v : Voice) : Voice :=
  match v.state with
  | .playing => v.playSlot
  | .prefill =>
    match v.queue with
    | [] => { v with slot := .silence }
    | f :: _ =>
      if depth ≤ v.queue.length then
        ({ v with state := .playing, position := some (f.seq - 1), base := none } : Voice).playSlot
      else { v with slot := .silence }
  | .idle => v

/-! ## The audio to the phone (R97) -/

/-- The tone a sequencer plays towards its port's phone: the pair its TONE segment names while that segment runs, and
none in any other segment. No put changes the table while a sequencer runs (R208), so the entry is the one that stood as
the segment began. -/
def State.toneOn (p : PortId) (s : State) : Option TonePair :=
  match (s.seq p).run with
  | none => none
  | some r =>
    if r.phase = .running || r.phase = .pausing then
      match (s.segmentOf r).kind with
      | .tone n => s.sst.contents.tones[n]?
      | _ => none
    else none

/-- What the phone of a port hears: the tone, which in CONNECTED is added to the audio of the playout queue. -/
def State.toPhone (p : PortId) (s : State) : PhoneAudio where
  playout := if (s.port p).state = .connected then (s.port p).voice.slot else .nothing
  tone := s.toneOn p

/-! ## Capture (R127, R128) -/

/-- One capture frame; a full queue loses its oldest. -/
def Voice.produce (audio : Samples) (now : Nat) (v : Voice) : Voice :=
  let f : CaptureFrame := { seq := v.captureSeq, samples := audio, producedAt := now }
  let full := captureMax ≤ v.capture.length
  { v with
    capture := (if full then v.capture.tail else v.capture) ++ [f]
    captureSeq := v.captureSeq + 1
    counts :=
      { v.counts with
        produced := up32 v.counts.produced
        discarded := if full then up32 v.counts.discarded else v.counts.discarded } }

/-! ## The frame clock (R118) -/

/-- The next tick of the frame clock, which runs in CONNECTED. -/
def Port.nextTick (q : Port) : Option Nat := if q.state = .connected then q.voice.tickAt else none

/-- A tick: a playout step and a capture frame. -/
def frameTick (p : PortId) (audio : Samples) (s : State) : State :=
  onExpiry (s.port p).nextTick
    (fun s => s.onPort p fun q =>
      { q with
        voice :=
          { ((q.voice.playout q.settings.prefill).produce audio s.clock) with
            tickAt := q.voice.tickAt.map fun t => t + frameMs } })
    s

def execFrameTick (p : PortId) (audio : Samples) (s : State) : Host.Outcome State Fault Refusal :=
  event (frameTick p audio) s

/-- The next tick is the fifth underrun in a row (R126). -/
def Port.atUnderrunLimit (q : Port) : Bool :=
  q.state = .connected && (q.voice.state = .playing && (q.voice.queue.isEmpty && q.voice.underruns + 1 = underrunMax))

def execUnderrunLimit (p : PortId) (audio : Samples) (s : State) : Host.Outcome State Fault Refusal :=
  event (fun s => if (s.port p).atUnderrunLimit then frameTick p audio s else s) s

/-! ## The voice part of PORT_STATUS (R130) -/

def VoiceCounts.encode (c : VoiceCounts) : List Byte :=
  u32 c.played ++ u32 c.fills ++ u32 c.underruns ++ u32 c.returns ++ u32 c.notConnected ++ u32 c.late
    ++ u32 c.duplicate ++ u32 c.overflow ++ u32 c.produced ++ u32 c.discarded

/-- The voice part of PORT_STATUS in the order of R130, the ten counts first, where R93 names the playout state first
(log 36). -/
def Voice.encode (v : Voice) : List Byte :=
  let number := opt 2 fun n : Seq16 => u16 n.toNat
  v.counts.encode ++ u8 v.state.ctorIdx ++ u8 v.queue.length ++ number (v.queue.head?.map (·.seq))
    ++ number (v.queue.getLast?.map (·.seq)) ++ number v.reference ++ u16 v.fills ++ u8 v.underruns
    ++ u8 v.capture.length ++ u16 v.captureSeq.toNat

end Sys2Proof.Machine
end

