-- ==== Sys2Proof/Machine/PortCommands.lean ====
section
/-! DEFINITION. The requests and events of the handset ports (04). -/

namespace Sys2Proof.Machine

open Sys2Proof

/-- A PORT_EVENT notice of a local event (R69). -/
def portEvent (p : PortId) (e : PortEvent) (s : State) : State := notice (.portEvent p e s.uptime false) s

/-! ## PORT_ENABLE, PORT_DISABLE (R87, R88, R89) -/

def enableOn (p : PortId) (s : State) : Answer × State :=
  let q := s.port p
  match q.state with
  | .disabled =>
    if p = .two && (s.psv.stage = .conserve || s.psv.stage = .lifeline) then (Answer.refuse .powerLimit, s)
    else (Answer.ok, enterIdle p s)
  | .fault => if q.latched && !q.wiringBad then (Answer.ok, enterIdle p s) else (Answer.refuse .wrongState, s)
  | st => if st.isLocal then (Answer.ok, s) else (Answer.refuse .wrongState, s)

def takePortEnable (tag : Byte) (args : List Byte) : State → State :=
  takeRequest 0x30 false arg8 (fun n => onNamedPort n enableOn) tag args

def execPortEnable (tag : Byte) (args : List Byte) (s : State) : Host.Outcome State Fault Refusal :=
  frame (.portEnable tag args) (takePortEnable tag args) s

def disableOn (p : PortId) (s : State) : Answer × State :=
  let q := s.port p
  if !q.state.isLocal then (Answer.refuse .wrongState, s)
  else if q.state = .disabled then (Answer.ok, s.onPort p fun q => { q with cause := some .request })
  else (Answer.ok, enterDisabled .request p s)

def takePortDisable (tag : Byte) (args : List Byte) : State → State :=
  takeRequest 0x31 false arg8 (fun n => onNamedPort n disableOn) tag args

def execPortDisable (tag : Byte) (args : List Byte) (s : State) : Host.Outcome State Fault Refusal :=
  frame (.portDisable tag args) (takePortDisable tag args) s

/-! ## PORT_RING (R71, R78) -/

/-- The moment at which the loop current, present ever since `loopSince`, is recognised as off-hook (R70, R71). -/
def Port.offHookDue (q : Port) : Option Nat :=
  if q.current && !q.offHook then some (q.loopSince + q.settings.offHookMs) else none

/-- An off-hook recognition is under way, and not complete yet: once it is complete, whether or not it has been taken, a
PORT_RING may be taken before it (R78, log 39). -/
def recognising (p : PortId) (s : State) : Bool := (s.port p).offHookDue.any fun t => s.clock < t

def ringOn (program : Nat) (p : PortId) (s : State) : Answer × State :=
  if 15 < program then (Answer.refuse .badArgument, s)
  else if (s.port p).state != .idle then (Answer.refuse .wrongState, s)
  else if recognising p s then (Answer.refuse .offHook, s)
  else (Answer.ok, startProgram p program (s.onPort p fun q => { q with state := .ringing }))

def takePortRing (tag : Byte) (args : List Byte) : State → State :=
  takeRequest 0x32 false arg88 (fun a => onNamedPort a.1 (ringOn a.2)) tag args

def execPortRing (tag : Byte) (args : List Byte) (s : State) : Host.Outcome State Fault Refusal :=
  frame (.portRing tag args) (takePortRing tag args) s

/-! ## PORT_CONNECT, PORT_RELEASE (R81) -/

/-- A pulse digit in progress is abandoned, and counted (R73). -/
def Port.abandonDigit (q : Port) : Port :=
  if q.pulse.isSome then { q with pulse := none, counts := { q.counts with abandoned := up16 q.counts.abandoned } }
  else q

/-- The record of a port that enters CONNECTED (R81). A pulse digit in progress is counted as abandoned, as R81 says of
this departure from OFFHOOK, against the general words of R73 (log 36). -/
def Port.toConnected (now : Nat) (q : Port) : Port :=
  { q.abandonDigit with
    state := .connected, dialMarker := false, receiverEnd := none, voice := q.voice.opened now }

def connectOn (p : PortId) (s : State) : Answer × State :=
  match (s.port p).state with
  | .offhook => (Answer.ok, (stopSeq (some .port) p s).onPort p (Port.toConnected s.clock))
  | .connected => (Answer.ok, s)
  | _ => (Answer.refuse .wrongState, s)

def takePortConnect (tag : Byte) (args : List Byte) : State → State :=
  takeRequest 0x33 false arg8 (fun n => onNamedPort n connectOn) tag args

def execPortConnect (tag : Byte) (args : List Byte) (s : State) : Host.Outcome State Fault Refusal :=
  frame (.portConnect tag args) (takePortConnect tag args) s

/-- The receiver-off-hook timer restarts at 20 s (R75, R80, R81). -/
def restartReceiver (p : PortId) (s : State) : State :=
  s.onPort p fun q => { q with receiverEnd := some (s.after receiverMs) }

/-- The release tone of the setting copy (R81). -/
def startReleaseTone (p : PortId) (s : State) : State := startTone p (s.port p).settings.releaseTone s

def releaseOn (p : PortId) (s : State) : Answer × State :=
  match (s.port p).state with
  | .offhook => (Answer.ok, restartReceiver p (startReleaseTone p s))
  | .connected =>
    (Answer.ok, portChanged p .connected (startReleaseTone p (s.onPort p (Port.toOffhook s.clock))))
  | .ringing => (Answer.ok, enterIdle p s)
  | _ => (Answer.refuse .wrongState, s)

def takePortRelease (tag : Byte) (args : List Byte) : State → State :=
  takeRequest 0x34 false arg8 (fun n => onNamedPort n releaseOn) tag args

def execPortRelease (tag : Byte) (args : List Byte) (s : State) : Host.Outcome State Fault Refusal :=
  frame (.portRelease tag args) (takePortRelease tag args) s

/-! ## PORT_DIGITS_READ (R76) -/

def DigitRecord.encode (d : DigitRecord) : List Byte := u8 d.digit ++ u8 d.method.ctorIdx ++ u32 d.uptime

def digitsOn (count : Nat) (p : PortId) (s : State) : Answer × State :=
  if count = 0 || digitMax < count then (Answer.refuse .badArgument, s)
  else
    let all := (s.port p).digits
    let left := all.drop count
    let s1 := s.onPort p fun q => { q with digits := left }
    (Answer.with .ok (listOf DigitRecord.encode (all.take count) ++ u8 left.length),
      if all.isEmpty then s1 else clearFault .digitsLost (portSource p) s1)

def takePortDigitsRead (tag : Byte) (args : List Byte) : State → State :=
  takeRequest 0x36 false arg88 (fun a => onNamedPort a.1 (digitsOn a.2)) tag args

def execPortDigitsRead (tag : Byte) (args : List Byte) (s : State) : Host.Outcome State Fault Refusal :=
  frame (.portDigitsRead tag args) (takePortDigitsRead tag args) s

/-! ## PORT_STATUS (R93) -/

/-- Hook reading and loop current; of HPC1 in a copper state those of PAC's sense (R93). -/
def hookData (p : PortId) (s : State) : List Byte :=
  let q := s.port p
  match q.state with
  | .copperIdle => flag s.pac.copperOffHook ++ flag q.loopClosed
  | .copperActive => flag s.pac.copperOffHook ++ flag q.loopClosed
  | _ => flag q.offHook ++ flag q.current

/-- The timer of the port's state, where one runs (R93). -/
def Port.timer (q : Port) : Option Nat :=
  match q.state with
  | .offhook => q.receiverEnd
  | .howler => q.howlerEnd
  | .fault => q.retryEnd
  | _ => none

/-- A newer PORTS block waits to be taken at the next IDLE (R93). -/
def newerSettings (p : PortId) (s : State) : Bool := (s.port p).copy != some (s.sst.contents.ports.of p)

/-- A ring burst, the wait list, or neither (R93). -/
def ringPlace (p : PortId) (s : State) : Nat :=
  if s.rsc.bursting p then 0 else if s.rsc.waiting p then 1 else 2

def PortCounts.encode (c : PortCounts) : List Byte :=
  u16 c.stored ++ u16 c.overflow ++ u16 c.abandoned ++ u16 c.invalid ++ u16 c.flashes ++ u16 c.faults

/-- State, program, segment and skipped bursts of the port's sequencer: R93's list, which is shorter than the record R99
speaks of (log 36). -/
def seqSummary (q : Sequencer) : List Byte :=
  u8 q.stateCode ++ opt 1 (fun r : SeqRun => u8 r.program) q.run ++ opt 1 (fun r : SeqRun => u8 r.segment) q.run
    ++ u16 q.skipped

/-- The reply data of PORT_STATUS, in the order of R93. The latched flag is 00h outside FAULT (log 36). -/
def portData (p : PortId) (s : State) : List Byte :=
  let q := s.port p
  u8 q.state.ctorIdx ++ opt 1 (fun c => u8 (DisableCause.ctorIdx c)) q.cause
    ++ opt 1 (fun k => u8 (WiringFault.ctorIdx k)) q.fault ++ flag q.latched ++ hookData p s ++ u8 q.digits.length
    ++ flag q.pulse.isSome ++ opt 1 (fun t => u8 (s.secondsTo t)) q.timer
    ++ listOf (fun t => u32 (t / 1000)) q.history ++ q.counts.encode ++ opt 15 PortSettings.encode q.copy
    ++ flag (newerSettings p s) ++ seqSummary (s.seq p) ++ u8 (ringPlace p s) ++ q.voice.encode

def statusOn (p : PortId) (s : State) : Answer × State := (Answer.with .ok (portData p s), s)

def takePortStatus (tag : Byte) (args : List Byte) : State → State :=
  takeRequest 0x37 false arg8 (fun n => onNamedPort n statusOn) tag args

def execPortStatus (tag : Byte) (args : List Byte) (s : State) : Host.Outcome State Fault Refusal :=
  frame (.portStatus tag args) (takePortStatus tag args) s

/-! ## Off-hook (R71, R77, R79, R91) -/

/-- The tone of a port that has entered OFFHOOK from IDLE (R77, R92). -/
def offhookTone (p : PortId) (s : State) : State := if s.mpt.autonomous then startAutoTone p s else startDialTone p s

/-- An off-hook is taken in IDLE (R77). -/
def offhookInIdle (p : PortId) (s : State) : State :=
  offhookTone p (portEvent p .offhook (s.onPort p fun q => { q.toOffhook s.clock with heldOffHook := false }))

/-- A ring trip (R79, R92). -/
def ringTrip (p : PortId) (s : State) : State :=
  let s1 := portEvent p .answered ((stopSeq (some .port) p s).onPort p (Port.toOffhook s.clock))
  if s1.mpt.autonomous then startAutoTone p s1 else s1

/-- An off-hook recognised in IDLE is a wake cause, and in QUIESCENT it is held (R91, R185). -/
def offhookWakes (p : PortId) (s : State) : State :=
  let s1 := wakeCause .offHook (some p) s
  if s.psv.mode = .quiescent then s1.onPort p fun q => { q with heldOffHook := true } else offhookInIdle p s1

/-- The debouncer recognises off-hook (R71). -/
def offhookRecognised (p : PortId) (s : State) : State :=
  let s1 := s.onPort p fun q => { q with offHook := true }
  match (s.port p).state with
  | .idle => offhookWakes p s1
  | .ringing => ringTrip p s1
  | _ => s1

def execOffhookRecognised (p : PortId) (s : State) : Host.Outcome State Fault Refusal :=
  event (fun s => onExpiry (s.port p).offHookDue (offhookRecognised p) s) s

/-! ## Digits (R73 to R75) -/

/-- What dialling does at once in OFFHOOK: the receiver-off-hook timer restarts, the dial tone stops (R75). -/
def dialling (p : PortId) (s : State) : State :=
  if (s.port p).state = .offhook then
    let s1 := restartReceiver p s
    if (s1.port p).dialMarker then stopSeq (some .port) p s1 else s1
  else s

/-- A digit enters the digit buffer, or is lost (R75, R152). -/
def storeDigit (digit : Fin 16) (method : DigitMethod) (p : PortId) (s : State) : State :=
  let q := s.port p
  if q.digits.length < digitMax then
    let s1 := s.onPort p fun q =>
      { q with
        digits := q.digits ++ [{ digit := digit, method := method, uptime := s.uptime }]
        counts := { q.counts with stored := up16 q.counts.stored } }
    if q.digits.isEmpty then portEvent p .digitsPending s1 else s1
  else
    let s1 := s.onPort p fun q => { q with counts := { q.counts with overflow := up16 q.counts.overflow } }
    report .digitsLost (portSource p) .info [d32 (s1.port p).counts.overflow] s1

/-- A collected digit (R75). -/
def collectDigit (digit : Fin 16) (method : DigitMethod) (p : PortId) (s : State) : State :=
  dialling p (storeDigit digit method p s)

/-- The greatest pulse count, which stands for more than ten pulses (R73). -/
def pulseMax : Nat := 11

/-- A pulse digit ends by its count (R73). -/
def pulseDigitEnds (count : Nat) (p : PortId) (s : State) : State :=
  let s1 := s.onPort p fun q => { q with pulse := none }
  if pulseMax ≤ count then s1.onPort p fun q => { q with counts := { q.counts with invalid := up16 q.counts.invalid } }
  else collectDigit (Fin.ofNat 16 (count % 10)) .pulse p s1

/-- A pulse digit after a further dial pulse (R73). -/
def PulseDigit.next (endAt : Nat) (d : Option PulseDigit) : PulseDigit :=
  { count := min ((d.map (·.count)).getD 0 + 1) pulseMax, endAt := endAt, endWaits := false }

/-- A dial pulse in OFFHOOK (R73). Each restarts the receiver-off-hook timer (log 31). -/
def dialPulse (p : PortId) (s : State) : State :=
  dialling p (s.onPort p fun q =>
    { q with pulse := some (PulseDigit.next (s.after q.settings.interDigitMs) q.pulse) })

/-- The end of the inter-digit time; a break in progress makes it wait for its class (R73). -/
def interDigitEnds (p : PortId) (s : State) : State :=
  match (s.port p).pulse with
  | none => s
  | some d =>
    if (s.port p).inBreak then s.onPort p fun q => { q with pulse := some { d with endWaits := true } }
    else pulseDigitEnds d.count p s

/-- The moment at which the inter-digit time ends, while it is still to be taken. -/
def Port.digitEnd (q : Port) : Option Nat :=
  match q.pulse with
  | some d => if d.endWaits then none else some d.endAt
  | none => none

def execPulseDigitEnd (p : PortId) (s : State) : Host.Outcome State Fault Refusal :=
  event (fun s => onExpiry (s.port p).digitEnd (interDigitEnds p) s) s

/-- Tone digits are collected in this state (R74). -/
def Port.collectsTones (q : Port) : Bool :=
  q.state = .offhook || (q.state = .connected && q.settings.tonesInCall)

/-- A tone digit present for 40 ms is recognised: the full feed powers the keypad (R70), no recognised tone sounds, and
the pause before it was long enough (R74). -/
def Port.recognises (gapMs : Nat) (q : Port) : Bool :=
  q.state.feed = .full && (q.tone.isNone && (q.toneEnd.isNone || tonePauseMs ≤ gapMs))

/-- A tone digit; the detector is stopped in QUIESCENT (R74, R91). -/
def toneDigit (p : PortId) (digit : Fin 16) (gapMs : Nat) (s : State) : State :=
  if s.psv.mode = .active && (s.port p).recognises gapMs then
    let s1 := s.onPort p fun q => { q with tone := some digit }
    if (s.port p).collectsTones then collectDigit digit .tone p s1 else s1
  else s

def execToneDigit (p : PortId) (digit : Fin 16) (gapMs : Nat) (s : State) : Host.Outcome State Fault Refusal :=
  event (toneDigit p digit gapMs) s

/-- A recognised tone digit stops: its end is the tone pause reference (R74). -/
def toneDigitEnd (p : PortId) (s : State) : State :=
  s.onPort p fun q => if q.tone.isSome then { q with tone := none, toneEnd := some s.clock } else q

def execToneDigitEnd (p : PortId) (s : State) : Host.Outcome State Fault Refusal := event (toneDigitEnd p) s

/-! ## Breaks (R72, R73, R82, R83) -/

/-- The class of a break (R72). -/
def breakClass (c : PortSettings) (lengthMs : Nat) : BreakClass :=
  if lengthMs < c.glitchMs then .glitch
  else if lengthMs ≤ c.pulseMs then .dialPulse
  else if lengthMs < c.flashMs then .indeterminate
  else if lengthMs < c.hangUpMs then .flash
  else .hangUp

/-- A flash in OFFHOOK or CONNECTED (R73, R82). -/
def flash (p : PortId) (s : State) : State :=
  let s1 := s.onPort p fun q =>
    { q.abandonDigit with counts := { q.abandonDigit.counts with flashes := up16 q.counts.flashes } }
  portEvent p (.flash (s.port p).state) s1

/-- A glitch ends a pulse digit whose end waits for the class of the break (R73). -/
def glitch (p : PortId) (s : State) : State :=
  match (s.port p).pulse with
  | some d => if d.endWaits then pulseDigitEnds d.count p s else s
  | none => s

/-- A classed break in OFFHOOK or CONNECTED (R72, R73, R82). -/
def takeBreak (class_ : BreakClass) (p : PortId) (s : State) : State :=
  match (s.port p).state, class_ with
  | .offhook, .glitch => glitch p s
  | .offhook, .dialPulse => dialPulse p s
  | .offhook, .indeterminate => s.onPort p Port.abandonDigit
  | .offhook, .flash => flash p s
  | .connected, .flash => flash p s
  | _, _ => s

/-- The states a hang-up takes to IDLE (R83). -/
def PortState.hangsUp : PortState → Bool
  | .offhook => true
  | .connected => true
  | .howler => true
  | .lockout => true
  | _ => false

/-- A break reaches the hang-up time (R83). -/
def hangUp (p : PortId) (s : State) : State :=
  enterIdleWith (some .port) false (portEvent p (.hungUp (some (s.port p).state))) p s

/-- The moment at which the break under way reaches the hang-up time (R72, R83). -/
def Port.hangUpDue (q : Port) : Option Nat :=
  if q.state.hangsUp && q.inBreak then some (q.loopSince + q.settings.hangUpMs) else none

def execHangUp (p : PortId) (s : State) : Host.Outcome State Fault Refusal :=
  event (fun s => onExpiry (s.port p).hangUpDue (hangUp p) s) s

/-- The loop of a phone is closed from now on. -/
def closeLoop (p : PortId) (s : State) : State := s.onPort p fun q => { q with loopClosed := true, loopSince := s.clock }

/-- The moment at which a break of this length ends: that long after the loop opened; now, where the loop reads closed
and the break lies behind (R72, log 39). -/
def breakEndsAt (lengthMs : Nat) (q : Port) (s : State) : State :=
  if q.loopClosed then s else s.reach (q.loopSince + lengthMs)

/-- Loop current returns after a break, which is classed by its length. One as long as the hang-up time was a hang-up
when it reached that time, if that has not been taken yet; the current is then measured afresh (R72). With the hook reading
ON_HOOK or without feed no break is timed: the loop closes at the clock as it stands, whatever the length (log 39). -/
def breakEnd (p : PortId) (lengthMs : Nat) (s : State) : State :=
  let q := s.port p
  if q.state.fed && q.offHook then
    let class_ := breakClass q.settings lengthMs
    if class_ = .hangUp && q.state.hangsUp then
      closeLoop p (breakEndsAt lengthMs q (hangUp p (breakEndsAt q.settings.hangUpMs q s)))
    else takeBreak class_ p (closeLoop p (breakEndsAt lengthMs q s))
  else closeLoop p s

def execBreakEnd (p : PortId) (lengthMs : Nat) (s : State) : Host.Outcome State Fault Refusal :=
  event (breakEnd p lengthMs) s

/-! ## Howler and lockout (R80, R84) -/

/-- The record of a port that enters HOWLER (R80). -/
def Port.toHowler (now : Nat) (q : Port) : Port :=
  { q with state := .howler, pulse := none, dialMarker := false, receiverEnd := none, howlerEnd := some (now + howlerMs) }

def enterHowler (p : PortId) (s : State) : State :=
  startTone p (s.port p).settings.howlerTone ((stopSeq (some .port) p s).onPort p (Port.toHowler s.clock))

/-- The moment at which the receiver-off-hook time, which runs in OFFHOOK, ends (R80). -/
def Port.receiverDue (q : Port) : Option Nat := if q.state = .offhook then q.receiverEnd else none

def execReceiverOffHookTimeout (p : PortId) (s : State) : Host.Outcome State Fault Refusal :=
  event (fun s => onExpiry (s.port p).receiverDue (enterHowler p) s) s

def enterLockout (p : PortId) (s : State) : State :=
  (stopSeq (some .port) p s).onPort p fun q => { q with state := .lockout, howlerEnd := none }

/-- The moment at which HOWLER, in its state of that name, ends (R84). -/
def Port.howlerDue (q : Port) : Option Nat := if q.state = .howler then q.howlerEnd else none

def execHowlerTimeout (p : PortId) (s : State) : Host.Outcome State Fault Refusal :=
  event (fun s => onExpiry (s.port p).howlerDue (enterLockout p) s) s

/-! ## Line faults (R85, R86) -/

/-- The record of a port that enters FAULT, with the history of its faults (R85, R86). -/
def Port.toFault (kind : WiringFault) (now : Nat) (history : List Nat) (q : Port) : Port :=
  { q with
    state := .fault
    fault := some kind
    latched := 3 ≤ history.length
    offHook := false
    pulse := none
    dialMarker := false
    autoMarker := false
    receiverEnd := none
    howlerEnd := none
    retryEnd := if 3 ≤ history.length then none else some (now + portRetryMs)
    retryOut := false
    wiringBad := true
    heldOffHook := false
    history := if 3 ≤ history.length then [] else history
    counts := { q.counts with faults := up16 q.counts.faults }
    voice := q.voice.close }

/-- The latch, or the notice of the entry (R85, R86). -/
def latchOrRetry (kind : WiringFault) (p : PortId) (s : State) : State :=
  if (s.port p).latched then
    portEvent p (.faultLatched kind) (report .portWiringLatched (portSource p) .major [d32 kind.ctorIdx] s)
  else portEvent p (.faultEntered kind) s

/-- A port enters FAULT, in the order of R85; then its reports of the change (R69). -/
def enterFault (kind : WiringFault) (p : PortId) (s : State) : State :=
  let old := (s.port p).state
  let history := (s.recent portHistoryMs (s.port p).history) ++ [s.clock]
  let s1 := (stopSeq (some .port) p s).onPort p (Port.toFault kind s.clock history)
  let s2 := report .portWiringFault (portSource p) .minor [d32 kind.ctorIdx, d32 old.ctorIdx] s1
  portChanged p old (latchOrRetry kind p s2)

/-- The line sense reports a fault; it is stopped in QUIESCENT, and a foreign voltage is not judged in a ring burst
(R85, R91). -/
def lineFault (p : PortId) (kind : WiringFault) (s : State) : State :=
  let st := (s.port p).state
  if s.psv.mode != .active || (kind = .foreignVoltage && s.rsc.bursting p) then s
  else if st = .fault then s.onPort p fun q => { q with wiringBad := true }
  else if st.watched then enterFault kind p s
  else s

def execLineFault (p : PortId) (kind : WiringFault) (s : State) : Host.Outcome State Fault Refusal :=
  event (lineFault p kind) s

/-- The port leaves FAULT by its retry once the timer has run out and the fault is gone (R86). -/
def tryRecover (p : PortId) (s : State) : State :=
  let q := s.port p
  match q.fault with
  | none => s
  | some kind =>
    if q.state = .fault && (!q.latched && (q.retryOut && !q.wiringBad)) then
      enterIdleWith (some .port) false (portEvent p (.faultRecovered kind)) p s
    else s

/-- The line sense reports the fault gone; it is stopped in QUIESCENT (R86, R91). -/
def lineFaultGone (p : PortId) (s : State) : State :=
  if s.psv.mode = .active && (s.port p).state = .fault then
    tryRecover p (s.onPort p fun q => { q with wiringBad := false })
  else s

def execLineFaultGone (p : PortId) (s : State) : Host.Outcome State Fault Refusal := event (lineFaultGone p) s

/-- The retry timer runs out (R86). -/
def retryRunsOut (p : PortId) (s : State) : State :=
  tryRecover p (s.onPort p fun q => { q with retryEnd := none, retryOut := true })

def execFaultRetryTimeout (p : PortId) (s : State) : Host.Outcome State Fault Refusal :=
  event (fun s => onExpiry (s.port p).retryEnd (retryRunsOut p) s) s

/-- The moment at which the oldest line fault leaves the history (R85). -/
def Port.historyEnd (q : Port) : Option Nat := q.history.head?.map fun t => t + portHistoryMs

def execPortFaultHistoryExpiry (p : PortId) (s : State) : Host.Outcome State Fault Refusal :=
  event (fun s => onExpiry (s.port p).historyEnd
    (State.onPort p fun q => { q with history := q.history.tail }) s) s

end Sys2Proof.Machine
end

