-- ==== Sys2Proof/Machine/PowerCommands.lean ====
section
/-! DEFINITION. The Power Supervisor's events and requests (10), the arrival and the loss of main power. -/

namespace Sys2Proof.Machine

open Sys2Proof

/-! ## POWER_STATUS (R187), SUPPLY_WATCH_SET (R186) -/

/-- PRESENT or ABSENT (R174). -/
def presence (present : Bool) : List Byte := u8 (if present then 0 else 1)

/-- The reply data of POWER_STATUS (R187). -/
def powerData (s : State) : List Byte :=
  let p := s.psv
  u8 p.stage.ctorIdx ++ u32 p.stageSince ++ u8 p.cause.ctorIdx ++ presence p.mainsInput ++ presence p.mainsDeclared
    ++ flag p.debounceEnd.isSome ++ opt 1 (fun t => u8 (s.secondsTo t)) p.debounceEnd ++ u32 p.battery
    ++ u8 p.belowConserve ++ u8 p.belowLifeline ++ u8 p.belowCutoff ++ flag s.conditions.batteryPresent
    ++ flag s.conditions.batteryLow ++ opt 2 (fun t => u16 (s.secondsTo t)) p.stage1End
    ++ u8 (if p.enclosureOpen then 0 else 1) ++ u8 p.mode.ctorIdx ++ u8 p.watchMask.toNat ++ u8 p.watchPattern.toNat
    ++ flag p.matching ++ u16 p.stageChanges ++ u16 p.sleepsGranted ++ u16 p.sleepsRefused ++ u16 p.wakes
    ++ s.sst.contents.power.encode

def takePowerStatus (tag : Byte) (args : List Byte) : State → State :=
  takeRequest 0x58 false noArgs (fun _ s => (Answer.with .ok (powerData s), s)) tag args

def execPowerStatus (tag : Byte) (args : List Byte) (s : State) : Host.Outcome State Fault Refusal :=
  frame (.powerStatus tag args) (takePowerStatus tag args) s

/-- The watch is replaced and judged at once, without a notice (R186). -/
def setWatch (mask pattern : Conditions) (s : State) : State :=
  s.onPsv fun p =>
    { p with watchMask := mask, watchPattern := pattern, matching := Conditions.matches mask pattern s.conditions }

def supplyWatchRequest (a : Nat × Nat) (s : State) : Answer × State :=
  let s1 := setWatch (conditionsOf a.1) (conditionsOf a.2) s
  (Answer.with .ok (u8 s.conditions.toNat ++ flag s1.psv.matching), s1)

def takeSupplyWatchSet (tag : Byte) (args : List Byte) : State → State :=
  takeRequest 0x59 false arg88 supplyWatchRequest tag args

def execSupplyWatchSet (tag : Byte) (args : List Byte) (s : State) : Host.Outcome State Fault Refusal :=
  frame (.supplyWatchSet tag args) (takeSupplyWatchSet tag args) s

/-! ## Mains (R175, R182) -/

/-- How long the input must last before it is declared (R175). -/
def debounceMs (present : Bool) : Nat := if present then mainsPresentMs else mainsAbsentMs

/-- The mains input changes: the debounce timer follows, or the watch of DORMANT (R175, R182). -/
def mainsInputChange (present : Bool) (s : State) : State :=
  if s.psv.mainsInput = present then s
  else
    let s1 := s.onPsv fun p => { p with mainsInput := present }
    if s.alive then
      s1.onPsv fun p =>
        { p with debounceEnd := if present = p.mainsDeclared then none else some (s.after (debounceMs present)) }
    else if s.powered then
      s1.onPsv fun p => { p with dormantWakeAt := if present then some (s.after mainsPresentMs) else none }
    else s1

def execMainsInputChange (present : Bool) (s : State) : Host.Outcome State Fault Refusal :=
  finish (mainsInputChange present s)

def execMainsDebounceExpiry (s : State) : Host.Outcome State Fault Refusal :=
  event (fun s => onExpiry s.psv.debounceEnd (declareMains (!s.psv.mainsDeclared)) s) s

/-! ## Battery (R176 to R178) -/

/-- The reading of this second is taken (R176). -/
def batteryReading (mv : Nat) (s : State) : State :=
  takeReading mv ((s.reach s.psv.readingAt).onPsv fun p => { p with readingAt := p.readingAt + 1000 })

def execBatteryReading (mv : Nat) (s : State) : Host.Outcome State Fault Refusal := event (batteryReading mv) s

/-- A reading that brings a below count from 2 to 3 (R176). -/
def State.meetsThreshold (mv : Nat) (s : State) : Bool :=
  let t := s.sst.contents.power
  (mv < t.conserve && s.psv.belowConserve = 2)
    || ((mv < t.lifeline && s.psv.belowLifeline = 2) || (mv < t.cutoff && s.psv.belowCutoff = 2))

def execThresholdMet (mv : Nat) (s : State) : Host.Outcome State Fault Refusal :=
  event (fun s => if s.meetsThreshold mv then batteryReading mv s else s) s

def execStage1Timeout (s : State) : Host.Outcome State Fault Refusal :=
  event (fun s => onExpiry s.psv.stage1End stage1Expires s) s

/-! ## Enclosure (R176) -/

/-- The enclosure switch input changes (R176). -/
def enclosureInputChange (isOpen : Bool) (s : State) : State :=
  if s.psv.enclosureInputOpen = isOpen then s
  else
    let s1 := s.onPsv fun p => { p with enclosureInputOpen := isOpen }
    if s.alive then
      s1.onPsv fun p => { p with enclosureEnd := if isOpen = p.enclosureOpen then none else some (s.after enclosureMs) }
    else s1

def execEnclosureInputChange (isOpen : Bool) (s : State) : Host.Outcome State Fault Refusal :=
  finish (enclosureInputChange isOpen s)

/-- The enclosure field changes (R176, R186). -/
def enclosureChanges (s : State) : State :=
  let isOpen := !s.psv.enclosureOpen
  let s1 := s.onPsv fun p => { p with enclosureOpen := isOpen, enclosureEnd := none }
  watchCheck (if isOpen then report .enclosureOpen .psv .info [] s1 else clearFault .enclosureOpen .psv s1)

def execEnclosureDebounceExpiry (s : State) : Host.Outcome State Fault Refusal :=
  event (fun s => onExpiry s.psv.enclosureEnd enclosureChanges s) s

/-! ## Main power and DORMANT (R19, R182, R188) -/

/-- Main power arrives at a part without power (R188). -/
def execPowerOn (mains : Bool) (batteryMv : Nat) (enclosureIsOpen recordKept countKept : Bool) (s : State) :
    Host.Outcome State Fault Refusal :=
  finish (if s.powered then s else checkedStart .powerOn mains batteryMv enclosureIsOpen recordKept countKept s)

/-- Main power, or in DORMANT the battery supply, is lost (R19, R182). -/
def execPowerLoss (s : State) : Host.Outcome State Fault Refusal := finish (if s.powered then losePower s else s)

/-- The mains have been PRESENT for 10 s in DORMANT (R182). -/
def dormantWake (batteryMv : Nat) (recordKept countKept : Bool) (s : State) : State :=
  if s.powered && (s.psv.mode = .dormant && s.psv.dormantWakeAt.isSome) then
    checkedStart .mainsReturn true batteryMv s.psv.enclosureInputOpen recordKept countKept s
  else s

def execDormantWake (batteryMv : Nat) (recordKept countKept : Bool) (s : State) : Host.Outcome State Fault Refusal :=
  finish (dormantWake batteryMv recordKept countKept s)

end Sys2Proof.Machine
end

