-- ==== Sys2Proof/Machine/QualityCommands.lean ====
section
/-! DEFINITION. The events of line quality accounting (03). -/

namespace Sys2Proof.Machine

open Sys2Proof

/-! ## Line reports (R46, R50) and what one can bring about -/

def execLineReport (r : LineReport) (s : State) : Host.Outcome State Fault Refusal := event (takeReport r) s

/-- The report is the sixtieth second of the current interval (R52). -/
def State.closesInterval (s : State) : Bool :=
  s.lks.state = .carrying && (match s.lks.interval with | some i => i.seconds + 1 = intervalS | none => false)

def execIntervalClose (r : LineReport) (s : State) : Host.Outcome State Fault Refusal :=
  event (fun s => if s.closesInterval then takeReport r s else s) s

/-- The report brings the consecutive-severe count to its limit (R50). -/
def State.reachesSevereLimit (r : LineReport) (s : State) : Bool :=
  s.lks.state = .carrying && (classify s.lks.params r = .severe && s.lks.consecutiveSevere + 1 = severeLimit)

def execConsecutiveSevereLimit (r : LineReport) (s : State) : Host.Outcome State Fault Refusal :=
  event (fun s => if s.reachesSevereLimit r then takeReport r s else s) s

/-- The report brings the step-up clock to its full count (R62). -/
def State.fillsStepClock (r : LineReport) (s : State) : Bool :=
  s.lks.state = .carrying
    && ((classify s.lks.params r != .severe && !s.lks.lowMargin r) && s.lks.stepClock + 1 = stepClockFull)

def execStepUpClockFull (r : LineReport) (s : State) : Host.Outcome State Fault Refusal :=
  event (fun s => if s.fillsStepClock r then takeReport r s else s) s

/-! ## Impulse events and ring guard (R47, R48, R51) -/

/-- An impulse event counted into an interval (R51). -/
def Interval.impulse (durationMs : Nat) (guarded : Bool) (i : Interval) : Interval :=
  { i with
    impulses := up16 i.impulses
    guardedImpulses := if guarded then up16 i.guardedImpulses else i.guardedImpulses
    longest := max i.longest (min durationMs max16) }

def execImpulseEvent (durationMs : Nat) (guarded : Bool) (s : State) : Host.Outcome State Fault Refusal :=
  event (State.onLks fun k => { k with interval := k.interval.map (Interval.impulse durationMs guarded) }) s

def execRingGuardClose (s : State) : Host.Outcome State Fault Refusal :=
  event (fun s => onExpiry s.lks.ringGuard (State.onLks fun k => { k with ringGuard := none }) s) s

/-! ## Retrains, storms, trials (R57, R58, R61, R63, R65) -/

def execQualityGraceExpiry (s : State) : Host.Outcome State Fault Refusal :=
  event (fun s => onExpiry s.lks.retrainEnd qualityDrop s) s

/-- The moment at which the oldest entry of the drop window is removed (R58). -/
def Lks.windowEnd (k : Lks) : Option Nat := k.window.head?.map fun d => d.at_ + dropWindowMs

def execDropWindowExpiry (s : State) : Host.Outcome State Fault Refusal :=
  event (fun s => onExpiry s.lks.windowEnd (State.onLks fun k => { k with window := k.window.tail }) s) s

def execStormClearTime (s : State) : Host.Outcome State Fault Refusal :=
  event (fun s => onExpiry (s.carriedFor stormClearMs)
    (fun s => clearFault .linkFailing .lks (clearFault .linkUnstable .lks s)) s) s

/-- The end of a trial's watch (R63). -/
def Lks.watchEnd (k : Lks) : Option Nat := k.trial.bind (·.watchEnd)

def execTrialWatchEnd (s : State) : Host.Outcome State Fault Refusal :=
  event (fun s => onExpiry s.lks.watchEnd trialEnd s) s

/-- The barrier of a rung becomes absent, and a step-up may be due (R65). -/
def barrierExpires (rung : Nat) (s : State) : State :=
  stepUpCheck (s.onLks fun k => { k with barriers := k.barriers.setIfInBounds rung none })

def execBarrierExpiry (rung : Fin 8) (s : State) : Host.Outcome State Fault Refusal :=
  event (fun s => onExpiry (s.lks.barrier rung) (barrierExpires rung) s) s

end Sys2Proof.Machine
end

