-- ==== Sys2Proof/Machine/SettingsStore.lean ====
section
/-! DEFINITION. The Settings Store's requests and the ends of its reads and writes (12). -/

namespace Sys2Proof.Machine

open Sys2Proof

/-- A save runs (R205). -/
def StoreState.isSaving : StoreState → Bool
  | .saving _ => true
  | _ => false

/-- A change of the record of a block. -/
def Sst.onInfo (b : BlockId) (f : BlockMeta → BlockMeta) (t : Sst) : Sst :=
  { t with info := t.info.setIfInBounds b.ctorIdx (f (t.infoOf b)) }

/-! ## SETTING_GET (R208) -/

/-- The block and, for PROGRAMS, the program an argument names. -/
structure BlockArg where
  block : Nat
  program : Nat
  rest : List Byte
  deriving DecidableEq, Repr

/-- The arguments of SETTING_GET: block and, for PROGRAMS, program. -/
def rdGet (bs : List Byte) : Option BlockArg := do
  let (block, bs) ← rd8 bs
  if block = 4 then
    let (program, bs) ← rd8 bs
    pure ⟨block, program, bs⟩
  else pure ⟨block, 0, bs⟩

/-- The block that an argument names: BAD_ARGUMENT outside 0 to 8, and for a program outside 0 to 15 (R208). -/
def BlockArg.named (a : BlockArg) : Option BlockId := if a.program ≤ 15 then nth allBlocks a.block else none

/-- The reply data of SETTING_GET (R208). -/
def settingData (b : BlockId) (program : Nat) (s : State) : List Byte :=
  let i := s.sst.infoOf b
  s.sst.contents.encode program b ++ u16 i.gen.toNat ++ flag i.dirty ++ flag i.locked ++ u8 i.statusCode

def settingGetRequest (a : BlockArg) (s : State) : Answer × State :=
  match a.named with
  | none => (Answer.refuse .badArgument, s)
  | some b => (Answer.with .ok (settingData b a.program s), s)

def takeSettingGet (tag : Byte) (args : List Byte) : State → State :=
  takeRequest 0x10 false rdGet settingGetRequest tag args

def execSettingGet (tag : Byte) (args : List Byte) (s : State) : Host.Outcome State Fault Refusal :=
  frame (.settingGet tag args) (takeSettingGet tag args) s

/-! ## SETTING_PUT (R208, R209) -/

/-- The arguments of SETTING_PUT: block, expected generation, for PROGRAMS program, contents (log 13). -/
structure PutArg where
  target : BlockArg
  gen : Nat
  deriving DecidableEq, Repr

/-- A put whose block number is no block carries no contents that could be too short. -/
def PutArg.complete (a : PutArg) : Bool :=
  match a.target.named with
  | none => true
  | some b => contentsComplete b a.target.rest

def rdPut : Reader PutArg := rdIf PutArg.complete fun bs => do
  let (block, bs) ← rd8 bs
  let (gen, bs) ← rd16 bs
  if block = 4 then
    let (program, bs) ← rd8 bs
    pure (⟨⟨block, program, bs⟩, gen⟩, [])
  else pure (⟨⟨block, 0, bs⟩, gen⟩, [])

/-- The stage-1 timer after a put to POWER: measured afresh from the entry to BATTERY, it runs out at once where
the new time has passed (R178). -/
def powerPut (s : State) : State :=
  match s.psv.stage1End with
  | none => s
  | some _ =>
    let t := s.psv.stage1From + s.stage1Ms
    let s1 := s.onPsv fun p => { p with stage1End := some t }
    if t ≤ s.clock then stage1Expires s1 else s1

/-- What a put to CONTROL changes at once (R195, R209). -/
def controlPut (old : ControlSettings) (s : State) : State :=
  let new := s.sst.contents.control
  let s1 := if old.silenceS = new.silenceS then s else restartSilence s
  if new.autoLifeline && !old.autoLifeline then autoLifeline s1 else s1

/-- The effect of a put in the block that it concerns (R209). -/
def putEffect (b : BlockId) (old : Settings) (s : State) : State :=
  match b with
  | .link => rerunAttempt s
  | .power => if old.power.stage1Min = s.sst.contents.power.stage1Min then s else powerPut s
  | .remote => if s.sst.contents.remote.enable then s else endLoopback .disabled s
  | .control => controlPut old.control s
  | _ => s

/-- The blocks a put to which needs both sequencers IDLE (R98, R208). -/
def BlockId.ofPrograms : BlockId → Bool
  | .tones => true
  | .programs => true
  | _ => false

/-- SETTING_PUT, its checks in the order of R208. -/
def settingPutRequest (a : PutArg) (s : State) : Answer × State :=
  match a.target.named with
  | none => (Answer.refuse .badArgument, s)
  | some b =>
    let i := s.sst.infoOf b
    if s.sst.store.isSaving then (Answer.refuse .busy, s)
    else if b = .ident || i.locked then (Answer.refuse .locked, s)
    else if i.gen.toNat != a.gen then (Answer.with .wrongGeneration (u16 i.gen.toNat), s)
    else if b.ofPrograms && !(s.seq1.isIdle && s.seq2.isIdle) then (Answer.refuse .busy, s)
    else
      match s.sst.contents.put b a.target.program a.target.rest with
      | none => (Answer.refuse .badArgument, s)
      | some new =>
        let s1 := s.onSst fun t =>
          ({ t with contents := new } : Sst).onInfo b fun i => { i with gen := i.gen + 1, dirty := true }
        (Answer.with .ok (u16 (i.gen + 1).toNat), putEffect b s.sst.contents s1)

def takeSettingPut (tag : Byte) (args : List Byte) : State → State :=
  takeRequest 0x11 false (fun bs => (rdPut bs).map (·.1)) settingPutRequest tag args

def execSettingPut (tag : Byte) (args : List Byte) (s : State) : Host.Outcome State Fault Refusal :=
  frame (.settingPut tag args) (takeSettingPut tag args) s

/-! ## SETTINGS_SAVE, SAVE_WRITE_DONE (R210) -/

/-- The blocks whose dirty flag is set, in block order. -/
def Sst.dirtyBlocks (t : Sst) : List BlockId := allBlocks.filter (fun b => (t.infoOf b).dirty)

/-- The lock flags as they stand, LINK and REMOTE. -/
def Sst.lockFlags (t : Sst) : Bool × Bool := ((t.infoOf .link).locked, (t.infoOf .remote).locked)

/-- The next write of a save begins: the next dirty block, or the lock record with the flags as they stand. -/
def nextWrite (rest : List BlockId) (results : List (BlockId × Bool)) (t : Sst) : Sst :=
  match rest with
  | b :: more => { t with store := .saving { item := .block b, rest := more, results := results, locks := t.lockFlags } }
  | [] => { t with store := .saving { item := .lockRecord, rest := [], results := results, locks := t.lockFlags } }

def settingsSaveRequest (s : State) : Answer × State :=
  if s.psv.stage = .conserve || s.psv.stage = .lifeline then (Answer.refuse .powerLimit, s)
  else if s.sst.store.isSaving then (Answer.refuse .busy, s)
  else
    let dirty := s.sst.dirtyBlocks
    (Answer.with .accepted (listOf (fun b : BlockId => u8 b.ctorIdx) dirty), s.onSst (nextWrite dirty []))

def takeSettingsSave (tag : Byte) (args : List Byte) : State → State :=
  takeRequest 0x12 false noArgs (fun _ => settingsSaveRequest) tag args

def execSettingsSave (tag : Byte) (args : List Byte) (s : State) : Host.Outcome State Fault Refusal :=
  frame (.settingsSave tag args) (takeSettingsSave tag args) s

/-- The image with a block's entry written: contents and generation as they stand (R210). No put changes them
while a save runs (R208). -/
def Image.write (b : BlockId) (c : Settings) (gen : Seq16) (m : Image) : Image :=
  match b with
  | .ident => { m with ident := some (c.ident, gen) }
  | .link => { m with link := some (c.link, gen) }
  | .ports => { m with ports := some (c.ports, gen) }
  | .tones => { m with tones := some (c.tones, gen) }
  | .programs => { m with programs := some (c.programs, gen) }
  | .tests => { m with tests := some (c.tests, gen) }
  | .power => { m with power := some (c.power, gen) }
  | .remote => { m with remote := some (c.remote, gen) }
  | .control => { m with control := some (c.control, gen) }

/-- A failed entry may hold a bad CRC, or still be good as before: the part's choice (R210, log 10). -/
def failedEntry (i : SaveItem) (s : State) : State :=
  let c := s.choose 2
  if c.1 = 0 then c.2.onSst fun t => { t with image := t.image.spoil i } else c.2

/-- The end of the write of a block (R210). A failure is reported here, ahead of SAVE_DONE (R152, log 33). -/
def blockWritten (good : Bool) (b : BlockId) (s : State) : State :=
  if good then
    s.onSst fun t =>
      ({ t with image := t.image.write b t.contents (t.infoOf b).gen } : Sst).onInfo b fun i =>
        { i with dirty := false, good := true }
  else report .settingsSaveFailed .sst .major [d32 b.ctorIdx] (failedEntry (.block b) s)

/-- The end of the write of the lock record (R210). -/
def locksWritten (good : Bool) (locks : Bool × Bool) (s : State) : State :=
  if good then s.onSst fun t => { t with image := { t.image with locks := some locks } }
  else failedEntry .lockRecord s

/-- The result of a block in SAVE_DONE (R210). -/
def resultOf (results : List (BlockId × Bool)) (b : BlockId) : WriteResult :=
  match results.find? (fun r => r.1 = b) with
  | some (_, true) => .writtenGood
  | some (_, false) => .failed
  | none => .notWritten

/-- The last write has ended: IDLE, SAVE_DONE, the clearings (R210). SETTINGS_SAVE_FAILED is cleared
on the condition that R152 lays down and R151 has reported, a good result for every block written; it is met wherever every
item is good, as R210 says (log 33). -/
def saveEnds (results : List (BlockId × Bool)) (locksGood : Bool) (s : State) : State :=
  let s1 := notice (.saveDone (allBlocks.map (resultOf results)) (if locksGood then .writtenGood else .failed))
    (s.onSst fun t => { t with store := .idle })
  let s2 := if results.all (·.2) then clearFault .settingsSaveFailed .sst s1 else s1
  if locksGood && s2.sst.info.toList.all (·.good) then clearFault .settingsBad .sst s2 else s2

/-- A write with its read-back ends (R210). -/
def saveWriteDone (good : Bool) (s : State) : State :=
  match s.sst.store with
  | .saving r =>
    match r.item with
    | .block b => (blockWritten good b s).onSst (nextWrite r.rest (r.results ++ [(b, good)]))
    | .lockRecord => saveEnds r.results good (locksWritten good r.locks s)
  | _ => s

def execSaveWriteDone (good : Bool) (s : State) : Host.Outcome State Fault Refusal := event (saveWriteDone good) s

/-! ## SETTINGS_LOCK (R211) -/

/-- The bits of LINK and REMOTE in a set of settings blocks. -/
def lockable : BitVec 16 := 0x0082#16

def settingsLockRequest (n : Nat) (s : State) : Answer × State :=
  let set := BitVec.ofNat 16 n
  if set = 0 || set &&& ~~~lockable != 0 then (Answer.refuse .badArgument, s)
  else
    let lock := fun (b : BlockId) (t : Sst) =>
      if set.getLsbD b.ctorIdx then t.onInfo b (fun i => { i with locked := true }) else t
    (Answer.ok, s.onSst fun t => lock .remote (lock .link t))

def takeSettingsLock (tag : Byte) (args : List Byte) : State → State :=
  takeRequest 0x13 false arg16 settingsLockRequest tag args

def execSettingsLock (tag : Byte) (args : List Byte) (s : State) : Host.Outcome State Fault Refusal :=
  frame (.settingsLock tag args) (takeSettingsLock tag args) s

/-! ## LOADING_DONE (R206) -/

def execLoadingDone (unreadable : BitVec 10) (s : State) : Host.Outcome State Fault Refusal :=
  event (fun s => if s.loading then finishLoading unreadable s else s) s

end Sys2Proof.Machine
end

