-- ==== Sys2Proof/Machine/Wake.lean ====
section
/-! DEFINITION. The end of the wake delay (10 R185) and the events held for it. -/

namespace Sys2Proof.Machine

open Sys2Proof

/-- What a good frame from the host does, by the rule of its kind. No other command is ever kept. -/
def frameMeaning : Instr → State → State
  | .heartbeat tag args => takeHeartbeat tag args
  | .getStatus tag args => takeGetStatus tag args
  | .partReset tag args => takePartReset tag args
  | .sleep tag args => takeSleep tag args
  | .noticeMask tag args => takeNoticeMask tag args
  | .settingGet tag args => takeSettingGet tag args
  | .settingPut tag args => takeSettingPut tag args
  | .settingsSave tag args => takeSettingsSave tag args
  | .settingsLock tag args => takeSettingsLock tag args
  | .linkEnable tag args => takeLinkEnable tag args
  | .linkDisable tag args => takeLinkDisable tag args
  | .linkRetrain tag args => takeLinkRetrain tag args
  | .linkRungSet tag args => takeLinkRungSet tag args
  | .linkStatus tag args => takeLinkStatus tag args
  | .linkHistory tag args => takeLinkHistory tag args
  | .lifelineSelect tag args => takeLifelineSelect tag args
  | .portEnable tag args => takePortEnable tag args
  | .portDisable tag args => takePortDisable tag args
  | .portRing tag args => takePortRing tag args
  | .portConnect tag args => takePortConnect tag args
  | .portRelease tag args => takePortRelease tag args
  | .portTone tag args => takePortTone tag args
  | .portDigitsRead tag args => takePortDigitsRead tag args
  | .portStatus tag args => takePortStatus tag args
  | .seqPause tag args => takeSeqPause tag args
  | .seqResume tag args => takeSeqResume tag args
  | .seqStop tag args => takeSeqStop tag args
  | .ringSupplyReset tag args => takeRingSupplyReset tag args
  | .testRequest tag args => takeTestRequest tag args
  | .testCancel tag args => takeTestCancel tag args
  | .testResult tag args => takeTestResult tag args
  | .faultRead tag args => takeFaultRead tag args
  | .faultAck tag args => takeFaultAck tag args
  | .faultPurge tag args => takeFaultPurge tag args
  | .retainedRead tag args => takeRetainedRead tag args
  | .retainedClear tag args => takeRetainedClear tag args
  | .remoteStatus tag args => takeRemoteStatus tag args
  | .remoteCountsClear tag args => takeRemoteCountsClear tag args
  | .powerStatus tag args => takePowerStatus tag args
  | .supplyWatchSet tag args => takeSupplyWatchSet tag args
  | .unknownRequestCode tag body => takeUnknownRequestCode tag body
  | .voiceDown _ body => takeVoiceDown body
  | _ => id

/-- The kept frames, in order of arrival; each abandons an entry to QUIESCENT that one before it was granted
(R183, R185). -/
def takeHeld : List Instr → State → State
  | [], s => s
  | c :: rest, s => takeHeld rest (takeFrame (frameMeaning c) (wakeCause .hostFrame none s))

/-- The off-hook of a port that was held for the end of the wake delay: taken in IDLE, or as the ring trip where a
kept PORT_RING has been taken first (R77, R78, R91). -/
def takeHeldOffHook (p : PortId) (s : State) : State :=
  if (s.port p).heldOffHook then
    let s1 := s.onPort p fun q => { q with heldOffHook := false }
    match (s1.port p).state with
    | .idle => offhookWakes p s1
    | .ringing => ringTrip p s1
    | _ => s1
  else s

/-- The part is ACTIVE again: the WAKE notice, then the host silence timer (R185). -/
def becomeActive (w : Wake) (s : State) : State :=
  let s1 := s.onPsv fun p => { p with mode := .active, wake := none, wakes := up16 p.wakes }
  restartSilence (notice (.wake w.cause w.port s.uptime ((s.clock - s.psv.quiescentSince) / 1000)) s1)

/-- The wake delay ends (R185). Of two held off-hooks port 1's is taken first (log 42). -/
def wakeEnds (w : Wake) (s : State) : State :=
  let s1 := pump (becomeActive w s)
  let s2 := takeHeld s1.mpt.held (s1.onMpt fun m => { m with held := [] })
  takeHeldOffHook .two (takeHeldOffHook .one s2)

/-- The wake delay under way, if one is. -/
def wakeDelayEnd (s : State) : State :=
  match s.psv.wake with
  | none => s
  | some w => wakeEnds w (s.reach w.endAt)

def execWakeDelayEnd (s : State) : Host.Outcome State Fault Refusal := event wakeDelayEnd s

end Sys2Proof.Machine
end

