-- ==== Sys2Proof/Machine/Dispatch.lean ====
section
/-! DEFINITION. One arm per command: its meaning. -/

namespace Sys2Proof.Machine

open Sys2Proof

def exec (i : Instr) (s : State) : Host.Outcome State Fault Refusal :=
  match i with
  | .heartbeat tag args => Sys2Proof.Machine.execHeartbeat tag args s
  | .getStatus tag args => Sys2Proof.Machine.execGetStatus tag args s
  | .partReset tag args => Sys2Proof.Machine.execPartReset tag args s
  | .sleep tag args => Sys2Proof.Machine.execSleep tag args s
  | .noticeMask tag args => Sys2Proof.Machine.execNoticeMask tag args s
  | .settingGet tag args => Sys2Proof.Machine.execSettingGet tag args s
  | .settingPut tag args => Sys2Proof.Machine.execSettingPut tag args s
  | .settingsSave tag args => Sys2Proof.Machine.execSettingsSave tag args s
  | .settingsLock tag args => Sys2Proof.Machine.execSettingsLock tag args s
  | .linkEnable tag args => Sys2Proof.Machine.execLinkEnable tag args s
  | .linkDisable tag args => Sys2Proof.Machine.execLinkDisable tag args s
  | .linkRetrain tag args => Sys2Proof.Machine.execLinkRetrain tag args s
  | .linkRungSet tag args => Sys2Proof.Machine.execLinkRungSet tag args s
  | .linkStatus tag args => Sys2Proof.Machine.execLinkStatus tag args s
  | .linkHistory tag args => Sys2Proof.Machine.execLinkHistory tag args s
  | .lifelineSelect tag args => Sys2Proof.Machine.execLifelineSelect tag args s
  | .portEnable tag args => Sys2Proof.Machine.execPortEnable tag args s
  | .portDisable tag args => Sys2Proof.Machine.execPortDisable tag args s
  | .portRing tag args => Sys2Proof.Machine.execPortRing tag args s
  | .portConnect tag args => Sys2Proof.Machine.execPortConnect tag args s
  | .portRelease tag args => Sys2Proof.Machine.execPortRelease tag args s
  | .portTone tag args => Sys2Proof.Machine.execPortTone tag args s
  | .portDigitsRead tag args => Sys2Proof.Machine.execPortDigitsRead tag args s
  | .portStatus tag args => Sys2Proof.Machine.execPortStatus tag args s
  | .seqPause tag args => Sys2Proof.Machine.execSeqPause tag args s
  | .seqResume tag args => Sys2Proof.Machine.execSeqResume tag args s
  | .seqStop tag args => Sys2Proof.Machine.execSeqStop tag args s
  | .ringSupplyReset tag args => Sys2Proof.Machine.execRingSupplyReset tag args s
  | .testRequest tag args => Sys2Proof.Machine.execTestRequest tag args s
  | .testCancel tag args => Sys2Proof.Machine.execTestCancel tag args s
  | .testResult tag args => Sys2Proof.Machine.execTestResult tag args s
  | .faultRead tag args => Sys2Proof.Machine.execFaultRead tag args s
  | .faultAck tag args => Sys2Proof.Machine.execFaultAck tag args s
  | .faultPurge tag args => Sys2Proof.Machine.execFaultPurge tag args s
  | .retainedRead tag args => Sys2Proof.Machine.execRetainedRead tag args s
  | .retainedClear tag args => Sys2Proof.Machine.execRetainedClear tag args s
  | .remoteStatus tag args => Sys2Proof.Machine.execRemoteStatus tag args s
  | .remoteCountsClear tag args => Sys2Proof.Machine.execRemoteCountsClear tag args s
  | .powerStatus tag args => Sys2Proof.Machine.execPowerStatus tag args s
  | .supplyWatchSet tag args => Sys2Proof.Machine.execSupplyWatchSet tag args s
  | .unknownRequestCode tag body => Sys2Proof.Machine.execUnknownRequestCode tag body s
  | .voiceDown tag body => Sys2Proof.Machine.execVoiceDown tag body s
  | .frameDiscard bytes => Sys2Proof.Machine.execFrameDiscard bytes s
  | .receiverGap => Sys2Proof.Machine.execReceiverGap s
  | .transmitterFree => Sys2Proof.Machine.execTransmitterFree s
  | .resetPin => Sys2Proof.Machine.execResetPin s
  | .powerOn mains batteryMv enclosureOpen recordKept countKept => Sys2Proof.Machine.execPowerOn mains batteryMv enclosureOpen recordKept countKept s
  | .powerLoss => Sys2Proof.Machine.execPowerLoss s
  | .loadingDone unreadable => Sys2Proof.Machine.execLoadingDone unreadable s
  | .saveWriteDone good => Sys2Proof.Machine.execSaveWriteDone good s
  | .copperOffhook => Sys2Proof.Machine.execCopperOffhook s
  | .copperOnhook => Sys2Proof.Machine.execCopperOnhook s
  | .exchangeBurstStart => Sys2Proof.Machine.execExchangeBurstStart s
  | .exchangeBurstEnd => Sys2Proof.Machine.execExchangeBurstEnd s
  | .exchangeRingSessionEnd => Sys2Proof.Machine.execExchangeRingSessionEnd s
  | .hazard peakMv => Sys2Proof.Machine.execHazard peakMv s
  | .hazardVoltageFall => Sys2Proof.Machine.execHazardVoltageFall s
  | .hazardHoldEnd => Sys2Proof.Machine.execHazardHoldEnd s
  | .pairWaitLimit => Sys2Proof.Machine.execPairWaitLimit s
  | .relayMoveComplete => Sys2Proof.Machine.execRelayMoveComplete s
  | .linkAbsenceExpiry => Sys2Proof.Machine.execLinkAbsenceExpiry s
  | .greeted => Sys2Proof.Machine.execGreeted s
  | .refused => Sys2Proof.Machine.execRefused s
  | .greetingTimeout => Sys2Proof.Machine.execGreetingTimeout s
  | .attained down up margin => Sys2Proof.Machine.execAttained down up margin s
  | .notAttainable => Sys2Proof.Machine.execNotAttainable s
  | .lost => Sys2Proof.Machine.execLost s
  | .trainingTimeout => Sys2Proof.Machine.execTrainingTimeout s
  | .signalLost => Sys2Proof.Machine.execSignalLost s
  | .signalPresent => Sys2Proof.Machine.execSignalPresent s
  | .lossTimer => Sys2Proof.Machine.execLossTimer s
  | .backoffResetTime => Sys2Proof.Machine.execBackoffResetTime s
  | .closeAck => Sys2Proof.Machine.execCloseAck s
  | .releasingTimeout => Sys2Proof.Machine.execReleasingTimeout s
  | .backoffEnd => Sys2Proof.Machine.execBackoffEnd s
  | .upstreamCell cell => Sys2Proof.Machine.execUpstreamCell cell s
  | .downstreamCell cell => Sys2Proof.Machine.execDownstreamCell cell s
  | .loopedCell => Sys2Proof.Machine.execLoopedCell s
  | .powerDropGraceExpiry => Sys2Proof.Machine.execPowerDropGraceExpiry s
  | .lineReport report => Sys2Proof.Machine.execLineReport report s
  | .impulseEvent durationMs guarded => Sys2Proof.Machine.execImpulseEvent durationMs guarded s
  | .ringGuardClose => Sys2Proof.Machine.execRingGuardClose s
  | .intervalClose report => Sys2Proof.Machine.execIntervalClose report s
  | .consecutiveSevereLimit report => Sys2Proof.Machine.execConsecutiveSevereLimit report s
  | .qualityGraceExpiry => Sys2Proof.Machine.execQualityGraceExpiry s
  | .dropWindowExpiry => Sys2Proof.Machine.execDropWindowExpiry s
  | .stormClearTime => Sys2Proof.Machine.execStormClearTime s
  | .stepUpClockFull report => Sys2Proof.Machine.execStepUpClockFull report s
  | .trialWatchEnd => Sys2Proof.Machine.execTrialWatchEnd s
  | .barrierExpiry rung => Sys2Proof.Machine.execBarrierExpiry rung s
  | .offhookRecognised port => Sys2Proof.Machine.execOffhookRecognised port s
  | .breakEnd port lengthMs => Sys2Proof.Machine.execBreakEnd port lengthMs s
  | .hangUp port => Sys2Proof.Machine.execHangUp port s
  | .pulseDigitEnd port => Sys2Proof.Machine.execPulseDigitEnd port s
  | .toneDigit port digit gapMs => Sys2Proof.Machine.execToneDigit port digit gapMs s
  | .toneDigitEnd port => Sys2Proof.Machine.execToneDigitEnd port s
  | .receiverOffHookTimeout port => Sys2Proof.Machine.execReceiverOffHookTimeout port s
  | .howlerTimeout port => Sys2Proof.Machine.execHowlerTimeout port s
  | .lineFault port kind => Sys2Proof.Machine.execLineFault port kind s
  | .lineFaultGone port => Sys2Proof.Machine.execLineFaultGone port s
  | .faultRetryTimeout port => Sys2Proof.Machine.execFaultRetryTimeout port s
  | .portFaultHistoryExpiry port => Sys2Proof.Machine.execPortFaultHistoryExpiry port s
  | .segmentEnd port => Sys2Proof.Machine.execSegmentEnd port s
  | .chargeDone => Sys2Proof.Machine.execChargeDone s
  | .supplyIdleTimeout => Sys2Proof.Machine.execSupplyIdleTimeout s
  | .burstWaitTimeout port => Sys2Proof.Machine.execBurstWaitTimeout port s
  | .supplyFault kind => Sys2Proof.Machine.execSupplyFault kind s
  | .supplyRetryTimeout => Sys2Proof.Machine.execSupplyRetryTimeout s
  | .supplyFaultHistoryExpiry => Sys2Proof.Machine.execSupplyFaultHistoryExpiry s
  | .frameTick port audio => Sys2Proof.Machine.execFrameTick port audio s
  | .underrunLimit port audio => Sys2Proof.Machine.execUnderrunLimit port audio s
  | .settleEnd => Sys2Proof.Machine.execSettleEnd s
  | .measurePeriodEnd samples => Sys2Proof.Machine.execMeasurePeriodEnd samples s
  | .repeatComplete samples => Sys2Proof.Machine.execRepeatComplete samples s
  | .retainedWriteDone => Sys2Proof.Machine.execRetainedWriteDone s
  | .summary ref => Sys2Proof.Machine.execSummary ref s
  | .resultRead ref kind => Sys2Proof.Machine.execResultRead ref kind s
  | .testStart ref code kind repeats => Sys2Proof.Machine.execTestStart ref code kind repeats s
  | .loopbackStart ref code minutes => Sys2Proof.Machine.execLoopbackStart ref code minutes s
  | .loopbackStop ref code => Sys2Proof.Machine.execLoopbackStop ref code s
  | .unknownMaintenanceRequest ref => Sys2Proof.Machine.execUnknownMaintenanceRequest ref s
  | .maintenanceAck ref => Sys2Proof.Machine.execMaintenanceAck ref s
  | .maintenanceAckTimeout => Sys2Proof.Machine.execMaintenanceAckTimeout s
  | .attemptWindowExpiry => Sys2Proof.Machine.execAttemptWindowExpiry s
  | .lockoutEnd => Sys2Proof.Machine.execLockoutEnd s
  | .loopbackExpiry => Sys2Proof.Machine.execLoopbackExpiry s
  | .mainsInputChange present => Sys2Proof.Machine.execMainsInputChange present s
  | .mainsDebounceExpiry => Sys2Proof.Machine.execMainsDebounceExpiry s
  | .batteryReading mv => Sys2Proof.Machine.execBatteryReading mv s
  | .thresholdMet mv => Sys2Proof.Machine.execThresholdMet mv s
  | .stage1Timeout => Sys2Proof.Machine.execStage1Timeout s
  | .enclosureInputChange isOpen => Sys2Proof.Machine.execEnclosureInputChange isOpen s
  | .enclosureDebounceExpiry => Sys2Proof.Machine.execEnclosureDebounceExpiry s
  | .dormantWake batteryMv recordKept countKept => Sys2Proof.Machine.execDormantWake batteryMv recordKept countKept s
  | .wakeDelayEnd => Sys2Proof.Machine.execWakeDelayEnd s
  | .hostSilenceTimeout => Sys2Proof.Machine.execHostSilenceTimeout s
  | .upstreamCellSent => Sys2Proof.Machine.execUpstreamCellSent s
  | .downstreamCellHanded => Sys2Proof.Machine.execDownstreamCellHanded s
  | .loopCurrentChange port present => Sys2Proof.Machine.execLoopCurrentChange port present s
  | .syncByte byte => Sys2Proof.Machine.execSyncByte byte s
  | .lineError => Sys2Proof.Machine.execLineError s

end Sys2Proof.Machine
end

