-- ==== Sys2Proof/Machine/Time.lean ====
section
/-! DEFINITION. The passing of time while no command waits: the timers of the part that have run out, and the tick
(log 1). -/

namespace Sys2Proof.Machine

open Sys2Proof

/-- The command of a timer whose end has come. -/
def due (s : State) (t : Option Nat) (c : Instr) : List Instr :=
  match t with
  | some t => if t ≤ s.clock then [c] else []
  | none => []

/-- Timers of MPT and PSV. -/
def dueControl (s : State) : List Instr :=
  due s (if s.mpt.rx = .hunt then none else some (s.mpt.rxLast + gapMs + 1)) .receiverGap
    ++ due s s.mpt.silenceEnd .hostSilenceTimeout
    ++ due s s.psv.debounceEnd .mainsDebounceExpiry
    ++ due s s.psv.stage1End .stage1Timeout
    ++ due s s.psv.enclosureEnd .enclosureDebounceExpiry
    ++ due s (s.psv.wake.map (·.endAt)) .wakeDelayEnd

/-- Timers of PAC. -/
def duePair (s : State) : List Instr :=
  due s s.copperOffHookDue .copperOffhook
    ++ due s s.copperOnHookDue .copperOnhook
    ++ due s s.pac.sessionEnd .exchangeRingSessionEnd
    ++ due s s.pac.holdEnd .hazardHoldEnd
    ++ due s s.pac.waitEnd .pairWaitLimit
    ++ due s (s.pac.relay.move.map (·.doneAt)) .relayMoveComplete
    ++ due s s.pac.absenceEnd .linkAbsenceExpiry

/-- A record of a link storm is ACTIVE (R59, R60). -/
def State.stormRecorded (s : State) : Bool :=
  s.flg.log.any (FaultRecord.isOf .linkUnstable .lks) || s.flg.log.any (FaultRecord.isOf .linkFailing .lks)

/-- The rung numbers. -/
def allRungs : List (Fin 8) := [0, 1, 2, 3, 4, 5, 6, 7]

/-- Timers of LKS. The two times spent in CARRYING matter only while there is something for their end to change
(R29, R61). -/
def dueLink (s : State) : List Instr :=
  due s s.lks.greetingEnd .greetingTimeout
    ++ due s s.lks.trainingEnd .trainingTimeout
    ++ due s s.lks.lossEnd .lossTimer
    ++ due s (if s.lks.backoff = backoffMinS then none else s.carriedFor backoffResetMs) .backoffResetTime
    ++ due s s.lks.releasingEnd .releasingTimeout
    ++ due s s.lks.backoffEnd .backoffEnd
    ++ due s s.lks.powerDropEnd .powerDropGraceExpiry
    ++ due s s.lks.ringGuard .ringGuardClose
    ++ due s s.lks.retrainEnd .qualityGraceExpiry
    ++ due s s.lks.windowEnd .dropWindowExpiry
    ++ due s (if s.stormRecorded then s.carriedFor stormClearMs else none) .stormClearTime
    ++ due s s.lks.watchEnd .trialWatchEnd
    ++ allRungs.flatMap fun n : Fin 8 => due s (s.lks.barrier n) (.barrierExpiry n)

/-- Timers of a port, of its sequencer and of its wait for a burst. -/
def duePort (p : PortId) (s : State) : List Instr :=
  due s (s.port p).offHookDue (.offhookRecognised p)
    ++ due s (s.port p).hangUpDue (.hangUp p)
    ++ due s (s.port p).digitEnd (.pulseDigitEnd p)
    ++ due s (s.port p).receiverDue (.receiverOffHookTimeout p)
    ++ due s (s.port p).howlerDue (.howlerTimeout p)
    ++ due s (s.port p).retryEnd (.faultRetryTimeout p)
    ++ due s (s.port p).historyEnd (.portFaultHistoryExpiry p)
    ++ due s (s.seq p).segmentDue (.segmentEnd p)
    ++ due s (s.rsc.waitEnd p) (.burstWaitTimeout p)

/-- Timers of RSC, LTU and MCR. -/
def dueOthers (s : State) : List Instr :=
  due s s.rsc.chargeEnd .chargeDone
    ++ due s s.rsc.idleEnd .supplyIdleTimeout
    ++ due s s.rsc.retryEnd .supplyRetryTimeout
    ++ due s s.rsc.historyEnd .supplyFaultHistoryExpiry
    ++ due s (s.ltu.run.bind (·.settleEnd)) .settleEnd
    ++ due s s.mcr.ackEnd .maintenanceAckTimeout
    ++ due s s.mcr.attemptEnd .attemptWindowExpiry
    ++ due s s.mcr.lockoutEnd .lockoutEnd
    ++ due s (s.mcr.loopback.map (·.endAt)) .loopbackExpiry

/-- The timers of the part that have run out; the events that bring something from outside are not among them. -/
def dueEvents (s : State) : List Instr :=
  if s.alive then dueControl s ++ duePair s ++ dueLink s ++ duePort .one s ++ duePort .two s ++ dueOthers s else []

/-- A tick: a timer that has run out is taken next, any one of several; else 1 ms passes while there is power. -/
def tick (s : State) : State :=
  let xs := dueEvents s
  let c := s.choose xs.length
  match xs[c.1]? with
  | some e => { c.2 with pending := [e] }
  | none => if s.powered then { s with clock := s.clock + 1 } else s

end Sys2Proof.Machine
end

