-- ==== Sys2Proof/Safety.lean ====
section
/-! DEFINITION. What is always true of the part: the users of the pair exclude each other, every queue and record
keeps to its capacity, HPC1 follows the relay, fault records and test entries stay apart, LIFELINE stage keeps what it
demands. And the words the statements use: a command's effect, a part that takes requests, a request answered, a
request's tag and code, a good frame. -/

namespace Sys2Proof.Machine

open Sys2Proof

/-! ## Invariants -/

/-- TEST is not HELD beside a HELD LINK or a HELD LIFELINE (R1), LIFELINE is never WAITING (R1), and the test relay is
closed exactly while TEST is HELD (R7). -/
def Pac.exclusive (p : Pac) : Prop :=
  (p.test.state = .held → p.link.state ≠ .held ∧ p.lifeline.state ≠ .held)
    ∧ p.lifeline.state ≠ .waiting ∧ (p.testRelayClosed = true ↔ p.test.state = .held)

/-- Capacities of MPT's queues (R191, R193). -/
def Mpt.bounded (m : Mpt) : Prop := m.replies.length ≤ replyMax ∧ m.notices.length ≤ noticeMax

/-- Capacity of the fault log (R148). -/
def Flg.bounded (f : Flg) : Prop := f.log.length ≤ faultMax

/-- Capacities of the link's records: payload buffers (R34), interval history (R52), drop window (R58). -/
def Lks.bounded (k : Lks) : Prop :=
  (k.payload.up.length ≤ cellMax ∧ k.payload.down.length ≤ cellMax)
    ∧ k.history.length ≤ historyMax ∧ k.window.length ≤ 2

/-- Capacities of a port's voice queues (R120, R128). -/
def Voice.bounded (v : Voice) : Prop := v.queue.length ≤ playoutMax ∧ v.capture.length ≤ captureMax

/-- Capacities of a port's digit buffer (R75), fault history (R85) and voice queues. -/
def Port.bounded (q : Port) : Prop := q.digits.length ≤ digitMax ∧ q.history.length ≤ 2 ∧ q.voice.bounded

/-- Capacity of the test queue (R133). -/
def Ltu.bounded (l : Ltu) : Prop := l.queue.length ≤ testQueueMax

/-- Every queue and record keeps to its capacity; so do the histories of RSC (R114) and of MCR (R168). -/
def State.bounded (s : State) : Prop :=
  (s.mpt.bounded ∧ s.flg.bounded ∧ s.lks.bounded) ∧ (s.hpc1.bounded ∧ s.hpc2.bounded ∧ s.ltu.bounded)
    ∧ s.rsc.history.length ≤ 2 ∧ s.mcr.window.length ≤ 2

/-! ## Where the phone of port 1 is (R12, R18) -/

/-- Where the phone of port 1 is: on the port, between its two places, or on the pair with the copper side idle or
active. -/
inductive Place where
  | home
  | moving
  | copperIdle
  | copperActive
deriving DecidableEq, Repr

/-- The place a port's state speaks of (R67, R89). -/
def PortState.place : PortState → Place
  | .switching => .moving
  | .copperIdle => .copperIdle
  | .copperActive => .copperActive
  | _ => .home

/-- The place the lifeline relay and the copper side give the phone (R12, R18). -/
def Pac.place (p : Pac) : Place :=
  if p.relay.move.isSome then .moving
  else if p.relay.pos = .localPort then .home
  else if p.copperActive then .copperActive
  else .copperIdle

/-- The copper side is active only with the relay at rest in COPPER (R8, R9). -/
def Pac.copperAtRest (p : Pac) : Prop := p.copperActive = true → p.place = .copperActive

/-- HPC1 follows the relay and the copper side; HPC2 is always in a local state (R12, R18). -/
def State.followsRelay (s : State) : Prop :=
  s.hpc1.state.place = s.pac.place ∧ s.hpc2.state.place = .home ∧ s.pac.copperAtRest

/-! ## Records that are told apart -/

/-- Two fault records are not ACTIVE with the same code and source (R148, R149). -/
def FaultRecord.apart (a b : FaultRecord) : Prop :=
  a.clearedAt = none → b.clearedAt = none → a.code = b.code → a.source ≠ b.source

/-- No two ACTIVE fault records share both code and source (R148, R149). -/
def Flg.distinct (f : Flg) : Prop := f.log.Pairwise FaultRecord.apart

/-- Two test entries differ in kind or in origin (R133). -/
def TestEntry.apart (a b : TestEntry) : Prop := a.kind = b.kind → a.origin ≠ b.origin

/-- The test queue holds at most one entry per pair of kind and origin (R133). -/
def Ltu.single (l : Ltu) : Prop := l.queue.Pairwise TestEntry.apart

/-! ## LIFELINE stage (R43, R179) -/

/-- The link is OFF and no timer that could take it out of OFF runs (R22, R43). -/
def Lks.stopped (k : Lks) : Prop :=
  k.state = .off ∧ (k.greetingEnd = none ∧ k.trainingEnd = none ∧ k.lossEnd = none ∧ k.releasingEnd = none)
    ∧ k.backoffEnd = none ∧ k.retrainEnd = none ∧ k.powerDropEnd = none

/-- A link that is OFF runs no timer and has no claim on the pair (R3, R22); a deferred LOCAL request is present only with
the relay at rest in COPPER (R12, R15). -/
def State.atRest (s : State) : Prop :=
  (s.lks.state = .off → s.lks.stopped ∧ s.pac.link.state = .free)
    ∧ (s.pac.relay.deferred = true → s.pac.relay.move = none ∧ s.pac.relay.pos = .copper)

/-- The link's claim is FREE, and the relay rests in COPPER or moves there with no deferred LOCAL request (R15, R179). -/
def Pac.towardCopper (p : Pac) : Prop :=
  p.link.state = .free ∧ p.relay.deferred = false ∧ (p.relay.move = none → p.relay.pos = .copper)
    ∧ ∀ m, p.relay.move = some m → m.target = .copper

/-- LIFELINE stage, and what it demands: the link stays OFF, HPC2 DISABLED, the test queue empty, the relay in COPPER or on
its way there (R179). -/
def State.inLifeline (s : State) : Prop :=
  s.psv.stage = .lifeline ∧ s.lks.stopped ∧ s.pac.towardCopper ∧ s.hpc2.state = .disabled ∧ s.ltu.queue = []

/-! ## Words of the statements -/

/-- The command has this effect: its outcome is the next state `t`, once the transmitter has been served at its end
(R129, log 11). -/
def Does (c : Instr) (s t : State) : Prop := exec c s = .next (pump t)

/-- The part takes a request at once: it has power, is ACTIVE and not stopped, its settings are loaded, and no reply
waits (R183, R191, R206). -/
def State.ready (s : State) : Prop :=
  s.powered = true ∧ s.psv.mode = .active ∧ s.loading = false ∧ s.mpt.replies = []

/-- The state in which the rule of a good frame finds an ACTIVE part: the receiver hunts again, the host silence timer
is restarted, and a granted entry to QUIESCENT is abandoned (R183, R189, R195). -/
def State.heard (s : State) : State :=
  { s with
    mpt :=
      { s.mpt with rx := .hunt, rxLast := s.clock, silenceEnd := s.silenceLimit.map (fun ms => s.clock + ms) }
    psv := { s.psv with sleepGranted := false } }

/-- The good frame does this and then ends autonomous mode, if the part is in it (R197). -/
def Serves (c : Instr) (s t : State) : Prop := Does c s (endAutonomous t)

/-- The request is answered: `a` joins the reply queue under the request's tag and code, the rest of the part being
as in `t`. -/
def Answers (c : Instr) (tag code : Byte) (s : State) (a : Answer) (t : State) : Prop :=
  Serves c s (queueReply tag code a t)

end Sys2Proof.Machine

namespace Sys2Proof

/-- Tag and code of a request (R192, 11 section 11.7). -/
def Instr.asRequest : Instr → Option (Byte × Byte)
  | .heartbeat tag _ => some (tag, 0x01)
  | .getStatus tag _ => some (tag, 0x02)
  | .partReset tag _ => some (tag, 0x03)
  | .sleep tag _ => some (tag, 0x04)
  | .noticeMask tag _ => some (tag, 0x05)
  | .settingGet tag _ => some (tag, 0x10)
  | .settingPut tag _ => some (tag, 0x11)
  | .settingsSave tag _ => some (tag, 0x12)
  | .settingsLock tag _ => some (tag, 0x13)
  | .linkEnable tag _ => some (tag, 0x20)
  | .linkDisable tag _ => some (tag, 0x21)
  | .linkRetrain tag _ => some (tag, 0x22)
  | .linkRungSet tag _ => some (tag, 0x23)
  | .linkStatus tag _ => some (tag, 0x24)
  | .linkHistory tag _ => some (tag, 0x25)
  | .lifelineSelect tag _ => some (tag, 0x28)
  | .portEnable tag _ => some (tag, 0x30)
  | .portDisable tag _ => some (tag, 0x31)
  | .portRing tag _ => some (tag, 0x32)
  | .portConnect tag _ => some (tag, 0x33)
  | .portRelease tag _ => some (tag, 0x34)
  | .portTone tag _ => some (tag, 0x35)
  | .portDigitsRead tag _ => some (tag, 0x36)
  | .portStatus tag _ => some (tag, 0x37)
  | .seqPause tag _ => some (tag, 0x38)
  | .seqResume tag _ => some (tag, 0x39)
  | .seqStop tag _ => some (tag, 0x3A)
  | .ringSupplyReset tag _ => some (tag, 0x3C)
  | .testRequest tag _ => some (tag, 0x40)
  | .testCancel tag _ => some (tag, 0x41)
  | .testResult tag _ => some (tag, 0x42)
  | .faultRead tag _ => some (tag, 0x48)
  | .faultAck tag _ => some (tag, 0x49)
  | .faultPurge tag _ => some (tag, 0x4A)
  | .retainedRead tag _ => some (tag, 0x4B)
  | .retainedClear tag _ => some (tag, 0x4C)
  | .remoteStatus tag _ => some (tag, 0x50)
  | .remoteCountsClear tag _ => some (tag, 0x51)
  | .powerStatus tag _ => some (tag, 0x58)
  | .supplyWatchSet tag _ => some (tag, 0x59)
  | .unknownRequestCode tag body => some (tag, body.headD 0x00)
  | _ => none

/-- The requests that are answered while the settings load (R206). -/
def Instr.answeredLoading : Instr → Bool
  | .heartbeat .. => true
  | .getStatus .. => true
  | .unknownRequestCode .. => true
  | _ => false

/-- The commands that reach a part without power or stopped in DORMANT: the arrival and the loss of power, the end of
DORMANT, and the levels of the inputs (log 15, log 22). -/
def Instr.reachesDeadPart : Instr → Bool
  | .powerOn .. => true
  | .powerLoss => true
  | .dormantWake .. => true
  | .mainsInputChange _ => true
  | .enclosureInputChange _ => true
  | .loopCurrentChange _ _ => true
  | _ => false

/-- A good frame from the host: a request, or voice. -/
def Instr.isFrame (c : Instr) : Bool :=
  match c with
  | .voiceDown _ _ => true
  | _ => c.asRequest.isSome

end Sys2Proof
end

