-- ==== Sys2Proof/Certificates/Slice0/Obligations.lean ====
section
/-! DEFINITION. The statements for the provers, chapter by chapter. `Does`, `Serves` and `Answers` (Safety.lean) say that
a command answers a next state and which. -/

open Sys2Proof Sys2Proof.Machine

/-! ## The block as a whole -/

/-- A step takes the command at the front of the queue and runs it on the part with the queue's rest. -/
def Obligations.StepTakesFrontCommand : Prop :=
  ∀ (c : Instr) (rest : List Instr) (s : State),
    step { s with pending := c :: rest } = exec c { s with pending := rest }

/-- On an empty queue a step lets time go on (log 1): where timers have run out, the command of one of them is put
into the queue, a free value being drawn where there are several; else the clock moves on by 1 ms while the part has
power. -/
def Obligations.StepOnEmptyQueue : Prop :=
  ∀ s : State, s.pending = [] →
    (dueEvents s = [] → s.powered = true → step s = .next { s with clock := s.clock + 1 })
      ∧ (s.powered = false → step s = .next s)
      ∧ (∀ e, dueEvents s = [e] → step s = .next { s with pending := [e] })
      ∧ (2 ≤ (dueEvents s).length →
          ∃ e, e ∈ dueEvents s ∧ step s = .next { s with free := s.free + 1, pending := [e] })

/-- No command stops the part, and none touches the commands that wait. -/
def Obligations.EveryCommandAnswersNextAndLeavesQueue : Prop :=
  (∀ (c : Instr) (s : State), ∃ t, exec c s = .next t)
    ∧ (∀ (c : Instr) (s t : State), exec c s = .next t → t.pending = s.pending)

/-- Every step keeps the users of the pair apart (TEST is never HELD beside a HELD LINK or a HELD LIFELINE, LIFELINE
is never WAITING, the test relay is closed exactly while TEST is HELD) and the queues and records that State.bounded
names to their capacities: replies, notices, fault log, payload buffers, interval history, drop window, digit buffers,
voice queues, test queue, the fault histories of ports and ring supply, MCR's attempts. RSC's burst and wait lists are
not among them. With these, every step keeps HPC1's state in line with the relay and the copper side (a local state in
LOCAL, SWITCHING while the relay moves, COPPER_IDLE or COPPER_ACTIVE in COPPER) and HPC2 in a local state, no two
ACTIVE fault records of one code and source, and at most one test entry per kind and origin. And every step keeps a
link that is OFF without a timer and without a claim, and a deferred LOCAL request only with the relay at rest in
COPPER. -/
def Obligations.StepKeepsPairAndCapacities : Prop :=
  (∀ s t : State, s.pac.exclusive → s.bounded → step s = .next t → t.pac.exclusive ∧ t.bounded)
    ∧ (∀ s t : State,
         s.pac.exclusive → s.bounded → s.flg.distinct → s.ltu.single → s.followsRelay →
         step s = .next t → t.flg.distinct ∧ t.ltu.single ∧ t.followsRelay)
    ∧ ((∀ s t : State, s.atRest → step s = .next t → t.atRest)
         ∧ ∀ (c : Instr) (s t : State), s.atRest → exec c s = .next t → t.atRest)

/-- The part right after reset has the users of the pair apart, the queues and records of State.bounded (RSC's burst
and wait lists are not among them) within their capacities, HPC1 in line with the relay, no two like fault records or
test entries, and an OFF link without timers and claim. -/
def Obligations.ResetHasPairAndCapacities : Prop :=
  (State.reset.pac.exclusive ∧ State.reset.bounded)
    ∧ State.reset.flg.distinct ∧ State.reset.ltu.single ∧ State.reset.followsRelay ∧ State.reset.atRest

/-- What the spec gives every block at a power-on start: MPT, PAC, LKS, the ports with their sequencers, RSC, LTU,
FLG, MCR, PSV and SST's loading; what the inputs read and that the part is new, so that the check of the retention
domain fails, are the model's choice (log 6). -/
def Obligations.ResetState : Prop :=
  let s := State.reset
  (s.clock = 0 ∧ s.pac.link.state = .free ∧ s.pac.lifeline.state = .free ∧ s.pac.test.state = .free
      ∧ s.pac.testRelayClosed = false ∧ s.pac.hazardEnd = none ∧ s.pac.hazardHigh = false ∧ s.pac.copperActive = false
      ∧ s.pac.relay = { pos := .copper, move := none, reason := .start, deferred := false })
    ∧ (s.lks.state = .off ∧ s.lks.backoff = 15 ∧ s.lks.attempts = 0 ∧ s.lks.failures = 0 ∧ s.lks.history = []
      ∧ s.lks.window = [] ∧ s.lks.trial = none ∧ s.lks.stepClock = 0 ∧ s.lks.payload = Payload.start)
    ∧ (s.hpc1.state = .copperIdle ∧ s.hpc2.state = .disabled ∧ s.hpc2.cause = some .unconfigured
      ∧ s.hpc1.digits = [] ∧ s.hpc2.digits = [] ∧ s.seq1.run = none ∧ s.seq2.run = none)
    ∧ (s.rsc.state = .off ∧ s.rsc.bursts = [] ∧ s.rsc.waits = [] ∧ s.ltu.queue = [] ∧ s.ltu.nextJob = 1)
    ∧ (s.flg.log = [retentionRecord .both] ∧ s.flg.next = 1 ∧ s.flg.dropped = 0 ∧ s.flg.evicted = 0
      ∧ s.flg.retention.record = none ∧ s.flg.retention.startCount = 1 ∧ s.flg.lost = some .both)
    ∧ (s.mcr.flight = none ∧ s.mcr.total = 0 ∧ s.mcr.lockoutEnd = none ∧ s.mcr.loopback = none)
    ∧ (s.mpt.replies = [] ∧ s.mpt.notices = [] ∧ s.mpt.lost = 0 ∧ s.mpt.silenceEnd = none ∧ s.mpt.autonomous = false)
    ∧ (s.psv.mode = .active ∧ s.psv.cause = .start ∧ s.psv.matching = true ∧ s.loading = true)

/-! ## The control link (11) -/

/-- A request that finds one reply waiting is answered BUSY, one that finds two is discarded and counted; while the
settings load, one taken from an empty queue is answered RETRY, but for HEARTBEAT, GET_STATUS and an unknown code.
None of them is carried out. That one reply waiting brings BUSY is R191's table, which its example goes against (log
44). -/
def Obligations.RequestBehindRepliesOrLoading : Prop :=
  ∀ (c : Instr) (tag code : Byte) (s : State),
    c.asRequest = some (tag, code) → s.powered = true → s.psv.mode = .active →
      (∀ r, s.mpt.replies = [r] → Answers c tag code s (Answer.refuse .busy) s.heard)
        ∧ (2 ≤ s.mpt.replies.length →
            Serves c s { s.heard with mpt := { s.heard.mpt with discards := min (s.mpt.discards + 1) 65535 } })
        ∧ (s.mpt.replies = [] → s.loading = true → c.answeredLoading = false →
            Answers c tag code s (Answer.refuse .retry) s.heard)

/-- A good frame in QUIESCENT is kept for the end of the wake delay, which it starts unless one runs. A part without
power, or stopped in DORMANT, takes no command but the arrival and loss of power, the end of DORMANT and the levels of
its inputs. -/
def Obligations.FramesKeptInQuiescentAndLostWhenDead : Prop :=
  (∀ (c : Instr) (s : State), c.isFrame = true → s.powered = true → s.psv.mode = .quiescent →
     Does c s
       { s with
         mpt := { s.mpt with rx := .hunt, rxLast := s.clock, held := s.mpt.held ++ [c] }
         psv :=
           { s.psv with
             sleepGranted := false
             wake :=
               if s.psv.wake = none then
                 some
                   { cause := .hostFrame, port := none,
                     endAt := s.clock + (if s.sst.contents.power.fastWake then 2 else 40) }
               else s.psv.wake } })
    ∧ (∀ (c : Instr) (s : State), s.powered = false ∨ s.psv.mode = .dormant → c.reachesDeadPart = false →
         exec c s = .next s)

/-- A request whose body is too short to hold its arguments, or that names a port by a number other than 1 and 2, is
answered BAD_ARGUMENT and does nothing else. -/
def Obligations.MalformedRequestsAreBad : Prop :=
  (∀ (tag b b2 b3 : Byte) (s : State), s.ready →
     (∀ c ∈ ([.partReset tag [], .linkRungSet tag [], .lifelineSelect tag [], .portEnable tag [], .portDisable tag [],
           .portRing tag [], .portRing tag [b], .portConnect tag [], .portRelease tag [], .portTone tag [],
           .portTone tag [b], .portTone tag [b, b2], .portDigitsRead tag [], .portDigitsRead tag [b], .portStatus tag [],
           .seqPause tag [], .seqResume tag [], .seqStop tag [], .testCancel tag [], .testResult tag []] : List Instr),
       ∃ code, c.asRequest = some (tag, code) ∧ Answers c tag code s (Answer.refuse .badArgument) s.heard)
       ∧ (∀ c ∈ ([.noticeMask tag [], .noticeMask tag [b], .noticeMask tag [b, b2], .noticeMask tag [b, b2, b3],
             .settingGet tag [], .settingGet tag [0x04], .settingPut tag [], .settingPut tag [b],
             .settingPut tag [b, b2], .settingPut tag [0x04, b, b2], .settingsLock tag [], .settingsLock tag [b],
             .linkHistory tag [], .linkHistory tag [0x00], .linkHistory tag [0x00, b], .testRequest tag [],
             .testRequest tag [b], .testRequest tag [b, b2], .faultRead tag [], .faultRead tag [b], .faultAck tag [],
             .faultAck tag [0x00], .faultAck tag [0x00, b], .supplyWatchSet tag [], .supplyWatchSet tag [b]] :
             List Instr),
         ∃ code, c.asRequest = some (tag, code) ∧ Answers c tag code s (Answer.refuse .badArgument) s.heard))
    ∧ (∀ (tag n : Byte) (rest : List Byte) (s : State), s.ready → n ≠ 1 → n ≠ 2 →
         (∀ c ∈ ([.portEnable tag (n :: rest), .portDisable tag (n :: rest), .portRing tag (n :: rest),
               .portConnect tag (n :: rest), .portRelease tag (n :: rest), .portTone tag (n :: rest),
               .portDigitsRead tag (n :: rest), .portStatus tag (n :: rest), .seqPause tag (n :: rest),
               .seqResume tag (n :: rest), .seqStop tag (n :: rest)] : List Instr),
           ∃ code, c.asRequest = some (tag, code) ∧ Answers c tag code s (Answer.refuse .badArgument) s.heard))

/-- A busy transmitter takes nothing more; a free one takes the oldest reply, else the oldest capture frame, port 1's
where both were produced at one moment, else the oldest notice, unless the part is autonomous. NOTICE_OVERRUN joins
the notices when one leaves after a loss. In QUIESCENT and without power nothing is sent. The end of a transmission
frees the transmitter; behind the reply to a granted SLEEP the part enters QUIESCENT, unless the entry was abandoned,
and behind the reply to PART_RESET FULL the reset takes effect. That a port which has left IDLE since the grant by a
line fault or by auto-lifeline does not hinder the entry is the model's choice (log 42). -/
def Obligations.TransmitterServesAndEnds : Prop :=
  (∀ s : State,
     (s.mpt.sending.isSome = true ∨ s.psv.mode ≠ .active ∨ s.powered = false → pump s = s)
       ∧ (s.mpt.sending = none → s.psv.mode = .active → s.powered = true →
           (∀ r rs, s.mpt.replies = r :: rs →
               pump s = { s with mpt := { s.mpt with sending := some (.reply r), replies := rs } })
             ∧ (s.mpt.replies = [] →
                 (∀ f fs, s.hpc1.voice.capture = f :: fs →
                     (∀ g, s.hpc2.voice.capture.head? = some g → f.producedAt ≤ g.producedAt) →
                     pump s =
                       { s with
                         mpt := { s.mpt with sending := some (.voiceUp .one f) }
                         hpc1 := { s.hpc1 with voice := { s.hpc1.voice with capture := fs } } })
                   ∧ (∀ g gs, s.hpc2.voice.capture = g :: gs →
                       (∀ f, s.hpc1.voice.capture.head? = some f → g.producedAt < f.producedAt) →
                       pump s =
                         { s with
                           mpt := { s.mpt with sending := some (.voiceUp .two g) }
                           hpc2 := { s.hpc2 with voice := { s.hpc2.voice with capture := gs } } })
                   ∧ (s.hpc1.voice.capture = [] → s.hpc2.voice.capture = [] →
                       (s.mpt.autonomous = true ∨ s.mpt.notices = [] → pump s = s)
                         ∧ (∀ n ns, s.mpt.autonomous = false → s.mpt.notices = n :: ns →
                             (s.mpt.lost = 0 →
                                 pump s = { s with mpt := { s.mpt with sending := some (.notice n), notices := ns } })
                               ∧ (s.mpt.lost ≠ 0 →
                                   pump s =
                                     { s with
                                       mpt :=
                                         { s.mpt with
                                           sending := some (.notice n), notices := ns ++ [.noticeOverrun s.mpt.lost],
                                           lost := 0 } }))))))
    ∧ (∀ s : State, s.alive = true →
         (s.mpt.sending = none → Does .transmitterFree s s)
           ∧ (∀ f, s.mpt.sending = some f →
               let u := { s with mpt := { s.mpt with sending := none } }
               (∀ r, f = .reply r → r.after = .fullReset → Does .transmitterFree s (fullReset .resetRequest u))
                 ∧ (∀ r, f = .reply r → r.after = .enterQuiescent → s.psv.sleepGranted = true →
                     Does .transmitterFree s
                       { s with
                         mpt := { s.mpt with sending := none, silenceEnd := none }
                         psv := { s.psv with mode := .quiescent, quiescentSince := s.clock, sleepGranted := false, wake := none }
                         hpc1 := { s.hpc1 with tone := none }
                         hpc2 := { s.hpc2 with tone := none } })
                 ∧ (∀ r, f = .reply r → r.after = .enterQuiescent → s.psv.sleepGranted = false → Does .transmitterFree s u)
                 ∧ (∀ r, f = .reply r → r.after = .nothing → Does .transmitterFree s u)
                 ∧ ((∀ r, f ≠ .reply r) → Does .transmitterFree s u)))

/-- The receiver: C5h leads from HUNT to SYNC, 3Ah from SYNC to FRAME; a gap of more than 5 ms and a line error
abandon a frame and are counted; so does a frame that fails its checks, by the first check it fails. A line error is
counted in HUNT too, which is the model's reading of the table (log 24). -/
def Obligations.ReceiverPhasesAndCounts : Prop :=
  ∀ s : State, s.alive = true →
    (∀ b : Byte,
        Does (.syncByte b) s
          { s with
            mpt :=
              { s.mpt with
                rxLast := s.clock
                rx :=
                  match s.mpt.rx with
                  | .hunt => if b = 0xC5 then .sync else .hunt
                  | .sync => if b = 0x3A then .frame else if b = 0xC5 then .sync else .hunt
                  | .frame => .frame } })
      ∧ (s.mpt.rx = .hunt → Does .receiverGap s s)
      ∧ (s.mpt.rx ≠ .hunt →
          Does .receiverGap s
            { s with
              clock := max s.clock (s.mpt.rxLast + 6)
              mpt := { s.mpt with rx := .hunt, gapAbandons := min (s.mpt.gapAbandons + 1) 65535 } })
      ∧ Does .lineError s
          { s with mpt := { s.mpt with rx := .hunt, rxLast := s.clock, lineErrors := min (s.mpt.lineErrors + 1) 65535 } }
      ∧ (∀ bytes : List Byte,
          let m := { s.mpt with rx := .hunt, rxLast := s.clock }
          let length := (bytes.getD 0 0).toNat + 256 * (bytes.getD 1 0).toNat
          (2 ≤ bytes.length → 240 < length →
              Does (.frameDiscard bytes) s { s with mpt := { m with lengthErrors := min (m.lengthErrors + 1) 65535 } })
            ∧ (bytes.length = length + 6 → length ≤ 240 →
                let crcGood := u16 (crc (bytes.take (length + 4))).toNat = bytes.drop (length + 4)
                (¬crcGood →
                    Does (.frameDiscard bytes) s { s with mpt := { m with crcErrors := min (m.crcErrors + 1) 65535 } })
                  ∧ (crcGood → bytes[2]? ≠ some 0x01 → bytes[2]? ≠ some 0x02 →
                      Does (.frameDiscard bytes) s
                        { s with mpt := { m with unknownTypes := min (m.unknownTypes + 1) 65535 } })))

/-- Autonomous mode begins when the host silence timer runs out, here with no phone off-hook at a port and the
lifeline relay resting in COPPER: notice AUTONOMOUS, reason AUTONOMOUS, fault HOST_SILENT. It ends with a good frame:
notice AUTONOMOUS_END, the fault CLEARED, here with no program of R92 running. Entry to autonomous mode in order,
whatever the ports do and wherever the relay is: the notice, HPC1, HPC2, the COPPER cause AUTONOMOUS, the fault. A
CONNECTED port goes to OFFHOOK and an OFFHOOK port stays there, both with the autonomous tone program, which is not
started where it holds a RING_ON segment; a port in another state is as it was. A COPPER cause with the relay resting
in LOCAL starts a move of 30 ms, which ends HPC1's local activity: SEQ1 stopped, a call cut, a line fault CLEARED,
SWITCHING; on the way to LOCAL it turns the move back, on the way to COPPER it replaces the reason, and at rest in
COPPER it writes the reason and discards a deferred request. At the end of autonomous mode the program is stopped
where it runs. -/
def Obligations.AutonomousModeBeginsAndEnds : Prop :=
  (∀ s : State,
     (s.alive = true → s.mpt.silenceEnd = none → Does .hostSilenceTimeout s s)
       ∧ (∀ e, s.alive = true → s.mpt.silenceEnd = some e →
           (s.hpc1.state ≠ .offhook ∧ s.hpc1.state ≠ .connected) → (s.hpc2.state ≠ .offhook ∧ s.hpc2.state ≠ .connected) →
           s.pac.relay.pos = .copper → s.pac.relay.move = none → s.pac.relay.deferred = false →
           let now := max s.clock e
           let limit := s.sst.contents.control.silenceS
           let u : State :=
             { s with
               clock := now
               mpt := { s.mpt with autonomous := true, autonomousSince := now, silenceEnd := none }
               pac := { s.pac with relay := { s.pac.relay with reason := .autonomous } } }
           Does .hostSilenceTimeout s
             (report .hostSilent .mpt .major [d32 limit] (notice (.autonomous limit u.uptime) u)))
       ∧ (s.mpt.autonomous = false → endAutonomous s = s)
       ∧ (s.mpt.autonomous = true → s.hpc1.autoMarker = false → s.hpc2.autoMarker = false →
           let u : State := { s with mpt := { s.mpt with autonomous := false } }
           endAutonomous s =
             clearFault .hostSilent .mpt
               (notice (.autonomousEnd s.uptime ((s.clock - s.mpt.autonomousSince) / 1000)) u))
       ∧ (s.mpt.autonomous = true →
           endAutonomous s =
             clearFault .hostSilent .mpt
               (portResumes .two
                 (portResumes .one
                   (notice (.autonomousEnd s.uptime ((s.clock - s.mpt.autonomousSince) / 1000))
                     { s with mpt := { s.mpt with autonomous := false } })))))
    ∧ ((∀ (e : Nat) (s : State), s.alive = true → s.mpt.silenceEnd = some e →
           let now := max s.clock e
           let limit := s.sst.contents.control.silenceS
           let u : State :=
             { s with
               clock := now
               mpt := { s.mpt with autonomous := true, autonomousSince := now, silenceEnd := none } }
           Does .hostSilenceTimeout s
             (report .hostSilent .mpt .major [d32 limit]
               (copperCause .autonomous
                 (portAutonomous .two (portAutonomous .one (notice (.autonomous limit u.uptime) u))))))
         ∧ (∀ (p : PortId) (s : State),
             ((s.port p).state = .connected →
                 portAutonomous p s
                   = portChanged p .connected
                       (startAutoTone p
                         (s.onPort p fun q =>
                           { q with
                             state := .offhook, pulse := none, receiverEnd := some (s.clock + 20000), howlerEnd := none
                             voice := q.voice.close })))
               ∧ ((s.port p).state = .offhook → portAutonomous p s = startAutoTone p s)
               ∧ ((s.port p).state ≠ .connected → (s.port p).state ≠ .offhook → portAutonomous p s = s)
               ∧ (let n := s.sst.contents.control.autoTone
                   let stopped := stopSeq (some .port) p s
                   let started := startProgram p n stopped
                   ((s.program n).rings = true →
                       startAutoTone p s = stopped.onPort p fun q =>
                         { q with dialMarker := false, autoMarker := (stopped.seq p).run.isSome })
                     ∧ ((s.program n).rings = false →
                         startAutoTone p s = started.onPort p fun q =>
                           { q with dialMarker := false, autoMarker := (started.seq p).run.isSome }))
               ∧ portResumes p s = if (s.port p).autoMarker = true then stopSeq (some .port) p s else s)
         ∧ (∀ (reason : CopperReason) (s : State),
             let r := s.pac.relay
             let moving : State :=
               { s with
                 pac :=
                   { s.pac with
                     relay :=
                       { r with
                         move := some
                           { target := .copper, doneAt := s.clock + 30, reason := reason, carriesOut := false } } } }
             (r.move = none → r.pos = .localPort →
                 let stopped := stopSeq (some .port) .one moving
                 let away : State :=
                   { stopped with
                     hpc1 :=
                       { stopped.hpc1 with
                         state := .switching, cause := none, fault := none, latched := false, offHook := false
                         pulse := none, dialMarker := false, autoMarker := false, receiverEnd := none, howlerEnd := none
                         retryEnd := none, retryOut := false, wiringBad := false, heldOffHook := false
                         voice := stopped.hpc1.voice.close } }
                 (s.hpc1.state = .connected → copperCause reason s = autoLifeline (askRelease (callsEnded away)))
                   ∧ (s.hpc1.state = .fault →
                       copperCause reason s
                         = clearFault .portWiringLatched .hpc1 (clearFault .portWiringFault .hpc1 away))
                   ∧ (s.hpc1.state ≠ .connected → s.hpc1.state ≠ .fault → copperCause reason s = away))
               ∧ (∀ m, r.move = some m →
                   (m.target = .localPort → copperCause reason s = moving)
                     ∧ (m.target = .copper →
                         copperCause reason s
                           = { s with pac := { s.pac with relay := { r with move := some { m with reason := reason } } } }))
               ∧ (r.move = none → r.pos = .copper →
                   let written : State :=
                     { s with pac := { s.pac with relay := { r with reason := reason, deferred := false } } }
                   (r.deferred = false → copperCause reason s = written)
                     ∧ (r.deferred = true →
                         copperCause reason s = notice (.lifelinePosition .copper reason (some .superseded)) written))))

/-- HEARTBEAT, GET_STATUS and the reply UNKNOWN to a code the catalogue does not hold change nothing; they are
answered while the settings load too. That GET_STATUS codes the lock record being written as 9 is the model's choice
(log 44). -/
def Obligations.HeartbeatStatusUnknownAnswered : Prop :=
  ∀ (tag : Byte) (args : List Byte) (s : State),
    s.powered = true → s.psv.mode = .active → s.mpt.replies = [] →
      Answers (.heartbeat tag args) tag 0x01 s
          (Answer.with .ok
            (u32 s.uptime ++ flag s.mpt.autonomous ++ u8 s.sst.contents.control.silenceS ++ u8 s.mpt.notices.length
              ++ u16 s.mpt.lost))
          s.heard
        ∧ Answers (.getStatus tag args) tag 0x02 s
            (Answer.with .ok (mptStatus s.heard ++ pacStatus s ++ rscStatus s ++ otherStatus s)) s.heard
        ∧ Answers (.unknownRequestCode tag args) tag (args.headD 0x00) s (Answer.refuse .unknown) s.heard

/-- The requests that only read (LINK_STATUS and POWER_STATUS have a statement of their own) are answered OK with
their data, or BAD_ARGUMENT, and change nothing. Which records two of the read requests carry. FAULT_READ from n: none
where the log is empty or n is newer than the newest by 1 to 32767; those from n on where n is not before the oldest;
else all, with the missed flag; of these the first, at most 8, as many as fit whole into the 225 bytes left of a body.
LINK_HISTORY with RECORDS: those equal to n or newer, and all with the flag set where n is older than the oldest, of
these the first 6. -/
def Obligations.ReadRequestsChangeNothing : Prop :=
  (∀ (tag : Byte) (rest : List Byte) (s : State), s.ready →
     (∀ lo hi : Byte,
           Answers (.linkHistory tag (0x00 :: lo :: hi :: rest)) tag 0x25 s
             (Answer.with .ok (recordsData (BitVec.ofNat 16 (lo.toNat + 256 * hi.toNat)) s.lks.history)) s.heard)
       ∧ Answers (.linkHistory tag (0x01 :: rest)) tag 0x25 s (Answer.with .ok (qualityData s)) s.heard
       ∧ (∀ n : Byte, 2 ≤ n.toNat →
           Answers (.linkHistory tag (n :: rest)) tag 0x25 s (Answer.refuse .badArgument) s.heard)
       ∧ (∀ p : PortId,
           Answers (.portStatus tag (BitVec.ofNat 8 (portNumber p) :: rest)) tag 0x37 s
             (Answer.with .ok (portData p s)) s.heard)
       ∧ (∀ (n : Byte) (k : TestKind), n.toNat = k.ctorIdx →
           let r := s.ltu.resultOf k
           Answers (.testResult tag (n :: rest)) tag 0x42 s
             (Answer.with .ok
               (flag r.isNone ++ (r.map TestResult.encode).getD [] ++ listOf TestEntry.encode s.ltu.queue))
             s.heard)
       ∧ (∀ n : Byte, 4 ≤ n.toNat →
           Answers (.testResult tag (n :: rest)) tag 0x42 s (Answer.refuse .badArgument) s.heard)
       ∧ (∀ lo hi : Byte,
           Answers (.faultRead tag (lo :: hi :: rest)) tag 0x48 s
             (Answer.with .ok (faultData (BitVec.ofNat 16 (lo.toNat + 256 * hi.toNat)) s.flg)) s.heard)
       ∧ Answers (.retainedRead tag rest) tag 0x4B s (Answer.with .ok (retainedData s.flg)) s.heard
       ∧ Answers (.remoteStatus tag rest) tag 0x50 s (Answer.with .ok (remoteData s)) s.heard
       ∧ (∀ (n : Byte) (b : BlockId), n.toNat = b.ctorIdx → b ≠ .programs →
           Answers (.settingGet tag (n :: rest)) tag 0x10 s (Answer.with .ok (settingData b 0 s)) s.heard)
       ∧ (∀ n : Byte,
           Answers (.settingGet tag (0x04 :: n :: rest)) tag 0x10 s
             (if n.toNat ≤ 15 then Answer.with .ok (settingData .programs n.toNat s) else Answer.refuse .badArgument)
             s.heard)
       ∧ (∀ n : Byte, 9 ≤ n.toNat →
           Answers (.settingGet tag (n :: rest)) tag 0x10 s (Answer.refuse .badArgument) s.heard))
    ∧ ((∀ (n : Seq16) (f : Flg),
           (f.log = [] → recordsRead n f.log = (false, []))
             ∧ (∀ oldest newest, f.log.head? = some oldest → f.log.getLast? = some newest →
                 let ahead := 1 ≤ (n - newest.seq).toNat ∧ (n - newest.seq).toNat ≤ 32767
                 let back := fun m : Seq16 => (newest.seq - m).toNat
                 (ahead → recordsRead n f.log = (false, []))
                   ∧ (¬ahead → back n ≤ back oldest.seq →
                       recordsRead n f.log = (false, f.log.filter fun r => back r.seq ≤ back n))
                   ∧ (¬ahead → back oldest.seq < back n → recordsRead n f.log = (true, f.log)))
             ∧ (let found := (recordsRead n f.log).2
                 let number := fun r : Option FaultRecord => opt 2 (fun r => u16 r.seq.toNat) r
                 ∃ k, k ≤ 8
                   ∧ ((found.take k).flatMap FaultRecord.encode).length ≤ 225
                   ∧ (∀ next, found[k]? = some next → k < 8 →
                       225 < ((found.take k).flatMap FaultRecord.encode).length + next.encode.length)
                   ∧ faultData n f
                       = u8 f.log.length ++ number f.log.head? ++ number f.log.getLast? ++ u16 f.next.toNat ++ u16 f.dropped
                           ++ u16 f.evicted ++ flag (recordsRead n f.log).1 ++ u8 (found.take k).length
                           ++ (found.take k).flatMap FaultRecord.encode))
         ∧ (∀ (n : Seq16) (h : List Interval),
             let after := fun a b : Seq16 => 1 ≤ (a - b).toNat ∧ (a - b).toNat ≤ 32767
             let number := fun r : Option Interval => opt 2 (fun r => u16 r.number.toNat) r
             let data := fun (records : List Interval) (older : Bool) =>
               listOf Interval.encode records ++ u8 h.length ++ number h.head? ++ number h.getLast? ++ flag older
             (h = [] → recordsData n h = data [] false)
               ∧ (∀ oldest, h.head? = some oldest →
                   (after oldest.number n → recordsData n h = data (h.take 6) true)
                     ∧ (¬after oldest.number n →
                         recordsData n h = data ((h.filter fun r => r.number = n ∨ after r.number n).take 6) false))))

/-- PART_RESET: scope FULL waits for its reply to be sent, scope LINES acts at once, any other is BAD_ARGUMENT. The
reset pin gives a FULL reset at once. A FULL reset starts every block afresh; the retention domain, the image, the
inputs, the phones and the queue of commands stand, but for the entry that a save under way is writing, which is left
bad. It does not turn back a part that goes on to its stop in DORMANT (log 38). -/
def Obligations.PartResetAndResetPin : Prop :=
  (∀ (tag n : Byte) (rest : List Byte) (s : State), s.ready →
      Answers (.partReset tag (0x00 :: rest)) tag 0x03 s ⟨.ok, [], .fullReset⟩ s.heard
        ∧ Answers (.partReset tag (0x01 :: rest)) tag 0x03 s Answer.ok (linesReset s.heard)
        ∧ (2 ≤ n.toNat → Answers (.partReset tag (n :: rest)) tag 0x03 s (Answer.refuse .badArgument) s.heard))
    ∧ (∀ s : State, s.alive = true → Does .resetPin s (fullReset .resetPin s))
    ∧ (∀ (reason : StartReason) (s : State), s.psv.stopping = true → fullReset reason s = s)
    ∧ (∀ (reason : StartReason) (s : State), s.psv.stopping = false →
        let t := fullReset reason s
        (t.clock = 0 ∧ t.powered = true ∧ t.pending = s.pending ∧ t.mpt = Mpt.start ∧ t.pac = Pac.start ∧ t.lks = Lks.start
            ∧ t.hpc1 = Port.startOne s.hpc1.loopClosed ∧ t.hpc2 = Port.startTwo s.hpc2.loopClosed
            ∧ t.seq1 = Sequencer.start ∧ t.seq2 = Sequencer.start ∧ t.ltu = Ltu.start ∧ t.mcr = Mcr.start)
          ∧ t.psv = Psv.start s.psv.mainsInput s.psv.batteryInput s.psv.enclosureInputOpen
          ∧ t.rsc = Rsc.start t.psv.stage
          ∧ (t.flg.log = [] ∧ t.flg.next = 0 ∧ t.flg.dropped = 0 ∧ t.flg.evicted = 0
            ∧ t.flg.retention = s.flg.retention ∧ t.flg.lost = s.flg.lost)
          ∧ (t.sst.store = .loading ∧ t.sst.reason = reason
            ∧ (s.sst.store.isSaving = false → t.sst.image = s.sst.image)
            ∧ (∀ run, s.sst.store = .saving run → t.sst.image = s.sst.image.spoil run.item)))

/-- NOTICE_MASK replaces the mask, the kinds START_REPORT and NOTICE_OVERRUN taken as set and unknown bits as clear,
and answers with the old mask and the new one. SLEEP is granted when no blocker stands in its way: the reply brings
QUIESCENT once it is sent, and an earlier grant's reply still in transmission no longer does. Else it is refused with
the blockers' codes. Both are counted. That an earlier grant gives way is the model's choice (log 32), and so is the
coding of the blocker list (log 12). -/
def Obligations.NoticeMaskAndSleep : Prop :=
  (∀ (tag a b c d : Byte) (rest : List Byte) (s : State), s.ready →
     let kinds := BitVec.ofNat 32 (a.toNat + 256 * b.toNat + 65536 * c.toNat + 16777216 * d.toNat)
     let new := (kinds &&& 0x000FFFFE#32) ||| 0x00080002#32
     Answers (.noticeMask tag (a :: b :: c :: d :: rest)) tag 0x05 s
       (Answer.with .ok (u32 s.mpt.mask.toNat ++ u32 new.toNat))
       { s.heard with mpt := { s.heard.mpt with mask := new } })
    ∧ (∀ (tag : Byte) (rest : List Byte) (s : State), s.ready →
         let free := s.lks.state = .off ∧ s.hpc1.state.quiet = true ∧ s.hpc2.state.quiet = true ∧ s.ltu.queue = []
           ∧ s.seq1.run = none ∧ s.seq2.run = none ∧ s.rsc.state = .off ∧ s.mcr.flight = none ∧ s.sst.store = .idle
           ∧ s.mpt.notices = [] ∧ s.hpc1.voice.capture = [] ∧ s.hpc2.voice.capture = []
         (free →
             Answers (.sleep tag rest) tag 0x04 s ⟨.ok, [], .enterQuiescent⟩
               { s.heard with
                 mpt := { s.heard.mpt with sending := s.mpt.sending.map TxFrame.withoutSleep }
                 psv := { s.heard.psv with sleepGranted := true, sleepsGranted := min (s.psv.sleepsGranted + 1) 65535 } })
           ∧ (¬free →
               Answers (.sleep tag rest) tag 0x04 s (Answer.with .wrongState (listOf u8 (blockerCodes s)))
                 { s.heard with psv := { s.heard.psv with sleepsRefused := min (s.psv.sleepsRefused + 1) 65535 } }))

/-- The wake delay ends: the part is ACTIVE, the wakes counter rises, the WAKE notice is queued and the host silence
timer restarted; then the kept frames are taken in order and the held off-hooks of the ports, port 1's first, which is
the model's choice (log 42). With nothing kept, that is all. -/
def Obligations.WakeDelayEnds : Prop :=
  ∀ s : State, s.alive = true →
    (s.psv.wake = none → Does .wakeDelayEnd s s)
      ∧ (∀ w, s.psv.wake = some w →
          let now := max s.clock w.endAt
          let u : State :=
            { s with
              clock := now
              psv := { s.psv with mode := .active, wake := none, wakes := min (s.psv.wakes + 1) 65535 } }
          let t := restartSilence (notice (.wake w.cause w.port u.uptime ((now - s.psv.quiescentSince) / 1000)) u)
          (s.mpt.held = [] → s.hpc1.heldOffHook = false → s.hpc2.heldOffHook = false → Does .wakeDelayEnd s t)
            ∧ Does .wakeDelayEnd s
                (takeHeldOffHook .two
                  (takeHeldOffHook .one
                    (takeHeld s.mpt.held { pump t with mpt := { (pump t).mpt with held := [] } }))))

/-! ## The settings (12) -/

/-- SETTING_PUT, by its checks in their order: the block's number, a save under way, the lock, the generation, the
sequencers, the contents. A put that passes replaces the contents, advances the generation and sets the dirty flag;
its effect in the block it concerns follows (R209), which is none for PORTS, TONES, PROGRAMS and TESTS. What a put
that has passed does at once in LINK, POWER, REMOTE and CONTROL. LINK: a wait with NO_PERMITTED_RUNG runs its attempt
again. POWER: a running stage-1 timer is set to the new time counted from the entry to BATTERY, and where that has
passed it runs out at once, as STAGE1_TIMEOUT has it. REMOTE: turning remote access off ends a running loopback.
CONTROL: the host silence timer restarts where the limit changed, and auto-lifeline turned on is evaluated. -/
def Obligations.SettingPutChecksAndEffect : Prop :=
  (∀ (tag n lo hi : Byte) (rest : List Byte) (s : State), s.ready →
     let put := Instr.settingPut tag (n :: lo :: hi :: rest)
     let answers := Answers put tag 0x11 s
     (9 ≤ n.toNat → answers (Answer.refuse .badArgument) s.heard)
       ∧ (n.toNat = 4 → rest = [] → answers (Answer.refuse .badArgument) s.heard)
       ∧ (∀ p r, n.toNat = 4 → rest = p :: r → 16 ≤ p.toNat → answers (Answer.refuse .badArgument) s.heard)
       ∧ (∀ (b : BlockId) (program : Nat) (contents : List Byte),
           n.toNat = b.ctorIdx →
           (b ≠ .programs ∧ program = 0 ∧ contents = rest
             ∨ b = .programs ∧ program ≤ 15 ∧ ∃ p, p.toNat = program ∧ rest = p :: contents) →
           let i := s.sst.infoOf b
           (contentsComplete b contents = false → answers (Answer.refuse .badArgument) s.heard)
             ∧ (contentsComplete b contents = true →
                 (s.sst.store.isSaving = true → answers (Answer.refuse .busy) s.heard)
                   ∧ (s.sst.store.isSaving = false →
                       (b = .ident ∨ i.locked = true → answers (Answer.refuse .locked) s.heard)
                         ∧ (b ≠ .ident → i.locked = false →
                             (i.gen.toNat ≠ lo.toNat + 256 * hi.toNat →
                                 answers (Answer.with .wrongGeneration (u16 i.gen.toNat)) s.heard)
                               ∧ (i.gen.toNat = lo.toNat + 256 * hi.toNat →
                                   (b = .tones ∨ b = .programs → s.seq1.run ≠ none ∨ s.seq2.run ≠ none →
                                       answers (Answer.refuse .busy) s.heard)
                                     ∧ (¬((b = .tones ∨ b = .programs) ∧ (s.seq1.run ≠ none ∨ s.seq2.run ≠ none)) →
                                         (s.sst.contents.put b program contents = none →
                                             answers (Answer.refuse .badArgument) s.heard)
                                           ∧ (∀ new, s.sst.contents.put b program contents = some new →
                                               let t : State :=
                                                 { s.heard with
                                                   sst :=
                                                     { s.sst with
                                                       contents := new
                                                       info :=
                                                         s.sst.info.setIfInBounds b.ctorIdx
                                                           { i with gen := i.gen + 1, dirty := true } } }
                                               answers (Answer.with .ok (u16 (i.gen + 1).toNat))
                                                   (putEffect b s.sst.contents t)
                                                 ∧ (b = .ports ∨ b = .tones ∨ b = .programs ∨ b = .tests →
                                                     answers (Answer.with .ok (u16 (i.gen + 1).toNat)) t)))))))))
    ∧ (∀ (old : Settings) (s : State),
         let new := s.sst.contents
         let waits := s.lks.state = .waiting ∧ s.lks.wait = some .noPermittedRung
         ((waits → putEffect .link old s = beginAttempt .other s) ∧ (¬waits → putEffect .link old s = s))
           ∧ (old.power.stage1Min = new.power.stage1Min ∨ s.psv.stage1End = none → putEffect .power old s = s)
           ∧ (∀ e, old.power.stage1Min ≠ new.power.stage1Min → s.psv.stage1End = some e →
               let due := s.psv.stage1From + new.power.stage1Min * 60000
               let t : State := { s with psv := { s.psv with stage1End := some due } }
               (s.clock < due → putEffect .power old s = t)
                 ∧ (due ≤ s.clock → s.alive = true → Does .stage1Timeout t (putEffect .power old s)))
           ∧ (new.remote.enable = true ∨ s.mcr.loopback = none → putEffect .remote old s = s)
           ∧ (∀ l, new.remote.enable = false → s.mcr.loopback = some l →
               putEffect .remote old s
                 = notice (.remoteEvent (.loopbackEnded .disabled l.cells) s.uptime)
                     { s with mcr := { s.mcr with loopback := none } })
           ∧ (s.loading = false →
               let limit := new.control.silenceS
               let timed : State :=
                 { s with
                   mpt :=
                     { s.mpt with
                       silenceEnd :=
                         if old.control.silenceS = limit then s.mpt.silenceEnd
                         else if limit = 0 then none
                         else some (s.clock + limit * 1000) } }
               let due := s.pac.relay.pos = .localPort ∧ s.pac.relay.move = none ∧ s.lks.state ≠ .carrying
                 ∧ (s.hpc1.state = .idle ∨ s.hpc1.state = .disabled) ∧ ∃ t, s.pac.absenceFrom = some t ∧ t + 60000 ≤ s.clock
               let turnedOn := new.control.autoLifeline = true ∧ old.control.autoLifeline = false
               (turnedOn ∧ due →
                   putEffect .control old s
                     = { timed with
                         pac :=
                           { s.pac with
                             relay :=
                               { s.pac.relay with
                                 move := some
                                   { target := .copper, doneAt := s.clock + 30, reason := .linkDown, carriesOut := false } } }
                         hpc1 := s.hpc1.toSwitching })
                 ∧ (¬(turnedOn ∧ due) → putEffect .control old s = timed)))

/-- SETTINGS_SAVE is refused in CONSERVE and LIFELINE stage and while a save runs; else the first write begins, of the
first dirty block or of the lock record, and the dirty blocks are listed. The end of a write of a save. GOOD: the
entry holds contents and generation, the dirty flag clears, the load status is GOOD; FAILED: fault
SETTINGS_SAVE_FAILED at once (log 33), the entry bad or as before (the part's choice, log 10). The next item follows;
after the lock record the store is IDLE, SAVE_DONE is queued, SETTINGS_SAVE_FAILED is CLEARED where every block the
save wrote is good, whatever became of the lock record (log 33), and SETTINGS_BAD where the lock record and all blocks
are. -/
def Obligations.SettingsSaveRuns : Prop :=
  (∀ (tag : Byte) (rest : List Byte) (s : State), s.ready →
     (s.psv.stage = .conserve ∨ s.psv.stage = .lifeline →
         Answers (.settingsSave tag rest) tag 0x12 s (Answer.refuse .powerLimit) s.heard)
       ∧ (s.psv.stage ≠ .conserve → s.psv.stage ≠ .lifeline →
           (s.sst.store.isSaving = true →
               Answers (.settingsSave tag rest) tag 0x12 s (Answer.refuse .busy) s.heard)
             ∧ (s.sst.store.isSaving = false →
                 let dirty := allBlocks.filter fun b => (s.sst.infoOf b).dirty
                 let locks := ((s.sst.infoOf .link).locked, (s.sst.infoOf .remote).locked)
                 Answers (.settingsSave tag rest) tag 0x12 s
                   (Answer.with .accepted (listOf (fun b : BlockId => u8 b.ctorIdx) dirty))
                   { s.heard with
                     sst :=
                       { s.sst with
                         store :=
                           match dirty with
                           | [] => .saving { item := .lockRecord, rest := [], results := [], locks := locks }
                           | b :: more =>
                             .saving { item := .block b, rest := more, results := [], locks := locks } } })))
    ∧ (∀ s : State, s.alive = true →
         (∀ good, s.sst.store.isSaving = false → Does (.saveWriteDone good) s s)
           ∧ (∀ r b, s.sst.store = .saving r → r.item = .block b →
               (let i := s.sst.infoOf b
                 let t : Sst :=
                   { s.sst with
                     image := s.sst.image.write b s.sst.contents i.gen
                     info := s.sst.info.setIfInBounds b.ctorIdx { i with dirty := false, good := true } }
                 Does (.saveWriteDone true) s { s with sst := nextWrite r.rest (r.results ++ [(b, true)]) t })
                 ∧ (∃ image, (image = s.sst.image ∨ image = s.sst.image.spoil (.block b)) ∧
                     let u : State := { s with free := s.free + 1, sst := { s.sst with image := image } }
                     Does (.saveWriteDone false) s
                       ((report .settingsSaveFailed .sst .major [d32 b.ctorIdx] u).onSst
                         (nextWrite r.rest (r.results ++ [(b, false)])))))
           ∧ (∀ r, s.sst.store = .saving r → r.item = .lockRecord →
               let saved := SaveItem.lockRecord
               let done := fun good => Notice.saveDone (allBlocks.map (resultOf r.results)) good
               (let t := notice (done .writtenGood)
                   { s with sst := { s.sst with store := .idle, image := { s.sst.image with locks := some r.locks } } }
                 let t1 := if r.results.all (·.2) then clearFault .settingsSaveFailed .sst t else t
                 Does (.saveWriteDone true) s
                   (if s.sst.info.toList.all (·.good) then clearFault .settingsBad .sst t1 else t1))
                 ∧ (∃ image, (image = s.sst.image ∨ image = s.sst.image.spoil saved) ∧
                     let t := notice (done .failed)
                       { s with free := s.free + 1, sst := { s.sst with store := .idle, image := image } }
                     Does (.saveWriteDone false) s
                       (if r.results.all (·.2) then clearFault .settingsSaveFailed .sst t else t))))

/-- SETTINGS_LOCK sets the lock flags of the blocks it names, drawn from LINK and REMOTE; a set that names any other
block, or none, is BAD_ARGUMENT. -/
def Obligations.SettingsLockSetsFlags : Prop :=
  ∀ (tag lo hi : Byte) (rest : List Byte) (s : State), s.ready →
    let locked := fun (b : BlockId) (t : Sst) =>
      { t with info := t.info.setIfInBounds b.ctorIdx { t.infoOf b with locked := true } }
    let c := Instr.settingsLock tag (lo :: hi :: rest)
    (lo = 0x02 → hi = 0x00 → Answers c tag 0x13 s Answer.ok { s.heard with sst := locked .link s.sst })
      ∧ (lo = 0x80 → hi = 0x00 → Answers c tag 0x13 s Answer.ok { s.heard with sst := locked .remote s.sst })
      ∧ (lo = 0x82 → hi = 0x00 →
          Answers c tag 0x13 s Answer.ok { s.heard with sst := locked .remote (locked .link s.sst) })
      ∧ (hi ≠ 0x00 ∨ (lo ≠ 0x02 ∧ lo ≠ 0x80 ∧ lo ≠ 0x82) →
          Answers c tag 0x13 s (Answer.refuse .badArgument) s.heard)

/-- The load: each of the nine blocks takes the contents and the generation of its entry, clean and GOOD, where the
entry can be read and its CRC holds, and its built-in contents, generation 0, dirty and DEFAULTED, where not; the lock
flags of LINK and REMOTE are those of the lock record, both clear where it is bad. The store is then IDLE, and no
block's start changes what was loaded. Nothing happens while the store is not LOADING. What the end of loading brings,
in order: the copies and starts of LKS, the ports, PSV and MPT; the START_REPORT notice with the start count, the
retained record's presence, the retention-lost value, load status and lock flags; the POWER_STAGE notice with cause
START; SETTINGS_BAD for each defaulted block in block order with its number, and with 9 for a bad lock record; the
faults of the start stage and of an open enclosure; the cutoff. The copies and starts name the states they reach:
MPT's mask and silence timer, the port settings, the link's ladder, parameters, floor rung and enabled flag. That the
faults of SST stand before those of PSV is the model's choice (log 26), and so is that a stage-1 timer which runs
takes the loaded time less the time spent (log 28) that START_REPORT has FLG's values of this moment (log 41), that
autostart goes by the stage as it stands now (log 43), and that an unreadable lock record counts as bad (log 44). -/
def Obligations.LoadingCompletes : Prop :=
  ((∀ (u : BitVec 10) (s : State), s.alive = true →
       (s.loading = false → Does (.loadingDone u) s s)
         ∧ (s.loading = true → s.pac.exclusive → s.bounded →
             ∃ t, exec (.loadingDone u) s = .next t ∧ t.sst = Sst.load u s.sst))
     ∧ (∀ (u : BitVec 10) (t : Sst),
         let m := t.image
         let locks := if u.getLsbD 9 then (false, false) else m.locks.getD (false, false)
         let c := (Sst.load u t).contents
         let i := (Sst.load u t).infoOf
         ((Sst.load u t).store = .idle ∧ (Sst.load u t).image = m ∧ (Sst.load u t).reason = t.reason)
           ∧ (c.ident, i .ident) = loaded m.ident (!u.getLsbD 0) true Settings.builtIn.ident
           ∧ (c.link, i .link) = loaded m.link (!u.getLsbD 1) locks.1 Settings.builtIn.link
           ∧ (c.ports, i .ports) = loaded m.ports (!u.getLsbD 2) false ⟨PortSettings.builtIn, PortSettings.builtIn⟩
           ∧ (c.tones, i .tones) = loaded m.tones (!u.getLsbD 3) false Settings.builtIn.tones
           ∧ (c.programs, i .programs) = loaded m.programs (!u.getLsbD 4) false Settings.builtIn.programs
           ∧ (c.tests, i .tests) = loaded m.tests (!u.getLsbD 5) false Settings.builtIn.tests
           ∧ (c.power, i .power) = loaded m.power (!u.getLsbD 6) false PowerSettings.builtIn
           ∧ (c.remote, i .remote) = loaded m.remote (!u.getLsbD 7) locks.2 Settings.builtIn.remote
           ∧ (c.control, i .control) = loaded m.control (!u.getLsbD 8) false Settings.builtIn.control)
     ∧ (∀ (α : Type) (a builtIn : α) (gen : Seq16) (locked : Bool),
         loaded (some (a, gen)) true locked builtIn = (a, { gen := gen, dirty := false, locked := locked, good := true })
           ∧ loaded (some (a, gen)) false locked builtIn
               = (builtIn, { gen := 0, dirty := true, locked := locked, good := false })
           ∧ ∀ readable, loaded none readable locked builtIn
               = (builtIn, { gen := 0, dirty := true, locked := locked, good := false })))
    ∧ ((∀ (u : BitVec 10) (s : State), s.alive = true → s.loading = true →
           let locksBad := u.getLsbD 9 = true ∨ s.sst.image.locks = none
           let t := portLoaded (powerLoaded (portsLoaded (linkLoaded { s with sst := Sst.load u s.sst })))
           let i := t.sst.infoOf
           let good := allBlocks.map fun b => (i b).good
           let locked := allBlocks.map fun b => (i b).locked
           let r := t.flg.retention
           let t1 := notice (.startReport t.sst.reason r.startCount r.record.isSome t.flg.lost good locked) t
           let t2 := notice (.powerStage t1.psv.stage none .start t1.psv.battery t1.uptime) t1
           let bad := fun (x : State) (b : BlockId) =>
             if (i b).good = true then x else report .settingsBad .sst .major [d32 b.ctorIdx] x
           let t3 := allBlocks.foldl bad t2
           let t4 := if locksBad then report .settingsBad .sst .major [d32 9] t3 else t3
           let st := t4.psv.stage
           let t5 := if st = .mains then t4 else report .mainsLost .psv .major [d32 t4.psv.battery] t4
           let t6 :=
             if st = .conserve ∨ st = .lifeline then
               report .batteryLow .psv .major [d32 t5.psv.battery, d32 st.ctorIdx] t5
             else t5
           let t7 := if t6.psv.enclosureOpen = true then report .enclosureOpen .psv .info [] t6 else t6
           Does (.loadingDone u) s (cutoffCheck t7))
         ∧ (∀ s : State,
             let l := s.sst.contents.link
             let copied : State :=
               { s with
                 lks :=
                   { s.lks with
                     ladder := l.ladder, params := l.params, rung := floorOf l.ladder
                     enabled := s.sst.contents.control.autostart } }
             let starts := s.sst.contents.control.autostart = true ∧ s.psv.stage ≠ .lifeline
             linkLoaded s = if starts then beginAttempt .other copied else copied)
         ∧ (∀ s : State,
             let c := s.sst.contents.ports
             portsLoaded s
               = enterIdle .two
                   { s with hpc1 := { s.hpc1 with copy := some c.one }, hpc2 := { s.hpc2 with copy := some c.two } })
         ∧ (∀ s : State, s.loading = false →
             let c := s.sst.contents.control
             powerLoaded s
                 = { s with
                     psv :=
                       { s.psv with
                         stage1End :=
                           s.psv.stage1End.map fun _ => s.psv.stage1From + s.sst.contents.power.stage1Min * 60000 } }
               ∧ portLoaded s
                   = { s with
                       mpt :=
                         { s.mpt with
                           mask := c.mask ||| 0x00080002#32
                           silenceEnd := if c.silenceS = 0 then none else some (s.clock + c.silenceS * 1000) } })
         ∧ (∀ s : State,
             (s.psv.stage = .lifeline ∧ s.psv.belowCutoff = 3 ∧ s.psv.stopping = false ∧ s.loading = false →
                 cutoffCheck s
                   = report .batteryExhausted .psv .critical [d32 s.psv.battery, d32 s.sst.contents.power.cutoff]
                       { s with psv := { s.psv with mode := .active, wake := none, sleepGranted := false, stopping := true } })
               ∧ (¬(s.psv.stage = .lifeline ∧ s.psv.belowCutoff = 3 ∧ s.psv.stopping = false ∧ s.loading = false) →
                   cutoffCheck s = s)))

/-! ## Holding the link (02) -/

/-- An attempt: LKS takes ladder and parameters from the LINK block, the rung becomes the floor where the ladder does
not hold it; with no permitted rung at or below it the link waits with NO_PERMITTED_RUNG and the fault is recorded;
else the attempt is counted and the pair asked for, which it gets, entering GREETING for at most 20 s, unless a test
holds it or waits for it or a hazard hold runs. (R22, R23; the claim by R3, the permitted rungs by R55.) -/
def Obligations.AttemptBegins : Prop :=
  ∀ (cause : LinkCause) (s : State),
    let l := s.sst.contents.link
    let rung := if (rungIn l.ladder s.lks.rung).isSome then s.lks.rung else floorOf l.ladder
    let trial := s.lks.trial.filter fun t => (rungIn l.ladder t.target).isSome
    let t := beginAttempt cause s
    let waiting : Lks :=
      { s.lks with
        ladder := l.ladder, params := l.params, trial := trial, state := .waiting, dest := none, backoffEnd := none,
        releaseWait := none, greetingEnd := none, trainingEnd := none, releasingEnd := none }
    (permittedFrom s.psv.stage l.ladder rung = none →
        t.lks = { waiting with rung := rung, wait := some .noPermittedRung }
          ∧ t.pac = s.pac
          ∧ t.flg = (report .noPermittedRung .lks .major [d32 s.psv.stage.ctorIdx, d32 rung] s).flg)
      ∧ (∀ r, permittedFrom s.psv.stage l.ladder rung = some r →
          t.flg = (clearFault .noPermittedRung .lks s).flg
            ∧ (s.pac.test.state = .free → s.pac.hazardEnd = none →
                t.lks =
                    { waiting with
                      rung := r, wait := none, state := .greeting, greetingEnd := some (s.clock + 20000),
                      attempts := min (s.lks.attempts + 1) 65535 }
                  ∧ t.pac = { s.pac with link := { state := .held, since := s.uptime } })
            ∧ (s.pac.test.state ≠ .free ∨ s.pac.hazardEnd ≠ none →
                t.lks =
                    { waiting with rung := r, wait := some .pair, attempts := min (s.lks.attempts + 1) 65535 }
                  ∧ t.pac = { s.pac with link := { state := .waiting, since := s.uptime } }))
      ∧ (t.hpc1 = s.hpc1 ∧ t.hpc2 = s.hpc2 ∧ t.seq1 = s.seq1 ∧ t.seq2 = s.seq2 ∧ t.rsc = s.rsc ∧ t.ltu = s.ltu
        ∧ t.mcr = s.mcr ∧ t.psv = s.psv ∧ t.sst = s.sst ∧ t.clock = s.clock)

/-- A failed attempt, by REFUSED, LOST or a timeout: the claim is released, the failure counted with its outcome, a
trial is lost to its target's barrier, the link waits out the backoff, whose value doubles up to 480 s, and LINK_DOWN
is recorded. Here with no test waiting for the pair. Outside their states the commands do nothing. (R26, R33; the
trial by R64 and R65, with log 23.) -/
def Obligations.AttemptFails : Prop :=
  ∀ s : State, s.alive = true →
    let failed := fun (o : FailOutcome) (now : Nat) =>
      let u : State := { s with clock := now }
      let k := s.lks
      let rung := match k.trial with | some t => t.former | none => k.rung
      let t := linkNotice k.state (.failed o)
        { u with
          pac := { s.pac with link := { state := .free, since := u.uptime } }
          lks :=
            { k with
              state := .waiting, wait := some .backoff, dest := none, backoffEnd := some (now + k.backoff * 1000),
              releaseWait := none, greetingEnd := none, trainingEnd := none, releasingEnd := none,
              failures := min (k.failures + 1) 65535, lastFail := some o, backoff := min (2 * k.backoff) 480,
              trial := none, rung := rung,
              barriers :=
                match k.trial with
                | some t => k.barriers.setIfInBounds t.target (some (now + 86400000))
                | none => k.barriers } }
      report .linkDown .lks .minor [d32 o.ctorIdx, d32 rung, d32 k.backoff] t
    (s.lks.state ≠ .greeting → Does .refused s s)
      ∧ (s.lks.state ≠ .training → Does .lost s s)
      ∧ (s.lks.greetingEnd = none → Does .greetingTimeout s s)
      ∧ (s.lks.trainingEnd = none → Does .trainingTimeout s s)
      ∧ (s.pac.link.state = .held → s.pac.test.state ≠ .waiting →
          (s.lks.state = .greeting → Does .refused s (failed .refused s.clock))
            ∧ (s.lks.state = .training → Does .lost s (failed .lost s.clock))
            ∧ (∀ e, s.lks.greetingEnd = some e →
                Does .greetingTimeout s (failed .greetingTimeout (max s.clock e)))
            ∧ (∀ e, s.lks.trainingEnd = some e →
                Does .trainingTimeout s (failed .trainingTimeout (max s.clock e))))

/-- GREETED brings TRAINING for at most 45 s. ATTAINED with figures that meet the rung brings CARRYING: the figures
stored, the outcome of the last failed attempt cleared, a new interval begun, LINK_DOWN CLEARED, the link-absence time
held at zero and a relay that auto-lifeline moved taken back (R17). Figures that do not, and NOT_ATTAINABLE, train on
the next permitted rung below the current one, and fail the attempt where there is none. A trial whose target is so
not attained has failed before that: the former rung comes back, the target is barred for 24 hours, and the failed
attempt's LINK_DOWN carries the former rung; the step-up clock is set to 0 by the entry to CARRYING alone. (R24, R25,
R27; the trial by R63 to R65, its order by log 23, the relay by R16 and R17.) -/
def Obligations.TrainingOutcomes : Prop :=
  ∀ s : State, s.alive = true →
    (s.lks.state ≠ .greeting → Does .greeted s s)
      ∧ (s.lks.state = .greeting →
          Does .greeted s
            (linkNotice .greeting .other
              { s with
                lks := { s.lks with state := .training, greetingEnd := none, trainingEnd := some (s.clock + 45000) } }))
      ∧ (∀ down up margin, s.lks.state ≠ .training → Does (.attained down up margin) s s)
      ∧ (s.lks.state ≠ .training → Does .notAttainable s s)
      ∧ (s.lks.state = .training →
          (∀ down up margin r, rungIn s.lks.ladder s.lks.rung = some r →
              (r.down ≤ down ∧ r.up ≤ up ∧ r.minMargin ≤ margin →
                  let k : Lks :=
                    { s.lks with
                      state := .carrying, trainingEnd := none, carryingSince := some s.clock,
                      attained := some ⟨down, up, margin⟩, lastFail := none,
                      lossEnd := if s.lks.signalLost then some (s.clock + 2000) else none,
                      reportAt := s.clock + 1000, consecutiveSevere := 0, stepClock := 0,
                      trial := s.lks.trial.map fun t => { t with watchEnd := some (s.clock + 900000) } }
                  let t := clearFault .linkDown .lks
                    (beginInterval (linkNotice .training .other { s with lks := k }))
                  Does (.attained down up margin) s
                    (tryReturnLocal { t with pac := { s.pac with absenceFrom := none, absenceTaken := false } }))
                ∧ (¬(r.down ≤ down ∧ r.up ≤ up ∧ r.minMargin ≤ margin) →
                    Does (.attained down up margin) s (stepTraining s)))
            ∧ Does .notAttainable s (stepTraining s)
            ∧ (∀ r, s.lks.trial = none → permittedBelow s.psv.stage s.lks.ladder s.lks.rung = some r →
                stepTraining s =
                  linkNotice .training .other
                    { s with lks := { s.lks with rung := r, trainingEnd := some (s.clock + 45000) } })
            ∧ (s.lks.trial = none → permittedBelow s.psv.stage s.lks.ladder s.lks.rung = none →
                stepTraining s = failAttempt .notAttainable s)
            ∧ (∀ x, s.lks.trial = some x →
                let back : State :=
                  { s with
                    lks :=
                      { s.lks with
                        trial := none, rung := x.former
                        barriers := s.lks.barriers.setIfInBounds x.target (some (s.clock + 86400000)) } }
                (∀ r, permittedBelow s.psv.stage s.lks.ladder s.lks.rung = some r →
                    stepTraining s =
                      linkNotice .training .other
                        { back with lks := { back.lks with rung := r, trainingEnd := some (s.clock + 45000) } })
                  ∧ (permittedBelow s.psv.stage s.lks.ladder s.lks.rung = none →
                      stepTraining s = failAttempt .notAttainable back))
            ∧ (s.lks.trial = none → s.pac.link.state = .held → s.pac.test.state ≠ .waiting →
                let u := linkNotice .training (.failed .notAttainable)
                  { s with
                    pac := { s.pac with link := { state := .free, since := s.uptime } }
                    lks :=
                      { s.lks with
                        state := .waiting, wait := some .backoff, dest := none
                        backoffEnd := some (s.clock + s.lks.backoff * 1000), releaseWait := none, greetingEnd := none
                        trainingEnd := none, releasingEnd := none, failures := min (s.lks.failures + 1) 65535
                        lastFail := some .notAttainable, backoff := min (2 * s.lks.backoff) 480 } }
                failAttempt .notAttainable s
                  = report .linkDown .lks .minor
                      [d32 FailOutcome.notAttainable.ctorIdx, d32 s.lks.rung, d32 s.lks.backoff] u))
      ∧ (∀ u : State,
          let returns := u.pac.relay.pos = .copper ∧ u.pac.relay.move = none ∧ u.pac.relay.reason = .linkDown
            ∧ u.lks.state = .carrying ∧ u.pac.copperActive = false ∧ u.psv.stage ≠ .lifeline ∧ u.mpt.autonomous = false
          (¬returns → tryReturnLocal u = u)
            ∧ (returns →
                tryReturnLocal u
                  = { u with
                      pac :=
                        { u.pac with
                          copperOffHook := false
                          relay :=
                            { u.pac.relay with
                              deferred := false
                              move := some
                                { target := .localPort, doneAt := u.clock + 30, reason := .linkDown
                                  carriesOut := false } } }
                      hpc1 := { u.hpc1 with state := .switching } }))

/-- An orderly drop counts its reason and brings RELEASING for at most 500 ms; the departure from CARRYING closes the
interval, abandons a maintenance request and a loopback, flushes the payload buffers and restarts the link-absence
time. RELEASING ends with the exchange's acknowledgement, with the loss of its signal or after 500 ms: the claim is
released and the link goes to OFF, to a backoff, or into the next attempt. A power drop whose grace runs out is made.
Here with no test waiting for the pair. -/
def Obligations.OrderlyDropThenRelease : Prop :=
  (∀ (r : DropReason) (dest : ReleaseDest) (wait : Option Nat) (s : State),
     let t := dropOrderly r dest wait s
     (t.lks.state = .releasing ∧ t.lks.dest = some dest ∧ t.lks.releaseWait = wait
         ∧ t.lks.releasingEnd = some (s.clock + 500) ∧ t.lks.lastDrop = some r
         ∧ t.lks.drops = s.lks.drops.setIfInBounds r.ctorIdx (min ((s.lks.drops[r.ctorIdx]?).getD 0 + 1) 65535)
         ∧ t.lks.carryingSince = none ∧ t.lks.retrainEnd = none ∧ t.lks.powerDropEnd = none ∧ t.lks.lossEnd = none
         ∧ t.lks.interval = none ∧ t.lks.attained = s.lks.attained ∧ t.lks.rung = s.lks.rung
         ∧ t.lks.backoff = s.lks.backoff ∧ t.lks.trial = s.lks.trial)
       ∧ (t.lks.payload.up = [] ∧ t.lks.payload.down = [])
       ∧ (t.mcr.flight = none ∧ t.mcr.loopback = none)
       ∧ t.pac = { s.pac with absenceFrom := some s.clock, absenceTaken := false }
       ∧ (t.hpc1 = s.hpc1 ∧ t.hpc2 = s.hpc2 ∧ t.seq1 = s.seq1 ∧ t.seq2 = s.seq2 ∧ t.rsc = s.rsc ∧ t.ltu = s.ltu
         ∧ t.psv = s.psv ∧ t.sst = s.sst ∧ t.flg = s.flg ∧ t.clock = s.clock))
    ∧ (∀ s : State, s.alive = true →
         (s.lks.state ≠ .releasing → Does .closeAck s s)
           ∧ (s.lks.releasingEnd = none → Does .releasingTimeout s s)
           ∧ (s.lks.powerDropEnd = none → Does .powerDropGraceExpiry s s)
           ∧ (∀ e, s.lks.powerDropEnd = some e →
               Does .powerDropGraceExpiry s
                 (dropOrderly .power .waiting none { s with clock := max s.clock e, lks := { s.lks with trial := none } }))
           ∧ (∀ r, s.lks.state = .releasing → s.pac.link.state = .held → s.pac.test.state ≠ .waiting →
               s.lks.lastDrop = some r →
               let released := fun (now : Nat) (lost : Bool) =>
                 let u : State := { s with clock := now }
                 let v : State :=
                   { u with
                     pac := { s.pac with link := { state := .free, since := u.uptime } }
                     lks := { s.lks with releasingEnd := none, signalLost := lost } }
                 match s.lks.dest, s.lks.releaseWait with
                 | some .off, _ => toOff (.drop r) v
                 | _, some w => toBackoff w (.drop r) v
                 | _, none => beginAttempt (.drop r) v
               Does .closeAck s (released s.clock s.lks.signalLost)
                 ∧ (s.lks.signalLost = false → Does .signalLost s (released s.clock true))
                 ∧ (∀ e, s.lks.releasingEnd = some e →
                     Does .releasingTimeout s (released (max s.clock e) s.lks.signalLost))))

/-- The link's signal and its timers in CARRYING and in WAITING: the loss timer of 2 s, the return of the backoff
value to 15 s after 10 minutes of CARRYING, the end of a backoff. That the 10 minutes run from the ms of the entry to
CARRYING is the model's choice (log 43). -/
def Obligations.SignalAndBackoff : Prop :=
  ∀ s : State, s.alive = true →
    (s.lks.signalLost = true → Does .signalLost s s)
      ∧ (s.lks.signalLost = false → s.lks.state = .carrying →
          Does .signalLost s { s with lks := { s.lks with signalLost := true, lossEnd := some (s.clock + 2000) } })
      ∧ (s.lks.signalLost = false → s.lks.state ≠ .carrying → s.lks.state ≠ .releasing →
          Does .signalLost s { s with lks := { s.lks with signalLost := true } })
      ∧ Does .signalPresent s { s with lks := { s.lks with signalLost := false, lossEnd := none } }
      ∧ (s.lks.lossEnd = none → Does .lossTimer s s)
      ∧ (∀ e, s.lks.lossEnd = some e → Does .lossTimer s (lossDrop { s with clock := max s.clock e }))
      ∧ (∀ e, s.lks.state = .carrying → s.lks.carryingSince = some e →
          Does .backoffResetTime s
            { s with clock := max s.clock (e + 600000), lks := { s.lks with backoff := 15 } })
      ∧ (s.lks.state ≠ .carrying → Does .backoffResetTime s s)
      ∧ (s.lks.backoffEnd = none → Does .backoffEnd s s)
      ∧ (∀ e, s.lks.backoffEnd = some e →
          Does .backoffEnd s (beginAttempt .other { s with clock := max s.clock e }))

/-- LINK_ENABLE and LINK_DISABLE by the state of the link. The claim that LINK_DISABLE gives back goes here to no
waiting test. (R35, R36; a running loopback ends first, R40; a trial ends without success, R64; that a trial left by
its drop stays TRIAL in OFF is the model's choice, log 35.) -/
def Obligations.LinkEnableAndDisable : Prop :=
  ∀ (tag : Byte) (rest : List Byte) (s : State), s.ready →
    let en := Answers (.linkEnable tag rest) tag 0x20 s
    let dis := Answers (.linkDisable tag rest) tag 0x21 s Answer.ok
    (s.psv.stage = .lifeline → en (Answer.refuse .powerLimit) s.heard)
      ∧ (s.psv.stage ≠ .lifeline →
          (s.lks.state = .off →
              en Answer.ok (beginAttempt .other { s.heard with lks := { s.lks with enabled := true } }))
            ∧ (s.lks.state = .releasing → s.lks.dest = some .off →
                en Answer.ok { s.heard with lks := { s.lks with enabled := true, dest := some .waiting } })
            ∧ (s.lks.state ≠ .off → s.lks.state ≠ .releasing ∨ s.lks.dest ≠ some .off → en Answer.ok s.heard))
      ∧ (s.lks.state = .off → s.mcr.loopback = none →
          dis { s.heard with lks := { s.lks with enabled := false } })
      ∧ (s.lks.state = .releasing → s.mcr.loopback = none →
          dis { s.heard with lks := { s.lks with enabled := false, dest := some .off } })
      ∧ (s.lks.state = .carrying →
          dis
            (dropOrderly .host .off none
              (trialEnd ((endLoopback .host s.heard).onLks fun k => { k with enabled := false }))))
      ∧ (s.lks.state = .waiting ∨ s.lks.state = .greeting ∨ s.lks.state = .training → s.mcr.loopback = none →
          s.pac.test.state ≠ .waiting →
          dis
            (linkNotice s.lks.state .other
              { s.heard with
                pac :=
                  { s.pac with
                    link := if s.pac.link.state = .free then s.pac.link else { state := .free, since := s.uptime } }
                lks :=
                  { s.lks with
                    enabled := false, trial := none, state := .off, wait := none, dest := none, backoffEnd := none,
                    releaseWait := none, greetingEnd := none, trainingEnd := none, lossEnd := none,
                    releasingEnd := none, retrainEnd := none, powerDropEnd := none } }))

/-- LINK_RETRAIN and LINK_RUNG_SET by the state of the link. A running loopback ends first, with cause HOST. -/
def Obligations.LinkRetrainAndRungSet : Prop :=
  ∀ (tag n : Byte) (rest : List Byte) (s : State), s.ready →
    let re := Answers (.linkRetrain tag rest) tag 0x22 s
    let set := Answers (.linkRungSet tag (n :: rest)) tag 0x23 s
    let u := endLoopback .host s.heard
    (s.lks.state = .off ∨ s.lks.state = .releasing ∧ s.lks.dest = some .off →
        re (Answer.refuse .wrongState) s.heard)
      ∧ (s.lks.state = .waiting → s.lks.wait = some .pair → re Answer.ok u)
      ∧ (s.lks.state = .waiting → s.lks.wait ≠ some .pair → re Answer.ok (beginAttempt .other u))
      ∧ (s.lks.state = .greeting ∨ s.lks.state = .training → re Answer.ok (beginAttempt .other (abandonAttempt u)))
      ∧ (s.lks.state = .carrying → re Answer.ok (dropOrderly .host .waiting none (trialEnd u)))
      ∧ (s.lks.state = .releasing → s.lks.dest ≠ some .off →
          re Answer.ok (u.onLks fun k => { k with releaseWait := none }))
      ∧ (rungIn s.lks.ladder n.toNat = none → set (Answer.refuse .badArgument) s.heard)
      ∧ (∀ g, rungIn s.lks.ladder n.toNat = some g →
          (permitted s.psv.stage g = false → set (Answer.refuse .powerLimit) s.heard)
            ∧ (permitted s.psv.stage g = true →
                let v := (trialEnd u).onLks fun k => { k with rung := n.toNat }
                (n.toNat = s.lks.rung → set Answer.ok u)
                  ∧ (n.toNat ≠ s.lks.rung →
                      (s.lks.state = .off ∨ s.lks.state = .greeting ∨ s.lks.state = .releasing → set Answer.ok v)
                        ∧ (s.lks.state = .waiting → set Answer.ok (rerunAttempt v))
                        ∧ (s.lks.state = .training → set Answer.ok (beginAttempt .other (abandonAttempt v)))
                        ∧ (s.lks.state = .carrying →
                            set Answer.ok (dropOrderly .host .waiting none (trialEnd v))))))

/-- The payload port: a cell is taken in while the port is open and its buffer holds fewer than 16; one the link
brings to a full buffer is lost and counted; a cell that leaves is counted, in the interval too. A looped cell is
counted by the loopback. -/
def Obligations.PayloadCells : Prop :=
  ∀ (c : PayloadCell) (s : State), s.alive = true →
    let opened := s.lks.state = .carrying ∧ s.mcr.loopback = none
    (opened → s.lks.payload.up.length < 16 →
        Does (.upstreamCell c) s
          { s with lks := { s.lks with payload := { s.lks.payload with up := s.lks.payload.up ++ [c] } } })
      ∧ (¬opened ∨ 16 ≤ s.lks.payload.up.length → Does (.upstreamCell c) s s)
      ∧ (opened → s.lks.payload.down.length < 16 →
          Does (.downstreamCell c) s
            { s with lks := { s.lks with payload := { s.lks.payload with down := s.lks.payload.down ++ [c] } } })
      ∧ (opened → 16 ≤ s.lks.payload.down.length →
          Does (.downstreamCell c) s
            { s with
              lks :=
                { s.lks with
                  payload := { s.lks.payload with overflow := min (s.lks.payload.overflow + 1) 4294967295 } } })
      ∧ (¬opened → Does (.downstreamCell c) s s)
      ∧ (s.lks.payload.up = [] → Does .upstreamCellSent s s)
      ∧ (∀ d ds, s.lks.payload.up = d :: ds →
          Does .upstreamCellSent s
            { s with
              lks :=
                { s.lks with
                  payload := { s.lks.payload with up := ds, sent := min (s.lks.payload.sent + 1) 4294967295 }
                  interval := s.lks.interval.map fun i => { i with upCells := min (i.upCells + 1) 4294967295 } } })
      ∧ (s.lks.payload.down = [] → Does .downstreamCellHanded s s)
      ∧ (∀ d ds, s.lks.payload.down = d :: ds →
          Does .downstreamCellHanded s
            { s with
              lks :=
                { s.lks with
                  payload := { s.lks.payload with down := ds, handed := min (s.lks.payload.handed + 1) 4294967295 }
                  interval := s.lks.interval.map fun i => { i with downCells := min (i.downCells + 1) 4294967295 } } })
      ∧ Does .loopedCell s
          { s with
            mcr :=
              { s.mcr with loopback := s.mcr.loopback.map fun l => { l with cells := min (l.cells + 1) 4294967295 } } }

/-! ## Line quality (03) -/

/-- A line report in CARRYING counts its second: SEVERE where the signal was lost or the unguarded errored blocks
reach the threshold, CLEAN where there are none, else ERRORED, LOW_MARGIN besides where the margin is below the
rung's. The sixtieth second closes the interval COMPLETE and begins the next; where it holds the quality limit of
SEVERE seconds a retrain comes up: a QUALITY drop at once without a call, else deferred for 120 s, and one already
deferred is left as it is. The tenth SEVERE second in a row is a QUALITY drop, unless the close has dropped the link;
a step-up clock that becomes full is looked at last (log 35) and carries out a step-up that is due. INTERVAL_CLOSE,
CONSECUTIVE_SEVERE_LIMIT and STEP_UP_CLOCK_FULL carry the report that brings them about and do what it does, which is
the model's choice (log 5); outside CARRYING, and where their occasion has not come, the commands do nothing. -/
def Obligations.LineReportsCountSeconds : Prop :=
  ∀ (r : LineReport) (s : State), s.alive = true →
    let severe := r.signalLost = true ∨ s.lks.params.severe ≤ r.unguarded
    let low := match rungIn s.lks.ladder s.lks.rung with | some g => r.margin < g.minMargin | none => False
    (s.lks.state ≠ .carrying →
        Does (.lineReport r) s s ∧ Does (.intervalClose r) s s ∧ Does (.consecutiveSevereLimit r) s s
          ∧ Does (.stepUpClockFull r) s s)
      ∧ (∀ (i i' : Interval) (consecutive clock : Nat), s.lks.state = .carrying → s.lks.interval = some i →
          (severe → i'.severe = i.severe + 1 ∧ i'.errored = i.errored ∧ i'.clean = i.clean
            ∧ consecutive = min (s.lks.consecutiveSevere + 1) 10) →
          (¬severe → i'.severe = i.severe ∧ consecutive = 0
            ∧ (r.unguarded = 0 → i'.clean = i.clean + 1 ∧ i'.errored = i.errored)
            ∧ (r.unguarded ≠ 0 → i'.errored = i.errored + 1 ∧ i'.clean = i.clean)) →
          (low → i'.lowMargin = i.lowMargin + 1) → (¬low → i'.lowMargin = i.lowMargin) →
          (severe ∨ low → clock = 0) → (¬severe → ¬low → clock = min (s.lks.stepClock + 1) 21600) →
          i' =
            { i with
              severe := i'.severe, errored := i'.errored, clean := i'.clean, lowMargin := i'.lowMargin
              blocks := min (i.blocks + r.blocks) 4294967295
              unguarded := min (i.unguarded + r.unguarded) 4294967295
              guarded := min (i.guarded + r.guarded) 4294967295 } →
          let seconds := i.clean + i.errored + i.severe + 1
          let t : State :=
            { s with
              clock := max s.clock s.lks.reportAt
              lks :=
                { s.lks with
                  reportAt := s.lks.reportAt + 1000, consecutiveSevere := consecutive, stepClock := clock,
                  interval := some i' } }
          let whole := { i' with closing := some .complete }
          let closed := beginInterval
            (notice (.intervalEnd whole)
              { t with lks := { t.lks with history := (s.lks.history ++ [whole]).drop (s.lks.history.length - 31) } })
          let call := s.hpc1.state = .connected ∨ s.hpc2.state = .connected
          let retrain := s.lks.params.quality ≤ i'.severe ∧ s.lks.retrainEnd = none
          let at60 : State :=
            if retrain then { closed with lks := { closed.lks with retrainEnd := some (closed.clock + 120000) } }
            else closed
          let full := clock = 21600 ∧ s.lks.stepClock < 21600
          (seconds < 60 → consecutive < 10 → ¬full → Does (.lineReport r) s t)
            ∧ (seconds < 60 → consecutive = 10 → Does (.lineReport r) s (qualityDrop t))
            ∧ (seconds < 60 → consecutive < 10 → full →
                Does (.lineReport r) s (stepUpCheck t) ∧ Does (.stepUpClockFull r) s (stepUpCheck t))
            ∧ (seconds = 60 → retrain → ¬call →
                Does (.lineReport r) s (qualityDrop closed) ∧ Does (.intervalClose r) s (qualityDrop closed))
            ∧ (seconds = 60 → ¬retrain ∨ call →
                (consecutive < 10 → ¬full → Does (.lineReport r) s at60 ∧ Does (.intervalClose r) s at60)
                  ∧ (consecutive = 10 →
                      Does (.lineReport r) s (qualityDrop at60) ∧ Does (.intervalClose r) s (qualityDrop at60))
                  ∧ (consecutive < 10 → full →
                      Does (.lineReport r) s (stepUpCheck at60) ∧ Does (.intervalClose r) s (stepUpCheck at60)))
            ∧ (seconds ≠ 60 → Does (.intervalClose r) s s)
            ∧ (seconds < 60 → severe → s.lks.consecutiveSevere = 9 →
                Does (.consecutiveSevereLimit r) s (qualityDrop t))
            ∧ (¬severe ∨ s.lks.consecutiveSevere ≠ 9 → Does (.consecutiveSevereLimit r) s s)
            ∧ (severe ∨ low ∨ s.lks.stepClock ≠ 21599 → Does (.stepUpClockFull r) s s)
            ∧ (∀ x : State,
                (∀ target, x.stepUpDue = some target →
                    stepUpCheck x =
                      dropOrderly .stepTrial .waiting none
                        { x with
                          lks :=
                            { x.lks with
                              trial := some { former := x.lks.rung, target := target, watchEnd := none }
                              rung := target } })
                  ∧ (x.stepUpDue = none → stepUpCheck x = x)))

/-- A LOSS drop is abrupt, a QUALITY drop orderly; both wait out the backoff, whose value doubles where CARRYING
lasted less than 60 s, record LINK_DOWN and enter the drop window of 600 s. The third drop in the window empties it
and steps the rung down to the next permitted one with LINK_UNSTABLE. A trial in its watch has failed before the
notice, the fault and the storm step, which carry the former rung (log 23): that rung is back and the target barred
for 24 hours; the step-up clock stands until the next entry to CARRYING. That LINK_DOWN's detail counts the drop
reasons on from 5 is the model's choice (log 12), and so is that the 60 s run from the ms of the entry to CARRYING
(log 43). A test that waits for the pair is granted it as a LOSS drop releases it. A storm step with no permitted rung
below the current one, as at the floor: the rung stays, LTU is asked for a FOREIGN_VOLTAGE and then an INSULATION test
of origin INTERNAL, one repeat, not disruptive, and LINK_FAILING is recorded with the rung, the stage and the two job
numbers, 0 for a refusal. Each request is refused in CONSERVE and LIFELINE stage, merged with an INTERNAL entry of its
kind, refused where the queue is full, and else queued; as the head of an empty queue it claims the pair, and is
granted it or waits, without asking LKS for a release. -/
def Obligations.LossAndQualityDrops : Prop :=
  (∀ s : State,
     let k : Lks := match s.lks.trial with
       | none => s.lks
       | some x =>
         { s.lks with
           trial := none, rung := x.former
           barriers := s.lks.barriers.setIfInBounds x.target (some (s.clock + 86400000)) }
     let wait := s.lks.backoff
     let early := match s.lks.carryingSince with | some t => decide (s.clock < t + 60000) | none => false
     let next := if early then min (2 * wait) 480 else wait
     let kept := s.lks.window.filter fun d => s.clock ≤ d.at_ + 600000
     let recorded := fun (r : DropReason) (t : State) =>
       let u := report .linkDown .lks .minor [d32 (5 + r.ctorIdx), d32 k.rung, d32 wait] t
       let w := kept ++ [{ at_ := s.clock, reason := r }]
       if w.length < 3 then u.onLks fun k => { k with window := w }
       else
         let v := u.onLks fun k => { k with window := [] }
         match permittedBelow s.psv.stage k.ladder k.rung with
         | some below =>
           report .linkUnstable .lks .minor
             [d32 k.rung, d32 below, d32 (((w.head?.map (·.at_)).getD 0) / 1000)]
             (v.onLks fun k => { k with rung := below })
         | none => stormStep (((w.head?.map (·.at_)).getD 0) / 1000) v
     qualityDrop s =
         recorded .quality
           (dropOrderly .quality .waiting (some wait) { s with lks := { k with backoff := next } })
       ∧ (s.pac.link.state = .held →
           let freed : State :=
             { s with
               pac := { s.pac with link := { state := .free, since := s.uptime } }
               lks :=
                 { k with
                   lastDrop := some .loss, lossEnd := none, backoff := next
                   drops := s.lks.drops.setIfInBounds 0 (min ((s.lks.drops[0]?).getD 0 + 1) 65535) } }
           let dropped := fun t : State => recorded .loss (leaveCarrying .loss (toBackoff wait (.drop .loss) t))
           (s.pac.test.state ≠ .waiting ∨ freed.testGrantable = false → lossDrop s = dropped freed)
             ∧ (∀ e rest, s.pac.test.state = .waiting → freed.testGrantable = true → s.ltu.queue = e :: rest →
                 lossDrop s
                   = dropped
                       { freed with
                         pac :=
                           { freed.pac with
                             test := { state := .held, since := s.uptime }, releaseAsked := false, waitEnd := none
                             testRelayClosed := true }
                         ltu :=
                           { s.ltu with
                             queue := { e with phase := .settle } :: rest
                             run := some (TestRun.start e.kind (s.clock + 50)) } })))
    ∧ ((∀ (oldest : Nat) (s : State), permittedBelow s.psv.stage s.lks.ladder s.lks.rung = none →
           let a := requestTest .foreignVoltage .internal 1 false s
           let b := requestTest .insulation .internal 1 false a.2
           let job := fun x : TestAnswer => match x with | .accepted _ n => n | _ => 0
           stormStep oldest s
               = report .linkFailing .lks .major
                   [d32 s.lks.rung, d32 s.psv.stage.ctorIdx, d32 (job a.1), d32 (job b.1)] b.2
             ∧ b.2.lks = s.lks)
         ∧ (∀ (kind : TestKind) (s : State),
             let asked := requestTest kind .internal 1 false s
             let same := fun e : TestEntry => e.kind = kind ∧ e.origin = .internal
             let allowed := s.psv.stage ≠ .conserve ∧ s.psv.stage ≠ .lifeline
             let l := s.ltu
             (¬allowed → asked = (.powerLimit, s))
               ∧ (∀ before e after, allowed → l.queue = before ++ e :: after → same e → (∀ x ∈ before, ¬same x) →
                   asked = (.accepted .merged e.job, s))
               ∧ (allowed → (∀ x ∈ l.queue, ¬same x) →
                   (6 ≤ l.queue.length → asked = (.queueFull, s))
                     ∧ (l.queue.length < 6 →
                         let e : TestEntry :=
                           { job := l.nextJob, kind := kind, origin := .internal, repeats := 1, disruptive := false
                             arrival := s.uptime, phase := .queued }
                         let next := if 255 ≤ l.nextJob then 1 else l.nextJob + 1
                         let claim := some { job := e.job, origin := .internal, disruptive := false : TestClaimInfo }
                         let answer := TestAnswer.accepted .queued l.nextJob
                         (l.queue ≠ [] → asked = (answer, { s with ltu := { l with queue := l.queue ++ [e], nextJob := next } }))
                           ∧ (l.queue = [] → s.testGrantable = true →
                               asked
                                 = (answer,
                                     { s with
                                       ltu :=
                                         { l with
                                           queue := [{ e with phase := .settle }], nextJob := next
                                           run := some (TestRun.start kind (s.clock + 50)) }
                                       pac :=
                                         { s.pac with
                                           test := { state := .held, since := s.uptime }, testInfo := claim
                                           releaseAsked := false, waitEnd := none, testRelayClosed := true } }))
                           ∧ (l.queue = [] → s.testGrantable = false →
                               asked
                                 = (answer,
                                     { s with
                                       ltu := { l with queue := [{ e with phase := .claiming }], nextJob := next }
                                       pac :=
                                         { s.pac with
                                           test := { state := .waiting, since := s.uptime }, testInfo := claim
                                           waitEnd := some (s.clock + 300000), testRelayClosed := false } }))))))

/-- Impulse events, the ring-guard window, and the timers of line quality: a deferred retrain is made at the end of
its grace, a drop leaves the window after 600 s, the storm records are CLEARED after an hour of CARRYING, a trial's
watch ends it in success, a barrier falls and a step-up may be due. That the hour runs from the ms of the entry to
CARRYING is the model's choice (log 43). -/
def Obligations.QualityEventsAndTimers : Prop :=
  ∀ s : State, s.alive = true →
    (∀ ms guarded,
        Does (.impulseEvent ms guarded) s
          { s with
            lks :=
              { s.lks with
                interval := s.lks.interval.map fun i =>
                  { i with
                    impulses := min (i.impulses + 1) 65535
                    guardedImpulses := if guarded then min (i.guardedImpulses + 1) 65535 else i.guardedImpulses
                    longest := max i.longest (min ms 65535) } } })
      ∧ (s.lks.ringGuard = none → Does .ringGuardClose s s)
      ∧ (∀ e, s.lks.ringGuard = some e →
          Does .ringGuardClose s { s with clock := max s.clock e, lks := { s.lks with ringGuard := none } })
      ∧ (s.lks.retrainEnd = none → Does .qualityGraceExpiry s s)
      ∧ (∀ e, s.lks.retrainEnd = some e →
          Does .qualityGraceExpiry s (qualityDrop { s with clock := max s.clock e }))
      ∧ (s.lks.window = [] → Does .dropWindowExpiry s s)
      ∧ (∀ d ds, s.lks.window = d :: ds →
          Does .dropWindowExpiry s
            { s with clock := max s.clock (d.at_ + 600000), lks := { s.lks with window := ds } })
      ∧ (s.lks.state ≠ .carrying → Does .stormClearTime s s)
      ∧ (∀ e, s.lks.state = .carrying → s.lks.carryingSince = some e →
          Does .stormClearTime s
            (clearFault .linkFailing .lks (clearFault .linkUnstable .lks { s with clock := max s.clock (e + 3600000) })))
      ∧ ((∀ t, s.lks.trial = some t → t.watchEnd = none) → Does .trialWatchEnd s s)
      ∧ (∀ t e, s.lks.trial = some t → t.watchEnd = some e →
          Does .trialWatchEnd s { s with clock := max s.clock e, lks := { s.lks with trial := none } })
      ∧ (∀ n : Fin 8, s.lks.barriers[n] = none → Does (.barrierExpiry n) s s)
      ∧ (∀ (n : Fin 8) e, s.lks.barriers[n] = some e →
          Does (.barrierExpiry n) s
            (stepUpCheck
              { s with clock := max s.clock e, lks := { s.lks with barriers := s.lks.barriers.set n none } }))

/-! ## The pair (01) -/

/-- LIFELINE_SELECT. COPPER is never refused: OK where the relay rests there, else ACCEPTED, and a move starts, turns
back, or takes HOST as its reason. LOCAL is refused in LIFELINE stage, while the part is autonomous and while the
relay moves; where the copper side is active it is kept as deferred; else a move of 30 ms starts. That POWER_LIMIT
comes before WRONG_STATE is the model's choice (log 34). -/
def Obligations.LifelineSelectMovesRelay : Prop :=
  ∀ (tag n : Byte) (rest : List Byte) (s : State), s.ready →
    let ans := Answers (.lifelineSelect tag (n :: rest)) tag 0x28 s
    let moving := fun (target : RelayPos) (reason : CopperReason) =>
      some { target := target, doneAt := s.clock + 30, reason := reason, carriesOut := false : RelayMove }
    let r := s.pac.relay
    (2 ≤ n.toNat → ans (Answer.refuse .badArgument) s.heard)
      ∧ (n = 0x00 → r.move = none → r.pos = .copper → r.deferred = false →
          ans Answer.ok { s.heard with pac := { s.pac with relay := { r with reason := .host } } })
      ∧ (n = 0x00 → r.move = none → r.pos = .copper → r.deferred = true →
          ans Answer.ok
            (notice (.lifelinePosition .copper .host (some .superseded))
              { s.heard with pac := { s.pac with relay := { r with reason := .host, deferred := false } } }))
      ∧ (n = 0x00 → r.move = none → r.pos = .localPort →
          ans (Answer.refuse .accepted)
            (endLocal { s.heard with pac := { s.pac with relay := { r with move := moving .copper .host } } }))
      ∧ (∀ m, n = 0x00 → r.move = some m → m.target = .localPort →
          ans (Answer.refuse .accepted)
            { s.heard with pac := { s.pac with relay := { r with move := moving .copper .host } } })
      ∧ (∀ m, n = 0x00 → r.move = some m → m.target = .copper →
          ans (Answer.refuse .accepted)
            { s.heard with pac := { s.pac with relay := { r with move := some { m with reason := .host } } } })
      ∧ (n = 0x01 → s.psv.stage = .lifeline → ans (Answer.refuse .powerLimit) s.heard)
      ∧ (n = 0x01 → s.psv.stage ≠ .lifeline → s.mpt.autonomous = true → ans (Answer.refuse .wrongState) s.heard)
      ∧ (n = 0x01 → s.psv.stage ≠ .lifeline → s.mpt.autonomous = false →
          (r.move ≠ none → ans (Answer.refuse .busy) s.heard)
            ∧ (r.move = none → r.pos = .localPort → ans Answer.ok s.heard)
            ∧ (r.move = none → r.pos = .copper → s.pac.copperActive = true →
                ans (Answer.refuse .accepted) { s.heard with pac := { s.pac with relay := { r with deferred := true } } })
            ∧ (r.move = none → r.pos = .copper → s.pac.copperActive = false →
                ans (Answer.refuse .accepted)
                  { s.heard with
                    pac :=
                      { s.pac with
                        copperOffHook := false
                        relay := { r with deferred := false, move := moving .localPort r.reason } }
                    hpc1 := { s.hpc1 with state := .switching } }))

/-- The house phone on the copper side: loop current of 40 ms makes it active, which holds LIFELINE, ends a held test
with reason LIFELINE and is a wake cause; an absence of 1 s makes it idle unless the exchange rings. Away from COPPER
the events mean nothing. A HUNG_UP notice of the copper side carries no state left, which is the model's choice (log
34). What LTU does when PAC has ended the running test with a reason and freed its claim, the pair not being free for
another test: the result, PARTIAL with a repeat completed and else ABORTED, takes the place of its kind, the entry
leaves the queue, the next entry's claim waits for at most 300 s, and TEST_DONE precedes the fault of the result. With
no next entry a waiting LINK claim is examined again behind these (log 17). -/
def Obligations.CopperSideFollowsPhone : Prop :=
  (∀ s : State, s.alive = true →
     let rests := s.pac.relay.pos = .copper ∧ s.pac.relay.move = none
     (¬rests ∨ s.pac.copperOffHook = true ∨ s.hpc1.loopClosed = false → Does .copperOffhook s s)
       ∧ (¬rests ∨ s.pac.copperOffHook = false ∨ s.hpc1.loopClosed = true → Does .copperOnhook s s)
       ∧ (rests → s.pac.copperOffHook = false → s.hpc1.loopClosed = true →
           let now : State := { s with clock := max s.clock (s.hpc1.loopSince + 40) }
           let u := notice (.portEvent .one .offhook now.uptime true)
             { now with pac := { s.pac with copperOffHook := true } }
           (s.pac.copperActive = true → Does .copperOffhook s u)
             ∧ (s.pac.copperActive = false →
                 let v : State :=
                   { wakeCause .copperSide none u with
                     pac := { u.pac with copperActive := true }
                     hpc1 := { s.hpc1 with state := .copperActive } }
                 Does .copperOffhook s (abortTest .lifeline holdLifeline v)
                   ∧ (s.pac.test.state ≠ .held → s.pac.lifeline.state = .free →
                       abortTest .lifeline holdLifeline v
                         = { v with pac := { v.pac with lifeline := { state := .held, since := now.uptime } } })
                   ∧ (s.pac.test.state = .held → s.pac.lifeline.state = .free →
                       abortTest .lifeline holdLifeline v
                         = cutHead true .lifeline
                             { v with
                               pac :=
                                 { v.pac with
                                   lifeline := { state := .held, since := now.uptime }
                                   test := { state := .free, since := now.uptime }
                                   testInfo := none, releaseAsked := false, waitEnd := none
                                   testRelayClosed := false } })))
       ∧ (rests → s.pac.copperOffHook = true → s.hpc1.loopClosed = false →
           let now : State := { s with clock := max s.clock (s.hpc1.loopSince + 1000) }
           let u := notice (.portEvent .one (.hungUp none) now.uptime true)
             { now with pac := { s.pac with copperOffHook := false } }
           (s.pac.ringSession = true → Does .copperOnhook s u)
             ∧ (s.pac.ringSession = false →
                 Does .copperOnhook s (copperIdles u)
                   ∧ (s.pac.copperActive = true → s.lks.state = .off → s.pac.test.state ≠ .waiting →
                       s.pac.link.state ≠ .waiting → s.pac.relay.deferred = false →
                       copperIdles u
                         = { u with
                             pac :=
                               { u.pac with copperActive := false, lifeline := { state := .free, since := now.uptime } }
                             hpc1 := { s.hpc1 with state := .copperIdle } }))))
    ∧ (∀ (reason : AbortReason) (e : TestEntry) (rest : List TestEntry) (s : State),
         s.ltu.queue = e :: rest → s.pac.test.state = .free → s.pac.link.state ≠ .held → s.testGrantable = false →
           let status := match s.ltu.run with
             | some run => if run.completed = 0 then TestStatus.aborted else TestStatus.partialResult
             | none => TestStatus.aborted
           let r := testResult s.sst.contents.tests e s.ltu.run status (some reason) s.uptime
           let results := s.ltu.results.setIfInBounds e.kind.ctorIdx (some r)
           let done := fun u : State =>
             resultFault r
               (notice (.testDone e.job e.kind e.origin status (some reason) r.completed e.repeats r.worst s.uptime) u)
           (rest = [] →
               cutHead true reason s
                 = reexamine (done { s with ltu := { s.ltu with queue := [], run := none, results := results } }))
             ∧ (∀ next more, rest = next :: more →
                 cutHead true reason s
                   = done
                       { s with
                         ltu :=
                           { s.ltu with
                             queue := { next with phase := .claiming } :: more, run := none, results := results }
                         pac :=
                           { s.pac with
                             test := { state := .waiting, since := s.uptime }
                             testInfo := some { job := next.job, origin := next.origin, disruptive := next.disruptive }
                             waitEnd := some (s.clock + 300000), testRelayClosed := false } }))

/-- Exchange ringing: every burst edge opens the ring-guard window; the first burst begins a session with its notice,
a wake cause; 8 s after the last burst the session ends with its notice. With the relay resting in LOCAL and no test
holding the pair, neither the copper side nor LTU is concerned. What an exchange ringing session does to PAC: with the
relay resting in COPPER it makes the copper side active, which holds LIFELINE, and HPC1 follows; a held test is ended
with reason RINGING wherever the relay is; a moving relay is named in the notice. The end of the session, whose notice
carries position and uptime too (log 34), makes a copper side idle whose phone is on its hook. Here with the link OFF
and no claim waiting at that end. -/
def Obligations.ExchangeRingingSession : Prop :=
  (∀ s : State, s.alive = true →
     (s.pac.ringBurst = true → Does .exchangeBurstStart s s)
       ∧ (s.pac.ringBurst = false → Does .exchangeBurstEnd s s)
       ∧ (s.pac.ringBurst = true →
           Does .exchangeBurstEnd s
             { s with
               pac := { s.pac with ringBurst := false, sessionEnd := some (s.clock + 8000) }
               lks := { s.lks with ringGuard := some (s.clock + 200) } })
       ∧ (s.pac.ringBurst = false →
           let u : State :=
             { s with
               pac := { s.pac with ringBurst := true, sessionEnd := none }
               lks := { s.lks with ringGuard := some (s.clock + 200) } }
           (s.pac.ringSession = true → Does .exchangeBurstStart s u)
             ∧ (s.pac.ringSession = false → s.pac.relay.pos = .localPort → s.pac.relay.move = none →
                 s.pac.test.state ≠ .held →
                 Does .exchangeBurstStart s
                   (wakeCause .exchangeRing none
                     (notice (.exchangeRing true .localPort none s.uptime)
                       { u with pac := { u.pac with ringSession := true } }))))
       ∧ (s.pac.sessionEnd = none → Does .exchangeRingSessionEnd s s)
       ∧ (∀ e, s.pac.sessionEnd = some e → s.pac.relay.pos = .localPort → s.pac.relay.move = none →
           s.pac.test.state ≠ .waiting → s.pac.link.state ≠ .waiting →
           let u : State :=
             { s with clock := max s.clock e, pac := { s.pac with ringSession := false, sessionEnd := none } }
           Does .exchangeRingSessionEnd s (notice (.exchangeRing false .localPort none u.uptime) u)))
    ∧ (∀ s : State, s.alive = true →
         let r := s.pac.relay
         (s.pac.ringBurst = false → s.pac.ringSession = false →
             let begun : State :=
               wakeCause .exchangeRing none
                 (notice (.exchangeRing true r.pos (r.move.map (·.target)) s.uptime)
                   { s with
                     pac := { s.pac with ringBurst := true, sessionEnd := none, ringSession := true }
                     lks := { s.lks with ringGuard := some (s.clock + 200) } })
             let freed := fun u : State =>
               { u with
                 pac :=
                   { u.pac with
                     test := { state := .free, since := s.uptime }
                     testInfo := none, releaseAsked := false, waitEnd := none, testRelayClosed := false } }
             let active : State :=
               { begun with
                 pac :=
                   { begun.pac with copperActive := true, lifeline := { state := .held, since := s.uptime } }
                 hpc1 := { s.hpc1 with state := .copperActive } }
             let rings := r.pos = .copper ∧ r.move = none ∧ s.pac.copperActive = false
             (rings → s.pac.lifeline.state = .free →
                 (s.pac.test.state ≠ .held → Does .exchangeBurstStart s active)
                   ∧ (s.pac.test.state = .held → Does .exchangeBurstStart s (cutHead true .ringing (freed active))))
               ∧ (¬ rings →
                   (s.pac.test.state ≠ .held → Does .exchangeBurstStart s begun)
                     ∧ (s.pac.test.state = .held → Does .exchangeBurstStart s (cutHead true .ringing (freed begun)))))
           ∧ (∀ e, s.pac.sessionEnd = some e →
               let now : State := { s with clock := max s.clock e }
               let u := notice (.exchangeRing false r.pos (r.move.map (·.target)) now.uptime)
                 { now with pac := { s.pac with ringSession := false, sessionEnd := none } }
               let idles := r.pos = .copper ∧ r.move = none ∧ s.pac.copperActive = true ∧ s.pac.copperOffHook = false
               (¬ idles → Does .exchangeRingSessionEnd s (reexamine u))
                 ∧ (idles →
                     Does .exchangeRingSessionEnd s (copperIdles u)
                       ∧ (s.lks.state = .off → s.pac.test.state ≠ .waiting → s.pac.link.state ≠ .waiting → r.deferred = false →
                           copperIdles u
                             = { u with
                                 pac :=
                                   { u.pac with copperActive := false, lifeline := { state := .free, since := now.uptime } }
                                 hpc1 := { s.hpc1 with state := .copperIdle } })
                       ∧ (s.lks.state = .off → s.pac.test.state ≠ .waiting → s.pac.link.state ≠ .waiting → r.deferred = true →
                           copperIdles u
                             = { u with
                                 pac :=
                                   { u.pac with
                                     copperActive := false, lifeline := { state := .free, since := now.uptime }
                                     copperOffHook := false
                                     relay :=
                                       { r with
                                         deferred := false
                                         move := some
                                           { target := .localPort, doneAt := now.clock + 30, reason := r.reason,
                                             carriesOut := true } } }
                                 hpc1 := { s.hpc1 with state := .switching } }))))

/-- A hazard starts a hold of 30 s, ends a held test and the link's claim, and is a CRITICAL fault with the peak
voltage and the relay's position; the fall of the voltage restarts the hold, which does not end before it (the model's
choice, log 37); its end clears the fault and lets waiting claims in, TEST before LINK. The end of the link's claim at
a hazard, whatever the state that holds it: the drop is counted with reason HAZARD, the claim is released without
RELEASING, and the link is OFF where its release led there; else it is WAITING and, with a permitted rung, asks for
the pair again, which it does not get while the hold runs. That a release under way does so at once, with no regard to
the wait it was to be followed by, is the model's choice (log 23). A test that a hazard ends leaves its result,
PARTIAL with a repeat completed and else ABORTED, with reason HAZARD; the next entry of the queue waits for the pair,
as does the link. -/
def Obligations.HazardHold : Prop :=
  (∀ s : State, s.alive = true →
     let held : State :=
       { wakeCause .hazard none s with
         pac := { s.pac with hazardHigh := true, hazardEnd := some (s.clock + 30000) } }
     (∀ peak, s.pac.test.state ≠ .held →
         let pos := if s.pac.relay.pos = .copper then 0 else 1
         let t := if s.pac.link.state = .held then linkHazard held else held
         Does (.hazard peak) s (report .hazardVoltage .pac .critical [d32 peak, d32 pos] t))
       ∧ (∀ peak, s.pac.test.state = .held →
           let pos := if s.pac.relay.pos = .copper then 0 else 1
           let freed : State :=
             { held with
               pac :=
                 { held.pac with
                   test := { state := .free, since := s.uptime }
                   testInfo := none, releaseAsked := false, waitEnd := none, testRelayClosed := false } }
           let t := cutHead true .hazard freed
           Does (.hazard peak) s
             (report .hazardVoltage .pac .critical [d32 peak, d32 pos]
               (if t.pac.link.state = .held then linkHazard t else t)))
       ∧ (s.pac.hazardHigh = false → Does .hazardVoltageFall s s)
       ∧ (s.pac.hazardHigh = true →
           Does .hazardVoltageFall s
             { s with pac := { s.pac with hazardHigh := false, hazardEnd := some (s.clock + 30000) } })
       ∧ (s.pac.hazardEnd = none ∨ s.pac.hazardHigh = true → Does .hazardHoldEnd s s)
       ∧ (∀ e, s.pac.hazardEnd = some e → s.pac.hazardHigh = false →
           let now : State := { s with clock := max s.clock e }
           let u := clearFault .hazardVoltage .pac { now with pac := { s.pac with hazardEnd := none } }
           let testMay := s.pac.link.state ≠ .held ∧ s.pac.lifeline.state = .free ∧ s.pac.ringSession = false
           Does .hazardHoldEnd s (reexamine u)
             ∧ (s.pac.test.state = .waiting → testMay →
                 reexamine u
                   = { u with
                       pac :=
                         { u.pac with
                           test := { state := .held, since := now.uptime }
                           releaseAsked := false, waitEnd := none, testRelayClosed := true }
                       ltu :=
                         match s.ltu.queue with
                         | [] => s.ltu
                         | x :: xs =>
                           { s.ltu with
                             queue := { x with phase := .settle } :: xs
                             run := some (TestRun.start x.kind (now.clock + 50)) } })
             ∧ (s.pac.test.state = .waiting → ¬ testMay → reexamine u = u)
             ∧ (s.pac.test.state = .free → s.pac.link.state = .waiting →
                 reexamine u
                   = linkNotice s.lks.state .other
                       { u with
                         pac := { u.pac with link := { state := .held, since := now.uptime } }
                         lks :=
                           { s.lks with
                             state := .greeting, wait := none, greetingEnd := some (now.clock + 20000) } })
             ∧ (s.pac.test.state ≠ .waiting → s.pac.link.state ≠ .waiting → reexamine u = u)))
    ∧ (∀ s : State, s.pac.link.state = .held → s.pac.hazardEnd ≠ none → s.pac.test.state ≠ .held →
         s.lks.state ≠ .off → s.lks.state ≠ .waiting →
           let t := linkHazard s
           let ladder := s.sst.contents.link.ladder
           let rung := if (rungIn ladder s.lks.rung).isSome then s.lks.rung else floorOf ladder
           (t.lks.lastDrop = some .hazard
               ∧ t.lks.drops = s.lks.drops.setIfInBounds 6 (min ((s.lks.drops[6]?).getD 0 + 1) 65535)
               ∧ t.lks.greetingEnd = none ∧ t.lks.trainingEnd = none ∧ t.lks.releasingEnd = none)
             ∧ (s.lks.state = .releasing → s.lks.dest = some .off →
                 t.lks.state = .off ∧ t.pac = { s.pac with link := { state := .free, since := s.uptime } })
             ∧ (s.lks.state ≠ .releasing ∨ s.lks.dest ≠ some .off →
                 let absence := fun p : Pac =>
                   if s.lks.state = .carrying then { p with absenceFrom := some s.clock, absenceTaken := false } else p
                 t.lks.state = .waiting
                   ∧ (permittedFrom s.psv.stage ladder rung = none →
                       t.lks.wait = some .noPermittedRung
                         ∧ t.pac = absence { s.pac with link := { state := .free, since := s.uptime } })
                   ∧ (∀ r, permittedFrom s.psv.stage ladder rung = some r →
                       t.lks.wait = some .pair ∧ t.lks.rung = r
                         ∧ t.pac = absence { s.pac with link := { state := .waiting, since := s.uptime } }))
             ∧ (s.lks.state = .carrying →
                 t.lks.payload.up = [] ∧ t.lks.payload.down = [] ∧ t.lks.interval = none ∧ t.lks.carryingSince = none
                   ∧ t.mcr.flight = none ∧ t.mcr.loopback = none))
    ∧ (∀ (e : TestEntry) (rest : List TestEntry) (s : State),
         s.ltu.queue = e :: rest → s.pac.test.state = .free → s.pac.link.state ≠ .held → s.pac.hazardEnd ≠ none →
           let t := cutHead true .hazard s
           let status := match s.ltu.run with
             | some run => if run.completed = 0 then TestStatus.aborted else TestStatus.partialResult
             | none => TestStatus.aborted
           (t.ltu.results
                 = s.ltu.results.setIfInBounds e.kind.ctorIdx
                     (some (testResult s.sst.contents.tests e s.ltu.run status (some .hazard) s.uptime))
               ∧ t.ltu.run = none ∧ t.pac.link = s.pac.link ∧ t.lks = s.lks)
             ∧ (rest = [] → t.ltu.queue = [] ∧ t.pac = s.pac)
             ∧ (∀ next more, rest = next :: more →
                 t.ltu.queue = { next with phase := .claiming } :: more
                   ∧ t.pac =
                       { s.pac with
                         test := { state := .waiting, since := s.uptime }
                         testInfo := some { job := next.job, origin := next.origin, disruptive := next.disruptive }
                         waitEnd := some (s.clock + 300000), testRelayClosed := false }))

/-- The wait of a TEST claim ends after 300 s with status PAIR_UNAVAILABLE; a relay move ends where it was going: in
COPPER the port is idle for an instant, in which a step-up that is due drops the link, ahead of the rest (log 35);
then a ringing session makes the copper side active at once, which holds LIFELINE, and without one a relay that came
there on account of the link returns where the link carries; the link-absence time is evaluated once, and
auto-lifeline takes a relay resting in LOCAL to COPPER while port 1 is IDLE or DISABLED and the link is not CARRYING. -/
def Obligations.PairTimers : Prop :=
  ∀ s : State, s.alive = true →
    (s.pac.waitEnd = none → Does .pairWaitLimit s s)
      ∧ (∀ e x xs, s.pac.waitEnd = some e → s.ltu.queue = x :: xs →
          Does .pairWaitLimit s
            (finishTest true true x .pairUnavailable none (freeTest { s with clock := max s.clock e })))
      ∧ (s.pac.relay.move = none → Does .relayMoveComplete s s)
      ∧ (∀ m, s.pac.relay.move = some m → m.target = .copper →
          let now := max s.clock m.doneAt
          let p : Pac :=
            { s.pac with
              copperOffHook := false, relay := { s.pac.relay with pos := .copper, move := none, reason := m.reason } }
          let u := notice (.lifelinePosition .copper m.reason none)
            { s with clock := now, pac := p, hpc1 := { s.hpc1 with state := .copperIdle, loopSince := now } }
          let returns := s.lks.state = .carrying ∧ m.reason = .linkDown ∧ s.pac.copperActive = false
            ∧ s.psv.stage ≠ .lifeline ∧ s.mpt.autonomous = false
          (s.pac.ringSession = false → u.stepUpDue = none →
              (¬returns → Does .relayMoveComplete s u)
                ∧ (returns →
                    Does .relayMoveComplete s
                      { u with
                        pac :=
                          { p with
                            relay :=
                              { p.relay with
                                deferred := false
                                move := some
                                  { target := .localPort, doneAt := now + 30, reason := .linkDown
                                    carriesOut := false } } }
                        hpc1 := { u.hpc1 with state := .switching } }))
            ∧ (s.pac.ringSession = true → u.stepUpDue = none → s.pac.copperActive = false → s.pac.test.state ≠ .held →
                Does .relayMoveComplete s
                  { u with
                    pac :=
                      { p with
                        copperActive := true
                        lifeline :=
                          if s.pac.lifeline.state = .held then s.pac.lifeline
                          else { state := .held, since := u.uptime } }
                    hpc1 := { u.hpc1 with state := .copperActive } })
            ∧ (∀ target, u.stepUpDue = some target →
                let dropped := dropOrderly .stepTrial .waiting none
                  { u with
                    lks :=
                      { u.lks with
                        trial := some { former := u.lks.rung, target := target, watchEnd := none }, rung := target } }
                (s.pac.ringSession = false → Does .relayMoveComplete s (tryReturnLocal dropped))
                  ∧ (s.pac.ringSession = true → Does .relayMoveComplete s (copperActivates .ringing dropped))))
      ∧ (∀ m, s.pac.relay.move = some m → m.target = .localPort →
          let now := max s.clock m.doneAt
          Does .relayMoveComplete s
            (enterIdle .one
              (notice (.lifelinePosition .localPort s.pac.relay.reason (if m.carriesOut then some .carriedOut else none))
                { s with
                  clock := now
                  pac :=
                    { s.pac with
                      relay := { s.pac.relay with pos := .localPort, move := none }
                      absenceFrom := if s.lks.state = .carrying then none else some now
                      absenceTaken := false } })))
      ∧ (s.pac.absenceFrom = none ∨ s.pac.absenceTaken = true → Does .linkAbsenceExpiry s s)
      ∧ (∀ e, s.pac.absenceFrom = some e → s.pac.absenceTaken = false →
          let now := max s.clock (e + 60000)
          let u : State := { s with clock := now, pac := { s.pac with absenceTaken := true } }
          let due := s.sst.contents.control.autoLifeline = true ∧ s.pac.relay.pos = .localPort
            ∧ s.pac.relay.move = none ∧ s.lks.state ≠ .carrying ∧ (s.hpc1.state = .idle ∨ s.hpc1.state = .disabled)
          (¬due → Does .linkAbsenceExpiry s u)
            ∧ (due →
                Does .linkAbsenceExpiry s
                  { u with
                    pac :=
                      { u.pac with
                        relay :=
                          { s.pac.relay with
                            move := some
                              { target := .copper, doneAt := now + 30, reason := .linkDown, carriesOut := false } } }
                    hpc1 := s.hpc1.toSwitching }))

/-! ## Handset ports (04) -/

/-- PORT_ENABLE and PORT_DISABLE by the state of the port. HPC1 in a relay-driven state refuses both. Entry to IDLE: a
program is stopped with its burst or wait, the port takes its settings, its timers and markers are cleared and its
voice path is closed; an off-hook held for the end of the wake delay stays held, except where the debouncer starts,
from DISABLED, FAULT and SWITCHING; from FAULT the line faults are CLEARED; HPC2 is shed to DISABLED in CONSERVE and
LIFELINE stage. `told` stands for the port's own notice of the entry. A port's report of a new state: the end of its
call lets a waiting retrain or power drop be made where no port is CONNECTED any more, either one where both wait (a
free value, log 10), then a disruptive test ask for the pair's release; a port that has entered IDLE, DISABLED or
COPPER_IDLE lets a step-up be checked; port 1 lets auto-lifeline move the relay. That order is the model's choice (log
35). -/
def Obligations.PortEnableDisableAndIdle : Prop :=
  (∀ (p : PortId) (tag : Byte) (rest : List Byte) (s : State), s.ready →
     let args := BitVec.ofNat 8 (portNumber p) :: rest
     let en := Answers (.portEnable tag args) tag 0x30 s
     let dis := Answers (.portDisable tag args) tag 0x31 s
     let q := s.port p
     let shed := p = .two ∧ (s.psv.stage = .conserve ∨ s.psv.stage = .lifeline)
     (q.state = .disabled → shed → en (Answer.refuse .powerLimit) s.heard)
       ∧ (q.state = .disabled → ¬shed → en Answer.ok (enterIdle p s.heard))
       ∧ (q.state = .fault → q.latched = true → q.wiringBad = false → en Answer.ok (enterIdle p s.heard))
       ∧ (q.state = .fault → q.latched = false ∨ q.wiringBad = true → en (Answer.refuse .wrongState) s.heard)
       ∧ (q.state.isLocal = true → q.state ≠ .disabled → q.state ≠ .fault → en Answer.ok s.heard)
       ∧ (q.state.isLocal = false →
           en (Answer.refuse .wrongState) s.heard ∧ dis (Answer.refuse .wrongState) s.heard)
       ∧ (q.state = .disabled →
           dis Answer.ok (s.heard.onPort p fun q => { q with cause := some .request }))
       ∧ (q.state.isLocal = true → q.state ≠ .disabled →
           dis Answer.ok (enterDisabled .request p s.heard)
             ∧ ((s.seq p).run = none → q.state ≠ .fault →
                 enterDisabled .request p s.heard
                   = portChanged p q.state
                       (s.heard.onPort p fun q =>
                         { q with
                           state := .disabled, cause := some .request, fault := none, latched := false, offHook := false,
                           pulse := none, dialMarker := false, autoMarker := false, receiverEnd := none,
                           howlerEnd := none, retryEnd := none, retryOut := false, wiringBad := false,
                           heldOffHook := false, voice := q.voice.close }))))
    ∧ (∀ (p : PortId) (told : State → State) (s : State),
         let q := s.port p
         let shed := p = .two ∧ (s.psv.stage = .conserve ∨ s.psv.stage = .lifeline)
         let fresh := q.state = .disabled ∨ q.state = .fault ∨ q.state = .switching
         let idle := told ((stopSeq (some .port) p s).onPort p fun q =>
           { q with
             state := .idle, cause := none, fault := none, latched := false
             offHook := if fresh then false else q.heldOffHook
             heldOffHook := if fresh then false else q.heldOffHook
             pulse := none, dialMarker := false, autoMarker := false, receiverEnd := none, howlerEnd := none, retryEnd := none,
             retryOut := false
             loopSince := if fresh then s.clock else q.loopSince
             wiringBad := if fresh then false else q.wiringBad
             copy := some (match p with | .one => s.sst.contents.ports.one | .two => s.sst.contents.ports.two)
             voice := q.voice.close })
         let clear := if q.state = .fault then
             clearFault .portWiringLatched (portSource p) (clearFault .portWiringFault (portSource p) idle)
           else idle
         idle.psv.stage = s.psv.stage →
           enterIdleWith (some .port) false told p s
               = portChanged p q.state
                   (if shed then clear.onPort p fun q => { q with state := .disabled, cause := some .power } else clear)
             ∧ enterIdle p s = enterIdleWith (some .port) false id p s)
    ∧ ((∀ (p : PortId) (old : PortState) (s : State),
           let new := (s.port p).state
           let called := if old = .connected then askRelease (callsEnded s) else s
           let looked := if new = .idle ∨ new = .disabled ∨ new = .copperIdle then stepUpCheck called else called
           (new = old → portChanged p old s = s)
             ∧ (new ≠ old → p = .two → portChanged p old s = looked)
             ∧ (new ≠ old → p = .one → portChanged p old s = autoLifeline looked))
         ∧ (∀ s : State,
             let call := s.hpc1.state = .connected ∨ s.hpc2.state = .connected
             let retrain := s.lks.retrainEnd ≠ none
             let power := s.lks.powerDropEnd ≠ none
             let powerDropped := fun u : State => dropOrderly .power .waiting none { u with lks := { u.lks with trial := none } }
             let drawn : State := { s with free := s.free + 1 }
             (call → callsEnded s = s)
               ∧ (¬call → ¬retrain → ¬power → callsEnded s = s)
               ∧ (¬call → retrain → ¬power → callsEnded s = qualityDrop s)
               ∧ (¬call → ¬retrain → power → callsEnded s = powerDropped s)
               ∧ (¬call → retrain → power → callsEnded s = qualityDrop drawn ∨ callsEnded s = powerDropped drawn))
         ∧ (∀ s : State,
             let due := s.sst.contents.control.autoLifeline = true ∧ s.pac.relay.pos = .localPort ∧ s.pac.relay.move = none
               ∧ s.lks.state ≠ .carrying ∧ (∃ t, s.pac.absenceFrom = some t ∧ t + 60000 ≤ s.clock)
               ∧ (s.hpc1.state = .idle ∨ s.hpc1.state = .disabled)
             (¬due → autoLifeline s = s)
               ∧ (due →
                   autoLifeline s
                     = { s with
                         pac :=
                           { s.pac with
                             relay :=
                               { s.pac.relay with
                                 move := some
                                   { target := .copper, doneAt := s.clock + 30, reason := .linkDown, carriesOut := false } } }
                         hpc1 := s.hpc1.toSwitching })))

/-- PORT_RING, PORT_CONNECT and PORT_RELEASE by the state of the port. PORT_RING is refused OFF_HOOK while loop
current flows that is not yet recognised as off-hook; where the off-hook time is out and the off-hook not taken yet,
or held over a wake, PORT_RING goes first and the off-hook is the ring trip (R78, log 39). A digit in progress at
PORT_CONNECT is counted as abandoned (log 36). -/
def Obligations.PortRingConnectRelease : Prop :=
  ∀ (p : PortId) (tag n : Byte) (rest : List Byte) (s : State), s.ready →
    let args := BitVec.ofNat 8 (portNumber p) :: rest
    let ring := Answers (.portRing tag (BitVec.ofNat 8 (portNumber p) :: n :: rest)) tag 0x32 s
    let connect := Answers (.portConnect tag args) tag 0x33 s
    let release := Answers (.portRelease tag args) tag 0x34 s
    let q := s.port p
    let now := s.clock
    let underWay := q.loopClosed = true ∧ q.offHook = false ∧ now < q.loopSince + q.settings.offHookMs
    (16 ≤ n.toNat → ring (Answer.refuse .badArgument) s.heard)
      ∧ (n.toNat ≤ 15 →
          (q.state ≠ .idle → ring (Answer.refuse .wrongState) s.heard)
            ∧ (q.state = .idle → underWay → ring (Answer.refuse .offHook) s.heard)
            ∧ (q.state = .idle → ¬underWay →
                ring Answer.ok (startProgram p n.toNat (s.heard.onPort p fun q => { q with state := .ringing }))))
      ∧ (q.state = .connected → connect Answer.ok s.heard)
      ∧ (q.state ≠ .offhook → q.state ≠ .connected → connect (Answer.refuse .wrongState) s.heard)
      ∧ (q.state = .offhook →
          connect Answer.ok ((stopSeq (some .port) p s.heard).onPort p (Port.toConnected now)))
      ∧ (q.state = .offhook → (s.seq p).run = none → q.pulse = none →
          connect Answer.ok
            (s.heard.onPort p fun q =>
              { q with
                state := .connected, dialMarker := false, receiverEnd := none
                voice :=
                  { q.voice with
                    state := .prefill, queue := [], base := none, position := none, last := none, fills := 0,
                    underruns := 0, slot := .nothing, tickAt := some (now + 10), captureSeq := 0 } }))
      ∧ (q.state = .offhook →
          release Answer.ok
            ((startTone p q.settings.releaseTone s.heard).onPort p fun q => { q with receiverEnd := some (now + 20000) }))
      ∧ (q.state = .connected →
          release Answer.ok
            (portChanged p .connected
              (startTone p q.settings.releaseTone
                (s.heard.onPort p fun q =>
                  { q with
                    state := .offhook, pulse := none, receiverEnd := some (now + 20000), howlerEnd := none
                    voice := q.voice.close }))))
      ∧ (q.state = .ringing → release Answer.ok (enterIdle p s.heard))
      ∧ (q.state ≠ .offhook → q.state ≠ .connected → q.state ≠ .ringing →
          release (Answer.refuse .wrongState) s.heard)

/-- The hook: the loop's level is followed; current that has flowed for the off-hook time of the port's settings since
the loop closed, or since the debouncer started, is recognised as off-hook. In IDLE that brings OFFHOOK with its
notice, the receiver-off-hook timer and the dial tone, or the autonomous tone, and is a wake cause; in QUIESCENT it is
held; in RINGING it is the ring trip, which stops the ring program. The off-hook held for the end of the wake delay is
taken then: in IDLE as any other, and as the ring trip where a kept PORT_RING has taken the port to RINGING. Breaks:
one that reaches the hang-up time of the port's settings takes OFFHOOK, CONNECTED, HOWLER and LOCKOUT to IDLE at that
moment, with HUNG_UP and the state left; a shorter one is classed by its length as the current returns. Where no break
is under way as BREAK_END comes, it lies behind, and with the hook reading ON_HOOK or without feed it only closes the
loop (log 39). Pulse digits in OFFHOOK: a dial pulse begins a digit with a count of 1 or raises the count, to at most
11, and the inter-digit time runs from its end; it restarts the receiver-off-hook timer (each pulse does, log 31) and
stops the dial tone. At its end the digit is taken by its count. -/
def Obligations.HookEvents : Prop :=
  (∀ (p : PortId) (s : State),
     let q := s.port p
     (∀ present, Does (.loopCurrentChange p present) s
         (if q.loopClosed = present then s
           else s.onPort p fun q => { q with loopClosed := present, loopSince := s.clock }))
       ∧ (s.alive = true → q.state.fed = false ∨ q.loopClosed = false ∨ q.offHook = true →
           Does (.offhookRecognised p) s s)
       ∧ (s.alive = true → q.state.fed = true → q.loopClosed = true → q.offHook = false →
           let now : State := { s with clock := max s.clock (q.loopSince + q.settings.offHookMs) }
           let seen := now.onPort p fun q => { q with offHook := true }
           let offhook := fun q : Port =>
             { q with
               state := .offhook, pulse := none, receiverEnd := some (now.clock + 20000), howlerEnd := none
               voice := q.voice.close }
           (q.state = .idle → s.psv.mode = .active →
               let u := notice (.portEvent p .offhook now.uptime false)
                 { seen.onPort p (fun q => { offhook q with heldOffHook := false }) with
                   psv := { s.psv with sleepGranted := false } }
               Does (.offhookRecognised p) s (if s.mpt.autonomous then startAutoTone p u else startDialTone p u))
             ∧ (q.state = .idle → s.psv.mode = .quiescent →
                 Does (.offhookRecognised p) s
                   ((wakeCause .offHook (some p) seen).onPort p fun q => { q with heldOffHook := true }))
             ∧ (q.state = .ringing →
                 let u := notice (.portEvent p .answered now.uptime false)
                   ((stopSeq (some .port) p seen).onPort p offhook)
                 Does (.offhookRecognised p) s (if s.mpt.autonomous then startAutoTone p u else u))
             ∧ (q.state ≠ .idle → q.state ≠ .ringing → Does (.offhookRecognised p) s seen)))
    ∧ (∀ (p : PortId) (s : State), s.psv.mode = .active →
         let q := s.port p
         let now := s.clock
         let offhook := fun q : Port =>
           { q with
             state := .offhook, heldOffHook := false, pulse := none, receiverEnd := some (now + 20000), howlerEnd := none
             voice := q.voice.close }
         (q.heldOffHook = false → takeHeldOffHook p s = s)
           ∧ (q.heldOffHook = true → q.state = .idle →
               let u := notice (.portEvent p .offhook s.uptime false)
                 { s.onPort p offhook with psv := { s.psv with sleepGranted := false } }
               takeHeldOffHook p s = if s.mpt.autonomous then startAutoTone p u else startDialTone p u)
           ∧ (q.heldOffHook = true → q.state = .ringing →
               let u := notice (.portEvent p .answered s.uptime false)
                 ((stopSeq (some .port) p (s.onPort p fun q => { q with heldOffHook := false })).onPort p offhook)
               takeHeldOffHook p s = if s.mpt.autonomous then startAutoTone p u else u))
    ∧ (∀ (p : PortId) (s : State), s.alive = true →
         let q := s.port p
         let c := q.settings
         let at_ := fun (ms : Nat) (t : State) => if q.loopClosed then t else { t with clock := max t.clock (q.loopSince + ms) }
         let close := fun t : State => t.onPort p fun q => { q with loopClosed := true, loopSince := t.clock }
         let hungUp := fun t : State => enterIdleWith (some .port) false (portEvent p (.hungUp (some q.state))) p t
         (q.state.hangsUp = false ∨ q.offHook = false ∨ q.loopClosed = true → Does (.hangUp p) s s)
           ∧ (q.state.hangsUp = true → q.offHook = true → q.loopClosed = false → Does (.hangUp p) s (hungUp (at_ c.hangUpMs s)))
           ∧ (∀ st : PortState,
               st.hangsUp = true ↔ st = .offhook ∨ st = .connected ∨ st = .howler ∨ st = .lockout)
           ∧ (∀ ms, q.state.fed = false ∨ q.offHook = false → Does (.breakEnd p ms) s (close s))
           ∧ (∀ ms, q.state.fed = true → q.offHook = true →
               let back := close (at_ ms s)
               let long := c.glitchMs ≤ ms ∧ c.pulseMs < ms ∧ c.flashMs ≤ ms
               (long → c.hangUpMs ≤ ms → q.state.hangsUp = true →
                   Does (.breakEnd p ms) s (close (at_ ms (hungUp (at_ c.hangUpMs s)))))
                 ∧ (q.state ≠ .offhook → q.state ≠ .connected → q.state.hangsUp = false ∨ ms < c.hangUpMs →
                     Does (.breakEnd p ms) s back)
                 ∧ (q.state = .connected → ms < c.hangUpMs → ¬ long → Does (.breakEnd p ms) s back)
                 ∧ (q.state = .offhook →
                     (ms < c.glitchMs → (∀ d, q.pulse = some d → d.endWaits = false) → Does (.breakEnd p ms) s back)
                       ∧ (∀ d, ms < c.glitchMs → q.pulse = some d → d.endWaits = true →
                           Does (.breakEnd p ms) s (pulseDigitEnds d.count p back))
                       ∧ (c.glitchMs ≤ ms → ms ≤ c.pulseMs → Does (.breakEnd p ms) s (dialPulse p back))
                       ∧ (c.glitchMs ≤ ms → c.pulseMs < ms → ms < c.flashMs →
                           (q.pulse = none → Does (.breakEnd p ms) s back)
                             ∧ (q.pulse ≠ none →
                                 Does (.breakEnd p ms) s
                                   (back.onPort p fun q =>
                                     { q with
                                       pulse := none
                                       counts := { q.counts with abandoned := min (q.counts.abandoned + 1) 65535 } }))))
                 ∧ (q.state = .offhook ∨ q.state = .connected → long → ms < c.hangUpMs →
                     Does (.breakEnd p ms) s
                       (notice (.portEvent p (.flash q.state) back.uptime false)
                         (back.onPort p fun q =>
                           { q with
                             pulse := none
                             counts :=
                               { q.counts with
                                 abandoned :=
                                   if q.pulse = none then q.counts.abandoned else min (q.counts.abandoned + 1) 65535
                                 flashes := min (q.counts.flashes + 1) 65535 } })))))
    ∧ (∀ (p : PortId) (s : State),
         let q := s.port p
         (q.state = .offhook →
             let u := s.onPort p fun q =>
               { q with
                 pulse := some
                   { count := min ((match q.pulse with | some d => d.count | none => 0) + 1) 11
                     endAt := s.clock + q.settings.interDigitMs, endWaits := false }
                 receiverEnd := some (s.clock + 20000) }
             dialPulse p s = if q.dialMarker then stopSeq (some .port) p u else u)
           ∧ (∀ n, n ≤ 10 →
               pulseDigitEnds n p s
                 = collectDigit (Fin.ofNat 16 (n % 10)) .pulse p (s.onPort p fun q => { q with pulse := none }))
           ∧ (∀ n, 11 ≤ n →
               pulseDigitEnds n p s
                 = s.onPort p fun q =>
                     { q with pulse := none, counts := { q.counts with invalid := min (q.counts.invalid + 1) 65535 } }))

/-- Digits: the end of the inter-digit time ends a pulse digit, ten pulses standing for 0 and more being invalid; a
tone digit is recognised with full feed where none sounds and the pause before it was 40 ms, and collected in OFFHOOK;
a collected digit enters the buffer of 32, the first with its notice, or is lost and reported; in OFFHOOK it restarts
the receiver-off-hook timer and stops the dial tone. PORT_DIGITS_READ takes up to 32 digits off the buffer, oldest
first, and clears DIGITS_LOST when it held one. -/
def Obligations.DigitsCollectedAndRead : Prop :=
  (∀ (p : PortId) (s : State), s.alive = true →
     let q := s.port p
     (q.pulse = none → Does (.pulseDigitEnd p) s s)
       ∧ (∀ d, q.pulse = some d → d.endWaits = false →
           let u : State := { s with clock := max s.clock d.endAt }
           (q.offHook = true → q.loopClosed = false →
               Does (.pulseDigitEnd p) s (u.onPort p fun q => { q with pulse := some { d with endWaits := true } }))
             ∧ (q.offHook = false ∨ q.loopClosed = true →
                 (d.count ≤ 10 →
                     Does (.pulseDigitEnd p) s
                       (collectDigit (Fin.ofNat 16 (d.count % 10)) .pulse p (u.onPort p fun q => { q with pulse := none })))
                   ∧ (11 ≤ d.count →
                       Does (.pulseDigitEnd p) s
                         (u.onPort p fun q =>
                           { q with
                             pulse := none
                             counts := { q.counts with invalid := min (q.counts.invalid + 1) 65535 } }))))
       ∧ (∀ digit gap, s.psv.mode = .quiescent ∨ q.state.feed ≠ .full ∨ q.tone ≠ none ∨ (q.toneEnd ≠ none ∧ gap < 40) →
           Does (.toneDigit p digit gap) s s)
       ∧ (∀ digit gap, s.psv.mode = .active → q.state.feed = .full → q.tone = none → q.toneEnd = none ∨ 40 ≤ gap →
           let u := s.onPort p fun q => { q with tone := some digit }
           (q.state = .offhook → Does (.toneDigit p digit gap) s (collectDigit digit .tone p u))
             ∧ (q.state ≠ .offhook → q.state ≠ .connected → Does (.toneDigit p digit gap) s u)
             ∧ (q.state = .connected → q.settings.tonesInCall = false → Does (.toneDigit p digit gap) s u)
             ∧ (q.state = .connected → q.settings.tonesInCall = true →
                 Does (.toneDigit p digit gap) s (collectDigit digit .tone p u)))
       ∧ (q.tone = none → Does (.toneDigitEnd p) s s)
       ∧ (q.tone ≠ none →
           Does (.toneDigitEnd p) s (s.onPort p fun q => { q with tone := none, toneEnd := some s.clock }))
       ∧ (∀ (digit : Fin 16) (method : DigitMethod) (u : State),
           let v := u.port p
           let record : DigitRecord := { digit := digit, method := method, uptime := u.uptime }
           let restart := fun (t : State) =>
             if v.state = .offhook then
               let w := t.onPort p fun q => { q with receiverEnd := some (u.clock + 20000) }
               if v.dialMarker then stopSeq (some .port) p w else w
             else t
           (v.digits.length < 32 →
               let stored := u.onPort p fun q =>
                 { q with
                   digits := q.digits ++ [record]
                   counts := { q.counts with stored := min (q.counts.stored + 1) 65535 } }
               collectDigit digit method p u
                 = restart (if v.digits = [] then notice (.portEvent p .digitsPending u.uptime false) stored else stored))
             ∧ (32 ≤ v.digits.length →
                 let lost := min (v.counts.overflow + 1) 65535
                 collectDigit digit method p u
                   = restart
                       (report .digitsLost (portSource p) .info [d32 lost]
                         (u.onPort p fun q => { q with counts := { q.counts with overflow := lost } })))))
    ∧ (∀ (p : PortId) (tag n : Byte) (rest : List Byte) (s : State), s.ready →
         let ans := Answers (.portDigitsRead tag (BitVec.ofNat 8 (portNumber p) :: n :: rest)) tag 0x36 s
         let all := (s.port p).digits
         let left := all.drop n.toNat
         let t := s.heard.onPort p fun q => { q with digits := left }
         let data := Answer.with .ok (listOf DigitRecord.encode (all.take n.toNat) ++ u8 left.length)
         (n.toNat = 0 ∨ 33 ≤ n.toNat → ans (Answer.refuse .badArgument) s.heard)
           ∧ (1 ≤ n.toNat → n.toNat ≤ 32 → all = [] → ans data t)
           ∧ (1 ≤ n.toNat → n.toNat ≤ 32 → all ≠ [] → ans data (clearFault .digitsLost (portSource p) t)))

/-- A phone left off its hook: HOWLER with its tone after 20 s in OFFHOOK, LOCKOUT in silence after 60 s of it; each
stops the program that runs. -/
def Obligations.HowlerAndLockout : Prop :=
  ∀ (p : PortId) (s : State), s.alive = true →
    let q := s.port p
    (q.receiverEnd = none ∨ q.state ≠ .offhook → Does (.receiverOffHookTimeout p) s s)
      ∧ (∀ e, q.state = .offhook → q.receiverEnd = some e →
          let now : State := { s with clock := max s.clock e }
          let u := (stopSeq (some .port) p now).onPort p fun q =>
            { q with
              state := .howler, pulse := none, dialMarker := false, receiverEnd := none
              howlerEnd := some (now.clock + 60000) }
          Does (.receiverOffHookTimeout p) s
            (if (s.program q.settings.howlerTone).rings then u else startProgram p q.settings.howlerTone u))
      ∧ (q.howlerEnd = none ∨ q.state ≠ .howler → Does (.howlerTimeout p) s s)
      ∧ (∀ e, q.state = .howler → q.howlerEnd = some e →
          Does (.howlerTimeout p) s
            ((stopSeq (some .port) p { s with clock := max s.clock e }).onPort p fun q =>
              { q with state := .lockout, howlerEnd := none }))

/-- Line faults: a fault takes a fed port to FAULT for a retry of 10 s, the third within 300 s latches it; the port
leaves FAULT for IDLE once the retry is out and the fault gone; the history forgets after 300 s. A foreign voltage
during the port's own ring burst is not judged, and in QUIESCENT the line sense is stopped. A program that runs is
stopped with its burst. -/
def Obligations.LineFaults : Prop :=
  ∀ (p : PortId) (s : State), s.alive = true →
    let q := s.port p
    let now := s.clock
    (∀ kind, s.psv.mode = .quiescent ∨ (kind = .foreignVoltage ∧ s.rsc.bursting p = true)
          ∨ (q.state.fed = false ∧ q.state ≠ .fault) →
        Does (.lineFault p kind) s s)
      ∧ (∀ kind, s.psv.mode = .active → (kind = .overcurrent ∨ s.rsc.bursting p = false) → q.state.fed = true →
          let history := q.history.filter (fun t => now ≤ t + 300000) ++ [now]
          let latched := 3 ≤ history.length
          let u := report .portWiringFault (portSource p) .minor [d32 kind.ctorIdx, d32 q.state.ctorIdx]
            ((stopSeq (some .port) p s).onPort p fun q =>
              { q with
                state := .fault, fault := some kind, latched := latched, offHook := false, pulse := none,
                dialMarker := false, autoMarker := false, receiverEnd := none, howlerEnd := none,
                retryEnd := if latched then none else some (now + 10000), retryOut := false, wiringBad := true,
                heldOffHook := false, history := if latched then [] else history,
                counts := { q.counts with faults := min (q.counts.faults + 1) 65535 }, voice := q.voice.close })
          Does (.lineFault p kind) s
            (portChanged p q.state
              (if latched then
                notice (.portEvent p (.faultLatched kind) s.uptime false)
                  (report .portWiringLatched (portSource p) .major [d32 kind.ctorIdx] u)
              else notice (.portEvent p (.faultEntered kind) s.uptime false) u)))
      ∧ (∀ kind, s.psv.mode = .active → (kind = .overcurrent ∨ s.rsc.bursting p = false) → q.state = .fault →
          Does (.lineFault p kind) s (s.onPort p fun q => { q with wiringBad := true }))
      ∧ (q.state ≠ .fault ∨ s.psv.mode = .quiescent → Does (.lineFaultGone p) s s)
      ∧ (s.psv.mode = .active → q.state = .fault → q.retryOut = false ∨ q.latched = true →
          Does (.lineFaultGone p) s (s.onPort p fun q => { q with wiringBad := false }))
      ∧ (∀ kind, s.psv.mode = .active → q.state = .fault → q.fault = some kind → q.retryOut = true → q.latched = false →
          Does (.lineFaultGone p) s
            (enterIdleWith (some .port) false (portEvent p (.faultRecovered kind)) p
              (s.onPort p fun q => { q with wiringBad := false })))
      ∧ (q.retryEnd = none → Does (.faultRetryTimeout p) s s)
      ∧ (∀ e, q.retryEnd = some e →
          let u := ({ s with clock := max s.clock e } : State).onPort p fun q =>
            { q with retryEnd := none, retryOut := true }
          (q.wiringBad = true → Does (.faultRetryTimeout p) s u)
            ∧ (∀ kind, q.state = .fault → q.fault = some kind → q.wiringBad = false → q.latched = false →
                Does (.faultRetryTimeout p) s
                  (enterIdleWith (some .port) false (portEvent p (.faultRecovered kind)) p u)))
      ∧ (q.history = [] → Does (.portFaultHistoryExpiry p) s s)
      ∧ (∀ t ts, q.history = t :: ts →
          Does (.portFaultHistoryExpiry p) s
            (({ s with clock := max s.clock (t + 300000) } : State).onPort p fun q => { q with history := ts }))

/-! ## Sequencers and ring supply (05) -/

/-- PORT_TONE: its checks in order, then by the state of the sequencer the program starts, is refused with BUSY, or
becomes the pending program. SEQ_PAUSE, SEQ_RESUME and SEQ_STOP by the state of the sequencer; a stop frees the
sequencer, its markers and its pending program, and queues SEQ_DONE, unless a LINES reset makes it; a burst under way
ends with it, with its edge, and a wait leaves the list without a skip, and either lets the wait list be tried and the
idle timer start. The refusals carry no sequencer record and the disposition stands ahead of it in the reply, as log
12 reads the layout; a queue flag above 1 is BAD_ARGUMENT (log 13). These are the model's choices. -/
def Obligations.ToneAndSequencerRequests : Prop :=
  (∀ (tag : Byte) (rest : List Byte) (p : PortId) (s : State), s.ready →
      let name := BitVec.ofNat 8 (portNumber p)
      let tone := fun n q : Byte => Answers (.portTone tag (name :: n :: q :: rest)) tag 0x35 s
      let pause := Answers (.seqPause tag (name :: rest)) tag 0x38 s
      let resume := Answers (.seqResume tag (name :: rest)) tag 0x39 s
      let stop := Answers (.seqStop tag (name :: rest)) tag 0x3A s
      let u := s.heard
      let voiced := (s.port p).state = .offhook ∨ (s.port p).state = .connected
      let okWith := fun t : State => Answer.with .ok (seqData p t)
      let inPhase := fun (r : SeqRun) (phase : SeqPhase) =>
        u.onSeq p fun q => { q with run := some { r with phase := phase } }
      (∀ n q : Byte, 15 < n.toNat ∨ 1 < q.toNat → tone n q (Answer.refuse .badArgument) u)
        ∧ (∀ n q : Byte, n.toNat ≤ 15 → q.toNat ≤ 1 → ¬ voiced → tone n q (Answer.refuse .wrongState) u)
        ∧ (∀ n q : Byte, n.toNat ≤ 15 → q.toNat ≤ 1 → voiced → (s.program n.toNat).rings = true →
            tone n q (Answer.refuse .badArgument) u)
        ∧ (∀ n q : Byte, n.toNat ≤ 15 → q.toNat ≤ 1 → voiced → (s.program n.toNat).rings = false →
            ((s.seq p).run = none →
                let t := startProgram p n.toNat u
                tone n q (Answer.with .ok (0x00 :: seqData p t)) t)
              ∧ (∀ r, (s.seq p).run = some r → q = 0x00 → tone n q (Answer.refuse .busy) u)
              ∧ (∀ r, (s.seq p).run = some r → q = 0x01 →
                  let t := u.onSeq p fun q => { q with run := some { r with pending := some n.toNat } }
                  tone n q (Answer.with .ok ((if r.pending = none then 0x01 else 0x02) :: seqData p t)) t))
        ∧ ((s.seq p).run = none →
            pause (Answer.refuse .wrongState) u ∧ resume (Answer.refuse .wrongState) u ∧ stop (okWith u) u)
        ∧ (∀ r, (s.seq p).run = some r →
            (r.phase = .running → pause (okWith (inPhase r .pausing)) (inPhase r .pausing) ∧ resume (okWith u) u)
              ∧ (r.phase = .waitingSupply →
                  let t := leaveWaits p (inPhase r .paused)
                  pause (okWith t) t ∧ resume (okWith u) u)
              ∧ (r.phase = .pausing → pause (okWith u) u ∧ resume (okWith (inPhase r .running)) (inPhase r .running))
              ∧ (r.phase = .paused →
                  pause (okWith u) u
                    ∧ ((s.segmentOf r).kind ≠ .ringOn →
                      let t := u.onSeq p fun q =>
                        { q with
                          run := some
                            { r with
                              phase := .running, endAt := s.clock + (s.segmentOf r).durationMs, burst := false } }
                      resume (okWith t) t)
                    ∧ ((s.segmentOf r).kind = .ringOn →
                      let t := runSegments skipFuel p (inPhase r .running)
                      resume (okWith t) t))
              ∧ (r.phase = .held →
                  pause (okWith u) u
                    ∧ (let t := runOn p (segmentTail p { r with phase := .running } u)
                      resume (okWith t) t))
              ∧ ((s.port p).state = .ringing → stop (Answer.refuse .wrongState) u)
              ∧ ((s.port p).state ≠ .ringing →
                  let t := stopSeq (some .request) p u
                  stop (okWith t) t)))
    ∧ (∀ (p : PortId) (s : State) (c : Option DoneCause),
        let served := fun x : State =>
          let t := tryWaits x
          if t.rsc.state = .ready ∧ t.rsc.bursts = [] ∧ t.rsc.waits = [] ∧ t.rsc.idleEnd = none then
            { t with rsc := { t.rsc with idleEnd := some (t.clock + 5000) } }
          else t
        let freed := s.onSeq p fun q => { q with run := none }
        ((s.seq p).run = none → stopSeq c p s = s)
          ∧ (∀ r, (s.seq p).run = some r →
              let stopped := fun x : State =>
                let cleared := x.onPort p fun q => { q with dialMarker := false, autoMarker := false }
                match c with
                | none => cleared
                | some cause => notice (.seqDone p r.program cause r.pass r.pending s.uptime) cleared
              (r.burst = false → r.phase ≠ .waitingSupply → stopSeq c p s = stopped freed)
                ∧ (∀ before e after, r.burst = true → r.phase ≠ .waitingSupply →
                    s.rsc.bursts = before ++ e :: after → e.port = p → (∀ x ∈ before, x.port ≠ p) →
                      stopSeq c p s
                        = stopped
                            (served
                              { freed with
                                rsc := { s.rsc with bursts := before ++ after }
                                lks := { s.lks with ringGuard := some (s.clock + 200) } }))
                ∧ (∀ before e after, r.burst = false → r.phase = .waitingSupply →
                    s.rsc.waits = before ++ e :: after → e.port = p → (∀ x ∈ before, x.port ≠ p) →
                      stopSeq c p s
                        = stopped (served { freed with rsc := { s.rsc with waits := before ++ after } }))))

/-- The end of a segment: nothing where none runs; else the mark's notice, then a hold, the stop index in the final
pass, the last segment with its repeats, or the next segment, which in PAUSING is paused before. The end of a program
is noticed, and frees the sequencer or starts the pending program. The end of a ring program takes a port in RINGING
to IDLE. A ring burst ends with its segment. A segment of tone or silence that begins runs at once; a ring segment
asks for its burst (beginSegment, which RingSupplyWorks states), and where that is skipped at once its end is taken
and the next begins, up to 3 100 in one command (log 18). That HELD shows no remaining time behind a skipped or cut
segment too is the model's choice (log 43). -/
def Obligations.SegmentsFollowEachOther : Prop :=
  ∀ (p : PortId) (s : State), s.alive = true →
    ((s.seq p).run = none → Does (.segmentEnd p) s s)
      ∧ (∀ r, (s.seq p).run = some r → r.phase ≠ .running → r.phase ≠ .pausing → Does (.segmentEnd p) s s)
      ∧ (∀ r, (s.seq p).run = some r → r.phase = .running ∨ r.phase = .pausing →
          Does (.segmentEnd p) s (takeSegmentEnd false p (endBurst p { s with clock := max s.clock r.endAt })))
      ∧ (∀ r, (s.seq p).run = some r → r.phase = .running ∨ r.phase = .pausing → r.burst = false →
          s.rsc.bursting p = false →
          let u : State := { s with clock := max s.clock r.endAt }
          let g := s.segmentOf r
          let prog := s.program r.program
          let v := if g.mark = true then notice (.seqMark p r.program r.segment r.pass false u.uptime) u else u
          let goesTo := fun (r' : SeqRun) (t : State) =>
            (r.phase = .pausing →
                Does (.segmentEnd p) s
                  (t.onSeq p fun q =>
                    { q with run := some { r' with phase := .paused, left := (s.segmentOf r').durationMs } }))
              ∧ (r.phase = .running → (s.segmentOf r').kind ≠ .ringOn →
                  Does (.segmentEnd p) s
                    (t.onSeq p fun q =>
                      { q with run := some { r' with endAt := u.clock + (s.segmentOf r').durationMs, left := 0 } }))
              ∧ (r.phase = .running →
                  Does (.segmentEnd p) s (runSegments skipFuel p (t.onSeq p fun q => { q with run := some r' })))
          let ends := fun (cause : DoneCause) =>
            let w := notice (.seqDone p r.program cause r.pass r.pending u.uptime) v
            let idle := (w.onSeq p fun q => { q with run := none }).onPort p fun q =>
              { q with dialMarker := false, autoMarker := false }
            (r.pending = none → (s.port p).state ≠ .ringing → Does (.segmentEnd p) s idle)
              ∧ (r.pending = none → (s.port p).state = .ringing → Does (.segmentEnd p) s (enterIdle p idle))
              ∧ (∀ n, r.pending = some n →
                  Does (.segmentEnd p) s
                    (runSegments skipFuel p
                      ((w.onSeq p fun q => { q with run := some (SeqRun.start n (s.program n)) }).onPort p fun q =>
                        { q with dialMarker := false, autoMarker := false })))
              ∧ (∀ n, r.pending = some n → (s.segmentOf (SeqRun.start n (s.program n))).kind ≠ .ringOn →
                  Does (.segmentEnd p) s
                    ((w.onSeq p fun q =>
                        { q with
                          run := some
                            { SeqRun.start n (s.program n) with
                              endAt := u.clock + (s.segmentOf (SeqRun.start n (s.program n))).durationMs } }).onPort p
                      fun q => { q with dialMarker := false, autoMarker := false }))
          (g.hold = true →
              Does (.segmentEnd p) s (v.onSeq p fun q => { q with run := some { r with phase := .held, left := 0 } }))
            ∧ (g.hold = false → r.repeats = some 1 → prog.stop = some r.segment → ends .stopIndex)
            ∧ (g.hold = false → ¬ (r.repeats = some 1 ∧ prog.stop = some r.segment) →
                (r.segment ≠ prog.last → goesTo { r with segment := r.segment + 1, left := 0 } v)
                  ∧ (r.segment = prog.last →
                      (∀ n, r.repeats = some n → n ≤ 1 → ends .completed)
                        ∧ (∀ n, r.repeats = some n → 2 ≤ n →
                            goesTo
                              { r with repeats := some (n - 1), pass := min (r.pass + 1) 65535, segment := 0, left := 0 } v)
                        ∧ (r.repeats = none →
                            goesTo { r with pass := min (r.pass + 1) 65535, segment := 0, left := 0 } v))))
      ∧ (∀ n, (s.segmentOf (SeqRun.start n (s.program n))).kind ≠ .ringOn →
          startProgram p n s
            = s.onSeq p fun q =>
                { q with
                  run := some
                    { SeqRun.start n (s.program n) with
                      endAt := s.clock + (s.segmentOf (SeqRun.start n (s.program n))).durationMs } })
      ∧ (∀ n, startProgram p n s
          = runSegments skipFuel p (s.onSeq p fun q => { q with run := some (SeqRun.start n (s.program n)) }))
      ∧ (∀ n,
          let begun := beginSegment p s
          let ended := segmentEnds true p begun.2
          (begun.1 = false → runSegments (n + 1) p s = begun.2)
            ∧ (begun.1 = true → ended.1 = false → runSegments (n + 1) p s = ended.2)
            ∧ (begun.1 = true → ended.1 = true → runSegments (n + 1) p s = runSegments n p ended.2))

/-- The ring supply: READY when charged, OFF when it has idled 5 s, charging again 2 s after a fault, for 50 ms in
MAINS stage and 120 ms in any other; a waiting port is skipped after 2 s; the fault history forgets after 60 s; a
fault without bursts or waiting ports brings a retry, the third within 60 s latches; a reset of a latched supply turns
it OFF. A burst is granted at once in READY where it fits, starts the charge in OFF, is skipped where it never fits or
is latched, and else waits. RSC serves its wait list oldest first, in READY only: the head that fits is granted, with
its entry in the burst list, the segment's time running, the count and the edge, and the new head is looked at in the
same way; a head that does not fit keeps the others waiting. The end of a burst takes the port off the burst list with
its edge, tries the wait list, and starts the idle timer of 5 s in READY with both lists empty. A change of stage sets
the capacity; a rise tries the wait list; a fall cuts the bursts granted last while their loads exceed it, skips each
waiting port whose load alone does, and at capacity 0 turns a charging or ready supply OFF. A supply fault with bursts
under way: the supply shuts down, every burst is cut in the order of grant, then the fault is counted and its uptime
joins the history; with fewer than three uptimes the RETRY notice follows, with three the supply latches, every port
that waits is skipped, and the fault is recorded and its notice queued. A cut raises both counts, clears the burst
flag, takes the port off the burst list with an edge and ends its segment as cut; a skip does so from the wait list.
The supply not being READY, neither tries the wait list. That the cuts find the supply in FAULT_RETRY already, its
retry timer running, where R114 enters it behind them, is the model's choice (log 40). -/
def Obligations.RingSupplyWorks : Prop :=
  ((∀ (tag : Byte) (rest : List Byte) (s : State), s.ready →
       let ans := Answers (.ringSupplyReset tag rest) tag 0x3C s
       (s.rsc.state = .faultLatched →
           ans Answer.ok
             (notice (.ringSupply .reset)
               (clearFault .ringSupply .rsc { s.heard with rsc := { s.rsc with state := .off } })))
         ∧ (s.rsc.state ≠ .faultLatched → ans (Answer.refuse .wrongState) s.heard))
     ∧ (∀ s : State, s.alive = true →
         let r := s.rsc
         (r.chargeEnd = none → Does .chargeDone s s)
           ∧ (∀ e, r.chargeEnd = some e → r.waits = [] → r.bursts = [] → r.idleEnd = none →
               Does .chargeDone s
                 { s with
                   clock := max s.clock e
                   rsc := { r with state := .ready, chargeEnd := none, idleEnd := some (max s.clock e + 5000) } })
           ∧ (∀ e, r.chargeEnd = some e →
               Does .chargeDone s
                 (idleCheck (tryWaits
                   { s with clock := max s.clock e, rsc := { r with state := .ready, chargeEnd := none } })))
           ∧ (r.idleEnd = none → Does .supplyIdleTimeout s s)
           ∧ (∀ e, r.idleEnd = some e →
               Does .supplyIdleTimeout s
                 { s with clock := max s.clock e, rsc := { r with state := .off, idleEnd := none } })
           ∧ (r.retryEnd = none → Does .supplyRetryTimeout s s)
           ∧ (∀ e, r.retryEnd = some e →
               Does .supplyRetryTimeout s
                 { s with
                   clock := max s.clock e
                   rsc :=
                     { r with
                       state := .charging, retryEnd := none
                       chargeEnd := some (max s.clock e + if s.psv.stage = .mains then 50 else 120) } })
           ∧ (r.history = [] → Does .supplyFaultHistoryExpiry s s)
           ∧ (∀ t ts, r.history = t :: ts →
               Does .supplyFaultHistoryExpiry s
                 { s with clock := max s.clock (t + 60000), rsc := { r with history := ts } })
           ∧ (∀ p, r.waiting p = false → Does (.burstWaitTimeout p) s s)
           ∧ (∀ p e, r.waits.find? (fun e => e.port = p) = some e →
               Does (.burstWaitTimeout p) s
                 (takeSegmentEnd true p (leaveWaits p (countSkip p { s with clock := max s.clock (e.at_ + 2000) }))))
           ∧ (∀ p e, r.waits = [e] → e.port = p →
               let u : State := { s with clock := max s.clock (e.at_ + 2000) }
               Does (.burstWaitTimeout p) s
                 (takeSegmentEnd true p
                   (idleCheck
                     (({ u with rsc := { r with waits := [], skipped := min (r.skipped + 1) 4294967295 } } : State).onSeq p
                       fun q => { q with skipped := min (q.skipped + 1) 65535 }))))
           ∧ (∀ kind, (r.state ≠ .charging ∧ r.state ≠ .ready) ∨ (kind = .short ∧ r.bursts = []) →
               Does (.supplyFault kind) s s)
           ∧ (r.state = .charging ∨ r.state = .ready → r.bursts = [] →
               let history := r.history.filter (fun t => s.clock ≤ t + 60000) ++ [s.clock]
               let shut : Rsc :=
                 { r with
                   idleEnd := none, chargeEnd := none, faults := min (r.faults + 1) 4294967295, history := history }
               (history.length < 3 →
                   Does (.supplyFault .overload) s
                     (notice (.ringSupply (.retry .overload history.length))
                       { s with rsc := { shut with state := .faultRetry, retryEnd := some (s.clock + 2000) } }))
                 ∧ (3 ≤ history.length → r.waits = [] →
                     Does (.supplyFault .overload) s
                       (notice (.ringSupply (.latched .overload))
                         (report .ringSupply .rsc .major (d32 0 :: history.map (fun t => d32 (t / 1000)))
                           { s with rsc := { shut with state := .faultLatched, history := [], retryEnd := none } }))))
           ∧ (∀ kind, r.state = .charging ∨ r.state = .ready → r.bursts ≠ [] →
               Does (.supplyFault kind) s (supplyFaults kind s)))
     ∧ (∀ (p : PortId) (s : State) (run : SeqRun), (s.seq p).run = some run → (s.segmentOf run).kind = .ringOn →
         let load := (s.port p).settings.ringLoad
         let asked := s.onSeq p fun q =>
           { q with
             run := some { run with phase := .waitingSupply, left := (s.segmentOf run).durationMs, burst := false } }
         (s.rsc.capacity < load ∨ s.rsc.state = .faultLatched →
             beginSegment p s
               = (true,
                 ({ asked with rsc := { s.rsc with skipped := min (s.rsc.skipped + 1) 4294967295 } } : State).onSeq p fun q =>
                   { q with skipped := min (q.skipped + 1) 65535 }))
           ∧ (s.rsc.state = .off → load ≤ s.rsc.capacity →
               beginSegment p s
                 = (false,
                   { asked with
                     rsc :=
                       { s.rsc with
                         state := .charging, idleEnd := none
                         waits := s.rsc.waits ++ [{ port := p, load := load, at_ := s.clock }]
                         chargeEnd := some (s.clock + if s.psv.stage = .mains then 50 else 120) } }))
           ∧ (load ≤ s.rsc.capacity →
               s.rsc.state = .charging ∨ s.rsc.state = .faultRetry
                 ∨ s.rsc.state = .ready ∧ (s.rsc.waits ≠ [] ∨ s.rsc.capacity < load + loads s.rsc.bursts) →
                 beginSegment p s
                   = (false,
                     { asked with
                       rsc :=
                         { s.rsc with
                           idleEnd := none, waits := s.rsc.waits ++ [{ port := p, load := load, at_ := s.clock }] } }))
           ∧ (s.rsc.state = .ready → s.rsc.waits = [] → load + loads s.rsc.bursts ≤ s.rsc.capacity →
               beginSegment p s
                 = (false,
                   ringEdge
                     (({ asked with
                         rsc :=
                           { s.rsc with
                             bursts := s.rsc.bursts ++ [{ port := p, load := load, at_ := s.clock }]
                             granted := min (s.rsc.granted + 1) 4294967295, idleEnd := none } } : State).onSeq p fun q =>
                       { q with
                         run := some
                           { run with
                             phase := .running, left := (s.segmentOf run).durationMs, burst := true
                             endAt := s.clock + (s.segmentOf run).durationMs } })))))
    ∧ ((∀ s : State,
           let grant := fun (e : RingEntry) (rest : List RingEntry) (x : State) =>
             ({ x with
                 rsc :=
                   { x.rsc with
                     waits := rest, bursts := x.rsc.bursts ++ [{ port := e.port, load := e.load, at_ := x.clock }]
                     granted := min (x.rsc.granted + 1) 4294967295, idleEnd := none }
                 lks := { x.lks with ringGuard := some (x.clock + 200) } } : State).onSeq e.port fun q =>
               { q with
                 run := q.run.map fun r =>
                   { r with phase := .running, burst := true, endAt := x.clock + (x.segmentOf r).durationMs } }
           let fits := fun (e : RingEntry) (x : State) => e.load + loads x.rsc.bursts ≤ x.rsc.capacity
           (s.rsc.state ≠ .ready ∨ s.rsc.waits = [] → tryWaits s = s)
             ∧ (∀ e rest, s.rsc.state = .ready → s.rsc.waits = e :: rest →
                 let u := grant e rest s
                 (¬fits e s → tryWaits s = s)
                   ∧ (fits e s →
                       (rest = [] → tryWaits s = u)
                         ∧ (∀ next more, rest = next :: more →
                             (¬fits next u → tryWaits s = u) ∧ (fits next u → tryWaits s = grant next more u)))))
         ∧ (∀ (p : PortId) (s : State),
             let r := s.rsc
             ((∀ e ∈ r.bursts, e.port ≠ p) → endBurst p s = s)
               ∧ (∀ before e after, r.bursts = before ++ e :: after → e.port = p → (∀ x ∈ before, x.port ≠ p) →
                   let ended : State :=
                     { s with
                       rsc := { r with bursts := before ++ after }
                       lks := { s.lks with ringGuard := some (s.clock + 200) } }
                   let tried := tryWaits ended
                   let idles := tried.rsc.state = .ready ∧ tried.rsc.bursts = [] ∧ tried.rsc.waits = []
                     ∧ tried.rsc.idleEnd = none
                   (idles →
                       endBurst p s
                         = { tried with rsc := { tried.rsc with idleEnd := some (tried.clock + 5000) } })
                     ∧ (¬idles → endBurst p s = tried)))
         ∧ (∀ s : State,
             let old := s.rsc.capacity
             let new := if s.psv.stage = .mains then 60 else if s.psv.stage = .lifeline then 0 else 30
             let set : State := { s with rsc := { s.rsc with capacity := new } }
             let cut := fun x : State =>
               if x.rsc.capacity < loads x.rsc.bursts then
                 (match x.rsc.bursts.getLast? with
                   | some e => cutBurst e.port x
                   | none => x)
               else x
             let left := cut (cut set)
             let skipped := left.rsc.waits.foldl
               (fun x e => if x.rsc.capacity < e.load then skipWaiter e.port x else x) left
             let dead := skipped.rsc.capacity = 0 ∧ (skipped.rsc.state = .charging ∨ skipped.rsc.state = .ready)
             (new = old → supplyStage s = s)
               ∧ (old < new → supplyStage s = tryWaits set)
               ∧ (new < old → dead →
                   supplyStage s
                     = { skipped with rsc := { skipped.rsc with state := .off, chargeEnd := none, idleEnd := none } })
               ∧ (new < old → ¬dead → supplyStage s = skipped)))
    ∧ ((∀ (kind : SupplyFaultKind) (s : State), s.alive = true → s.rsc.state = .charging ∨ s.rsc.state = .ready →
           s.rsc.bursts ≠ [] →
             let shut : State :=
               { s with
                 rsc :=
                   { s.rsc with
                     state := .faultRetry, idleEnd := none, chargeEnd := none, retryEnd := some (s.clock + 2000) } }
             let cut := s.rsc.bursts.foldl (fun x e => cutBurst e.port x) shut
             let history := cut.rsc.history.filter (fun t => s.clock ≤ t + 60000) ++ [s.clock]
             let counted : Rsc :=
               { cut.rsc with faults := min (cut.rsc.faults + 1) 4294967295, history := history }
             let latched : State :=
               { cut with rsc := { counted with state := .faultLatched, history := [], retryEnd := none } }
             (history.length < 3 →
                 Does (.supplyFault kind) s
                   (notice (.ringSupply (.retry kind history.length)) { cut with rsc := counted }))
               ∧ (3 ≤ history.length →
                   Does (.supplyFault kind) s
                     (notice (.ringSupply (.latched kind))
                       (report .ringSupply .rsc .major (d32 kind.ctorIdx :: history.map fun t => d32 (t / 1000))
                         (latched.rsc.waits.foldl (fun x e => skipWaiter e.port x) latched)))))
         ∧ (∀ (p : PortId) (s : State),
             let r := s.rsc
             let counted := fun r' : Rsc =>
               ({ s with rsc := r' } : State).onSeq p fun q => { q with skipped := min (q.skipped + 1) 65535 }
             ((∀ e ∈ r.bursts, e.port ≠ p) → cutBurst p s = s)
               ∧ (∀ before e after, r.bursts = before ++ e :: after → e.port = p → (∀ x ∈ before, x.port ≠ p) →
                   r.state ≠ .ready →
                     cutBurst p s
                       = takeSegmentEnd true p
                           (({ counted { r with cut := min (r.cut + 1) 4294967295, bursts := before ++ after } with
                               lks := { s.lks with ringGuard := some (s.clock + 200) } } : State).onSeq p fun q =>
                             { q with run := q.run.map fun x => { x with burst := false } }))
               ∧ ((∀ e ∈ r.waits, e.port ≠ p) → skipWaiter p s = s)
               ∧ (∀ before e after, r.waits = before ++ e :: after → e.port = p → (∀ x ∈ before, x.port ≠ p) →
                   r.state ≠ .ready →
                     skipWaiter p s
                       = takeSegmentEnd true p
                           (counted { r with skipped := min (r.skipped + 1) 4294967295, waits := before ++ after }))))

/-! ## Voice (06) -/

/-- VOICE_DOWN: a malformed body is counted; else the frame meets the checks in order: not connected, late, duplicate,
overflow; an accepted one takes its place by its distance from the reference, the first in PREFILL setting the base. -/
def Obligations.VoiceFramesAreChecked : Prop :=
  ∀ (tag : Byte) (s : State), s.powered = true → s.psv.mode = .active →
    (∀ body, rdVoice body = none →
        Serves (.voiceDown tag body) s
          { s.heard with mpt := { s.heard.mpt with malformed := min (s.mpt.malformed + 1) 4294967295 } })
      ∧ (∀ body, body.length ≠ 163 ∨ (∀ p, body.headD 0x00 ≠ BitVec.ofNat 8 (portNumber p)) → rdVoice body = none)
      ∧ (∀ (p : PortId) (lo hi : Byte) (samples : List Byte), samples.length = 160 →
          let f : VoiceFrame :=
            { seq := hi ++ lo
              samples := Vector.ofFn fun i : Fin 80 => samples.getD (2 * i + 1) 0x00 ++ samples.getD (2 * i) 0x00 }
          let v := (s.port p).voice
          let c := v.counts
          let does := fun v' : Voice =>
            Serves (.voiceDown tag (BitVec.ofNat 8 (portNumber p) :: lo :: hi :: samples)) s
              (s.heard.onPort p fun q => { q with voice := v' })
          let late := ∃ r, v.reference = some r ∧ ¬ (1 ≤ (f.seq - r).toNat ∧ (f.seq - r).toNat ≤ 32767)
          let queued := ∃ g ∈ v.queue, g.seq = f.seq
          ((s.port p).state ≠ .connected →
              does { v with counts := { c with notConnected := min (c.notConnected + 1) 4294967295 } })
            ∧ ((s.port p).state = .connected →
                (late → does { v with counts := { c with late := min (c.late + 1) 4294967295 } })
                  ∧ (¬ late → queued → does { v with counts := { c with duplicate := min (c.duplicate + 1) 4294967295 } })
                  ∧ (¬ late → ¬ queued → 8 ≤ v.queue.length →
                      does { v with counts := { c with overflow := min (c.overflow + 1) 4294967295 } })
                  ∧ (¬ late → ¬ queued → v.queue.length < 8 →
                      (∀ r, v.reference = some r → does { v with queue := insertFrame r f v.queue })
                        ∧ (v.reference = none →
                            does { v with base := some (f.seq - 8), queue := insertFrame (f.seq - 8) f v.queue }))))
      ∧ (∀ (r : Seq16) (f : VoiceFrame) (q : List VoiceFrame),
          let near := fun g : VoiceFrame => (g.seq - r).toNat ≤ (f.seq - r).toNat
          insertFrame r f q = q.takeWhile near ++ f :: q.dropWhile near)

/-- A tick of the frame clock in CONNECTED: capture adds a frame with its number, a full capture queue losing its
oldest; playout gathers frames to the prefill depth, plays the expected frame, fills a missing one with the last frame
halved three times and then with silence, counts underruns, and at the fifth in a row returns to PREFILL. Elsewhere
there is no tick. The row UNDERRUN_LIMIT carries the audio of the tick that brings it about and does what that tick
does, which is the model's choice (log 5). What a phone hears: the tone pair that the TONE segment names while its
sequencer runs the segment, none in a segment of another kind, in PAUSED, HELD or WAITING_SUPPLY, or without a
program; and with it, in CONNECTED, the slot that playout produces. A frame that capture takes up has no part in it,
and takes none of the tone. -/
def Obligations.FrameClockTicks : Prop :=
  (∀ (p : PortId) (audio : Samples) (s : State), s.alive = true →
     let q := s.port p
     let v := q.voice
     let c := v.counts
     let halve := fun x : BitVec 16 => BitVec.ofInt 16 (x.toInt.tdiv 2)
     (q.state ≠ .connected ∨ v.tickAt = none → Does (.frameTick p audio) s s)
       ∧ (∀ t, q.state = .connected → v.tickAt = some t →
           let u : State := { s with clock := max s.clock t }
           let caught : CaptureFrame := { seq := v.captureSeq, samples := audio, producedAt := u.clock }
           let full := 3 ≤ v.capture.length
           let plays := fun (v' : Voice) =>
             Does (.frameTick p audio) s
               (u.onPort p fun q =>
                 { q with
                   voice :=
                     { v' with
                       tickAt := some (t + 10)
                       capture := (if full then v.capture.tail else v.capture) ++ [caught]
                       captureSeq := v.captureSeq + 1
                       counts :=
                         { v'.counts with
                           produced := min (c.produced + 1) 4294967295
                           discarded := if full then min (c.discarded + 1) 4294967295 else c.discarded } } })
           let fillSlot :=
             match v.last with
             | some samples => if v.fills ≤ 2 then Slot.audio (samples.map halve) else Slot.silence
             | none => Slot.silence
           (v.state = .prefill → v.queue.length < q.settings.prefill ∨ v.queue = [] → plays { v with slot := .silence })
             ∧ (∀ f fs, v.state = .prefill → v.queue = f :: fs → q.settings.prefill ≤ v.queue.length →
                 plays
                   { v with
                     state := .playing, base := none, queue := fs, position := some f.seq, last := some f.samples
                     fills := 0, underruns := 0, slot := .audio f.samples
                     counts := { c with played := min (c.played + 1) 4294967295 } })
             ∧ (∀ f fs r, v.state = .playing → v.queue = f :: fs → v.position = some r →
                 (f.seq = r + 1 →
                     plays
                       { v with
                         queue := fs, position := some f.seq, last := some f.samples, fills := 0, underruns := 0
                         slot := .audio f.samples, counts := { c with played := min (c.played + 1) 4294967295 } })
                   ∧ (f.seq ≠ r + 1 →
                       plays
                         { v with
                           position := some (r + 1), fills := min (v.fills + 1) 65535, underruns := 0, slot := fillSlot
                           counts := { c with fills := min (c.fills + 1) 4294967295 } }))
             ∧ (∀ r, v.state = .playing → v.queue = [] → v.position = some r →
                 let counts : VoiceCounts :=
                   { c with
                     fills := min (c.fills + 1) 4294967295, underruns := min (c.underruns + 1) 4294967295 }
                 (v.underruns < 4 →
                     plays
                       { v with
                         position := some (r + 1), fills := min (v.fills + 1) 65535, underruns := v.underruns + 1
                         slot := fillSlot, counts := counts })
                   ∧ (4 ≤ v.underruns →
                       plays
                         { v with
                           state := .prefill, position := none, base := none, fills := 0, underruns := 0
                           slot := fillSlot
                           counts := { counts with returns := min (c.returns + 1) 4294967295 } }))
             ∧ (v.state = .playing → v.queue = [] → v.underruns = 4 →
                 exec (.underrunLimit p audio) s = exec (.frameTick p audio) s))
       ∧ (q.state ≠ .connected ∨ v.state ≠ .playing ∨ v.queue ≠ [] ∨ v.underruns ≠ 4 →
           Does (.underrunLimit p audio) s s))
    ∧ ((∀ (p : PortId) (s : State),
           let heard := s.toPhone p
           ((s.seq p).run = none → heard.tone = none)
             ∧ (∀ r, (s.seq p).run = some r →
                 (r.phase ≠ .running → r.phase ≠ .pausing → heard.tone = none)
                   ∧ (∀ n, r.phase = .running ∨ r.phase = .pausing → (s.segmentOf r).kind = .tone n →
                       heard.tone = s.sst.contents.tones[n]?)
                   ∧ ((∀ n, (s.segmentOf r).kind ≠ .tone n) → heard.tone = none))
             ∧ ((s.port p).state = .connected → heard.playout = (s.port p).voice.slot)
             ∧ ((s.port p).state ≠ .connected → heard.playout = .nothing))
         ∧ (∀ (p : PortId) (audio audio' : Samples) (s : State), s.alive = true →
             ∃ t t', Does (.frameTick p audio) s t ∧ Does (.frameTick p audio') s t' ∧ t.toPhone p = t'.toPhone p))

/-! ## Line tests (07) -/

/-- TEST_REQUEST: its checks in order; a request of a kind that waits already is merged; else it joins the queue with
the next job number, and as the head of an empty queue claims the pair at once: granted, it settles; else it waits at
most 300 s. TEST_CANCEL ends the entry it names; one behind the head leaves its result and its TEST_DONE. The model's
choices: a disruptive flag above 1 is refused with check 1 (log 13), QUEUED is 0 and MERGED 1 (log 12), of two entries
with one job number the older is cancelled (log 40). When a disruptive test waits for a pair that LINK holds, no port
is CONNECTED and no release has been asked for, LKS is asked: CARRYING it drops the link with reason TEST, in GREETING
and TRAINING it gives the pair up at once, the test being granted if it can be, and tries again behind it, in
RELEASING it goes on; else nothing is asked. The cancel of the head: its result, CANCELLED with the repeats completed,
takes the place of its kind, it leaves the queue, its claim is freed or withdrawn and the test relay opens; the next
entry claims the pair in the same moment, ahead of a waiting LINK claim, is granted it or waits at most 300 s, asking
for a release where LINK holds the pair; TEST_DONE follows, and no fault; with no next entry a waiting LINK claim is
examined again behind it (log 17). -/
def Obligations.TestRequestsAndCancels : Prop :=
  ((∀ (tag k r d : Byte) (rest : List Byte) (s : State), s.ready →
       let ans := Answers (.testRequest tag (k :: r :: d :: rest)) tag 0x40 s
       let l := s.ltu
       let wellFormed := k.toNat ≤ 3 ∧ 1 ≤ r.toNat ∧ r.toNat ≤ 16 ∧ d.toNat ≤ 1
       let allowed := wellFormed ∧ s.psv.stage ≠ .conserve ∧ s.psv.stage ≠ .lifeline
       (¬ wellFormed → ans (Answer.refuse .badArgument) s.heard)
         ∧ (wellFormed → s.psv.stage = .conserve ∨ s.psv.stage = .lifeline → ans (Answer.refuse .powerLimit) s.heard)
         ∧ (∀ (before after : List TestEntry) (e : TestEntry), allowed → l.queue = before ++ e :: after →
             e.kind.ctorIdx = k.toNat → e.origin = .host →
             (∀ x ∈ before, ¬ (x.kind.ctorIdx = k.toNat ∧ x.origin = .host)) →
               ans
                 (Answer.with .accepted
                   (0x01 :: u8 e.job ++ u8 e.repeats ++ flag e.disruptive ++ u8 (before.length + 1)))
                 s.heard)
         ∧ (allowed → (∀ x ∈ l.queue, ¬ (x.kind.ctorIdx = k.toNat ∧ x.origin = .host)) →
             (6 ≤ l.queue.length → ans (Answer.refuse .queueFull) s.heard)
               ∧ (∀ kind : TestKind, kind.ctorIdx = k.toNat → l.queue.length < 6 →
                   let e : TestEntry :=
                     { job := l.nextJob, kind := kind, origin := .host, repeats := r.toNat, disruptive := d.toNat = 1
                       arrival := s.uptime, phase := .queued }
                   let next := if 255 ≤ l.nextJob then 1 else l.nextJob + 1
                   let queued := Answer.with .accepted (0x00 :: u8 l.nextJob ++ u8 (l.queue.length + 1))
                   let claim := some { job := e.job, origin := e.origin, disruptive := e.disruptive : TestClaimInfo }
                   (l.queue ≠ [] →
                       ans queued { s.heard with ltu := { l with queue := l.queue ++ [e], nextJob := next } })
                     ∧ (l.queue = [] → s.testGrantable = true →
                         ans queued
                           { s.heard with
                             ltu :=
                               { l with
                                 queue := [{ e with phase := .settle }], nextJob := next
                                 run := some (TestRun.start kind (s.clock + 50)) }
                             pac :=
                               { s.pac with
                                 test := { state := .held, since := s.uptime }, testInfo := claim
                                 releaseAsked := false, waitEnd := none, testRelayClosed := true } })
                     ∧ (l.queue = [] → s.testGrantable = false →
                         ans queued
                           (askRelease
                             { s.heard with
                               ltu := { l with queue := [{ e with phase := .claiming }], nextJob := next }
                               pac :=
                                 { s.pac with
                                   test := { state := .waiting, since := s.uptime }, testInfo := claim
                                   waitEnd := some (s.clock + 300000), testRelayClosed := false } })))))
     ∧ (∀ (tag job : Byte) (rest : List Byte) (s : State), s.ready →
         let ans := Answers (.testCancel tag (job :: rest)) tag 0x41 s
         (job = 0x00 → ans (Answer.refuse .badArgument) s.heard)
           ∧ (job ≠ 0x00 → (∀ e ∈ s.ltu.queue, e.job ≠ job.toNat) → ans (Answer.refuse .wrongState) s.heard)
           ∧ (∀ e after, job ≠ 0x00 → s.ltu.queue = e :: after → e.job = job.toNat →
               ans Answer.ok (finishTest true true e .cancelled (some .hostCancel) s.heard))
           ∧ (∀ head before e after, job ≠ 0x00 → s.ltu.queue = head :: before ++ e :: after → e.job = job.toNat →
               e ≠ head → (∀ x ∈ head :: before, x.job ≠ job.toNat) →
                 let record : TestResult :=
                   { job := e.job, kind := e.kind, origin := e.origin, status := .cancelled, abort := some .hostCancel
                     repeats := e.repeats, completed := 0, values := [], length := none, worst := none
                     uptime := s.uptime }
                 ans Answer.ok
                   (notice (.testDone e.job e.kind e.origin .cancelled (some .hostCancel) 0 e.repeats none s.uptime)
                     { s.heard with
                       ltu :=
                         { s.ltu with
                           results := s.ltu.results.setIfInBounds e.kind.ctorIdx (some record)
                           queue := head :: before ++ after } }))))
    ∧ (∀ s : State,
         let asks := s.pac.test.state = .waiting ∧ (∃ i, s.pac.testInfo = some i ∧ i.disruptive = true)
           ∧ s.pac.link.state = .held ∧ s.hpc1.state ≠ .connected ∧ s.hpc2.state ≠ .connected ∧ s.pac.releaseAsked = false
         let u : State := { s with pac := { s.pac with releaseAsked := true } }
         let freed : State :=
           { u with
             lks := { s.lks with trial := none, greetingEnd := none, trainingEnd := none }
             pac := { u.pac with link := { state := .free, since := s.uptime } } }
         (¬asks → askRelease s = s)
           ∧ (asks →
               (s.lks.state = .carrying →
                   askRelease s = dropOrderly .test .waiting none { u with lks := { s.lks with trial := none } })
                 ∧ (s.lks.state = .releasing → askRelease s = u)
                 ∧ (s.lks.state = .greeting ∨ s.lks.state = .training →
                     (freed.testGrantable = false → askRelease s = beginAttempt .other freed)
                       ∧ (∀ e rest, freed.testGrantable = true → s.ltu.queue = e :: rest →
                           askRelease s
                             = beginAttempt .other
                                 { freed with
                                   pac :=
                                     { freed.pac with
                                       test := { state := .held, since := s.uptime }, releaseAsked := false
                                       waitEnd := none, testRelayClosed := true }
                                   ltu :=
                                     { s.ltu with
                                       queue := { e with phase := .settle } :: rest
                                       run := some (TestRun.start e.kind (s.clock + 50)) } }))))
    ∧ (∀ (e : TestEntry) (rest : List TestEntry) (s : State), s.ltu.queue = e :: rest →
         let r := testResult s.sst.contents.tests e s.ltu.run .cancelled (some .hostCancel) s.uptime
         let done := notice
           (.testDone e.job e.kind e.origin .cancelled (some .hostCancel) r.completed e.repeats r.worst s.uptime)
         let ended := finishTest true true e .cancelled (some .hostCancel) s
         let ltu := { s.ltu with run := none, results := s.ltu.results.setIfInBounds e.kind.ctorIdx (some r) }
         let pac :=
           if s.pac.test.state = .free then s.pac
           else
             { s.pac with
               test := { state := .free, since := s.uptime }, testInfo := none, releaseAsked := false, waitEnd := none
               testRelayClosed := false }
         (rest = [] →
             let t : State := { s with ltu := { ltu with queue := [] }, pac := pac }
             (s.pac.link.state = .waiting → s.pac.hazardEnd = none → ended = grantLink (done t))
               ∧ (s.pac.link.state ≠ .waiting ∨ s.pac.hazardEnd ≠ none → ended = done t))
           ∧ (∀ next more, rest = next :: more →
               let info := some { job := next.job, origin := next.origin, disruptive := next.disruptive : TestClaimInfo }
               let free := s.pac.link.state ≠ .held ∧ s.pac.lifeline.state = .free ∧ s.pac.hazardEnd = none
                 ∧ s.pac.ringSession = false
               let waits : State :=
                 { s with
                   ltu := { ltu with queue := { next with phase := .claiming } :: more }
                   pac :=
                     { pac with
                       test := { state := .waiting, since := s.uptime }, testInfo := info
                       waitEnd := some (s.clock + 300000), testRelayClosed := false } }
               (free →
                   ended
                     = done
                         { s with
                           ltu :=
                             { ltu with
                               queue := { next with phase := .settle } :: more
                               run := some (TestRun.start next.kind (s.clock + 50)) }
                           pac :=
                             { pac with
                               test := { state := .held, since := s.uptime }, testInfo := info, releaseAsked := false
                               waitEnd := none, testRelayClosed := true } })
                 ∧ (¬free →
                     ended = reexamine (done (askRelease waits))
                       ∧ (s.pac.link.state ≠ .held ∨ next.disruptive = false → ended = done waits))))

/-- A granted test measures after 50 ms; every 20 ms it takes one sample of each value; the sixteenth completes a
repeat, which joins the aggregates, and the last repeat ends the test. A repeat's value is the sum by 16 rounded to
the nearest, a half to the even neighbour or upwards, and clamped to its range with the mark. The end of a test writes
its result, frees the pair and queues TEST_DONE; a waiting LINK claim is examined again behind the fault (log 17). The
row REPEAT_COMPLETE carries the samples of the period that brings it about, which is the model's choice (log 5), as
are missing samples (log 29). -/
def Obligations.TestsMeasureAndEnd : Prop :=
  (∀ (samples : List Int) (s : State), s.alive = true →
      let l := s.ltu
      (l.run.bind (·.settleEnd) = none → Does .settleEnd s s)
        ∧ (∀ run e rest t, l.run = some run → run.settleEnd = some t → l.queue = e :: rest →
            Does .settleEnd s
              { s with
                clock := max s.clock t
                ltu :=
                  { l with
                    queue := { e with phase := .measure } :: rest
                    run := some { run with settleEnd := none, sampleAt := some (max s.clock t + 20) } } })
        ∧ (l.run.bind (·.sampleAt) = none →
            Does (.measurePeriodEnd samples) s s ∧ Does (.repeatComplete samples) s s)
        ∧ (∀ run e rest t, l.run = some run → run.sampleAt = some t → l.queue = e :: rest →
            let sums := run.sums.zipIdx.map fun x => x.1 + samples.getD x.2 0
            let with_ := fun run' : TestRun =>
              ({ s with clock := max s.clock t, ltu := { l with run := some run' } } : State)
            let completed : TestRun :=
              { run with
                sampleAt := some (t + 20), sums := List.replicate e.kind.values 0, taken := 0
                completed := run.completed + 1
                aggregates := addRepeat s.sst.contents.tests.rounding e.kind.place run.aggregates sums }
            (run.taken < 15 →
                Does (.measurePeriodEnd samples) s
                    (with_ { run with sampleAt := some (t + 20), sums := sums, taken := run.taken + 1 })
                  ∧ Does (.repeatComplete samples) s s)
              ∧ (15 ≤ run.taken → run.completed + 1 < e.repeats →
                  Does (.measurePeriodEnd samples) s (with_ completed))
              ∧ (15 ≤ run.taken → e.repeats ≤ run.completed + 1 →
                  Does (.measurePeriodEnd samples) s (finishTest true true e .complete none (with_ completed)))
              ∧ (run.taken = 15 →
                  (run.completed + 1 < e.repeats → Does (.repeatComplete samples) s (with_ completed))
                    ∧ (e.repeats ≤ run.completed + 1 →
                        Does (.repeatComplete samples) s (finishTest true true e .complete none (with_ completed))))))
    ∧ (∀ (mode : Rounding) (place : Nat) (sum : Int),
        let q := roundDiv mode sum 16
        let v := repeatValue mode place sum
        let lo := (rangeOf place).1
        let hi := (rangeOf place).2
        (-8 ≤ 16 * q - sum ∧ 16 * q - sum ≤ 8)
          ∧ (mode = .halfUp → 16 * q - sum ≠ -8)
          ∧ (mode = .nearestEven → 16 * q - sum = 8 ∨ 16 * q - sum = -8 → q % 2 = 0)
          ∧ (lo ≤ hi → (q < lo → v = (lo, true)) ∧ (hi < q → v = (hi, true)) ∧ (lo ≤ q → q ≤ hi → v = (q, false))))
    ∧ (∀ (e : TestEntry) (run : TestRun) (s : State),
        s.ltu.queue = [e] → s.ltu.run = some run → s.pac.test.state = .held →
          let record := testResult s.sst.contents.tests e (some run) .complete none s.uptime
          let ended := finishTest true true e .complete none s
          let told := resultFault record
            (notice (.testDone e.job e.kind e.origin .complete none run.completed e.repeats record.worst s.uptime)
              { s with
                ltu :=
                  { s.ltu with
                    queue := [], run := none
                    results := s.ltu.results.setIfInBounds e.kind.ctorIdx (some record) }
                pac :=
                  { s.pac with
                    test := { state := .free, since := s.uptime }, testInfo := none, releaseAsked := false
                    waitEnd := none, testRelayClosed := false } })
          (s.pac.link.state ≠ .waiting ∨ s.pac.hazardEnd ≠ none → ended = told)
            ∧ (s.pac.link.state = .waiting → s.pac.hazardEnd = none → ended = grantLink told))

/-! ## Faults (08) -/

/-- FAULT_PURGE (R157): every CLEARED record goes, the ACTIVE ones keep their order, and nothing else of the log or of
the retained record changes; the reply carries the number removed. -/
def Obligations.FaultPurgeRemovesCleared : Prop :=
  ∀ (tag : Byte) (rest : List Byte) (s : State), s.ready →
    Answers (.faultPurge tag rest) tag 0x4A s
      (Answer.with .ok (u8 (s.flg.log.filter (fun r => r.clearedAt.isSome)).length))
      { s.heard with flg := { s.flg with log := s.flg.log.filter (fun r => r.clearedAt.isNone) } }

/-- A report merges into the ACTIVE record of its code and source, else makes a record, evicting one from a full log
by the three steps, or is dropped; a CRITICAL one writes the retained record. The FAULT notice follows where the
severity reaches the threshold. A clearing marks the ACTIVE record. The cases of the notice are those of R154, the
fields of the record those of R158. -/
def Obligations.FaultsMergeEvictAndClear : Prop :=
  ∀ (c : FaultCode) (o : Source) (sev : Severity) (detail : List (BitVec 32)) (s : State),
    let t := report c o sev detail s
    let log := s.flg.log
    let mine := fun r : FaultRecord => r.clearedAt = none ∧ r.code = c ∧ r.source = o
    let lower := fun a b : Severity => a.ctorIdx < b.ctorIdx
    let fresh : FaultRecord :=
      { seq := s.flg.next, code := c, source := o, severity := sev, firstAt := s.uptime, lastAt := s.uptime, count := 1
        detail := detail, clearedAt := none, acked := false }
    let noticed := fun (e : FaultEvent) (r : FaultRecord) (x : State) =>
      (lower r.severity s.sst.contents.control.threshold → x.mpt = s.mpt)
        ∧ (¬ lower r.severity s.sst.contents.control.threshold → x.mpt = (notice (.fault e r) s).mpt)
    let kept := t.flg.next = s.flg.next ∧ t.flg.dropped = s.flg.dropped ∧ t.flg.evicted = s.flg.evicted
    let cleared := fun r : FaultRecord => r.clearedAt ≠ none
    let settled := fun r : FaultRecord => r.clearedAt ≠ none ∧ r.acked = true
    (∀ before r after, log = before ++ r :: after → mine r → (∀ x ∈ before, ¬ mine x) →
        (let r' :=
          { r with
            count := min (r.count + 1) 65535, lastAt := s.uptime, detail := detail, acked := false
            severity := if lower r.severity sev then sev else r.severity }
        t.flg.log = before ++ r' :: after ∧ kept
          ∧ (r.count = 1 ∨ lower r.severity sev → noticed .merged r' t)
          ∧ (r.count ≠ 1 → ¬ lower r.severity sev → t.mpt = s.mpt))
          ∧ (let r' := { r with clearedAt := some s.uptime }
            (clearFault c o s).flg = { s.flg with log := before ++ r' :: after }
              ∧ noticed .cleared r' (clearFault c o s)))
      ∧ ((∀ x ∈ log, ¬ mine x) →
          clearFault c o s = s
            ∧ (log.length < 24 →
                t.flg.log = log ++ [fresh] ∧ t.flg.next = s.flg.next + 1 ∧ t.flg.evicted = s.flg.evicted
                  ∧ t.flg.dropped = s.flg.dropped ∧ noticed .created fresh t)
            ∧ (∀ before v after, 24 ≤ log.length → log = before ++ v :: after →
                (settled v ∧ ∀ x ∈ before, ¬ settled x)
                    ∨ ((∀ x ∈ log, ¬ settled x) ∧ cleared v ∧ ∀ x ∈ before, ¬ cleared x)
                    ∨ ((∀ x ∈ log, ¬ cleared x) ∧ lower v.severity sev ∧ ∀ x ∈ before, ¬ lower x.severity sev) →
                  t.flg.log = before ++ after ++ [fresh] ∧ t.flg.next = s.flg.next + 1
                    ∧ t.flg.evicted = min (s.flg.evicted + 1) 65535 ∧ t.flg.dropped = s.flg.dropped
                    ∧ noticed .created fresh t)
            ∧ (24 ≤ log.length → (∀ x ∈ log, ¬ cleared x ∧ ¬ lower x.severity sev) →
                t.flg.log = log ∧ t.flg.next = s.flg.next ∧ t.flg.evicted = s.flg.evicted
                  ∧ t.flg.dropped = min (s.flg.dropped + 1) 65535 ∧ t.mpt = s.mpt))
      ∧ (sev ≠ .critical → t.flg.retention = s.flg.retention ∧ t.flg.writing = s.flg.writing)
      ∧ (sev = .critical →
          t.flg.writing = true ∧ t.flg.retention.startCount = s.flg.retention.startCount
            ∧ t.flg.retention.record
              = some
                  { code := c, uptime := s.uptime, startCount := s.flg.retention.startCount
                    detail0 := detail.getD 0 0, detail1 := detail.getD 1 0 })

/-- FAULT_ACK marks the record it names, or all; RETAINED_CLEAR empties the retained record; the end of the write of
that record lets a part that waits for it stop in DORMANT, where the entry that a save under way is writing is left
bad. That RETAINED_CLEAR leaves a write under way, and that one end serves every write under way, are the model's
choices (log 41). -/
def Obligations.FaultAckAndRetainedRecord : Prop :=
  (∀ (tag : Byte) (rest : List Byte) (s : State), s.ready →
      let f := s.flg
      let ans := fun args : List Byte => Answers (.faultAck tag args) tag 0x49 s
      let acked := fun p : FaultRecord → Bool =>
        { s.heard with flg := { f with log := f.log.map fun r => if p r then { r with acked := true } else r } }
      (∀ lo hi : Byte,
          let n : Seq16 := hi ++ lo
          ((∃ r ∈ f.log, r.seq = n) → ans (0x00 :: lo :: hi :: rest) Answer.ok (acked fun r => r.seq = n))
            ∧ ((∀ r ∈ f.log, r.seq ≠ n) → ans (0x00 :: lo :: hi :: rest) (Answer.refuse .wrongState) s.heard))
        ∧ ans (0x01 :: rest) Answer.ok (acked fun _ => true)
        ∧ (∀ n : Byte, 2 ≤ n.toNat → ans (n :: rest) (Answer.refuse .badArgument) s.heard)
        ∧ Answers (.retainedClear tag rest) tag 0x4C s Answer.ok
            { s.heard with
              flg := { f with retention := { f.retention with record := none, recordGood := true } } })
    ∧ (∀ s : State, s.alive = true →
        let t := { s with flg := { s.flg with writing := false } }
        (s.flg.writing = false → Does .retainedWriteDone s s)
          ∧ (s.flg.writing = true → s.psv.stopping = false → Does .retainedWriteDone s t)
          ∧ (s.flg.writing = true → s.psv.stopping = true → Does .retainedWriteDone s (stopPart t)))
    ∧ (∀ s : State,
        let t := stopPart s
        t.psv.mode = .dormant ∧ t.psv.stopping = false ∧ t.powered = s.powered ∧ t.flg = s.flg ∧ t.pending = s.pending
          ∧ t.mpt.replies = [] ∧ t.mpt.notices = [] ∧ t.mpt.sending = none ∧ t.pac.relay.pos = .copper
          ∧ (t.psv.dormantWakeAt = if s.psv.mainsInput = true then some (s.clock + 10000) else none)
          ∧ t.sst.store = .idle ∧ (s.sst.store.isSaving = false → t.sst.image = s.sst.image)
          ∧ (∀ run, s.sst.store = .saving run → t.sst.image = s.sst.image.spoil run.item))

/-! ## The maintenance channel (09) -/

/-- A maintenance request outside CARRYING does nothing; behind one in flight it is answered BUSY; else it is accepted
and answered by its kind: the open requests, and the privileged ones by remote access, lockout, access code and
arguments. The lockout flag in the notice of a wrong code is the model's reading of the layout (log 12), that
TEST_ACCEPTED stands behind the notices of its own release the model's order (log 17), the responses handed over its
choice (log 21), and so that a test kind is read by the control link's code (log 12). -/
def Obligations.MaintenanceRequestsAnswered : Prop :=
  ∀ (ref k n minutes : Byte) (code : AccessCode) (s : State), s.alive = true →
    let m := s.mcr
    let open_ : List (Instr × MaintKind) :=
      [(.summary ref, .summary), (.resultRead ref k, .resultRead), (.unknownMaintenanceRequest ref, .unknown)]
    let privileged_ : List (Instr × MaintKind) :=
      [(.testStart ref code k n, .testStart), (.loopbackStart ref code minutes, .loopbackStart),
        (.loopbackStop ref code, .loopbackStop)]
    let taken := fun kind : MaintKind =>
      { s with
        mcr :=
          { m with
            flight := some { kind := kind, ref := ref, at_ := s.clock }, accepted := min (m.accepted + 1) 65535 } }
    let answered := fun (status : MaintStatus) (data : MaintData) (t : State) =>
      { t with mcr := { t.mcr with outbox := t.mcr.outbox ++ [⟨ref, status, data⟩] } }
    let accepting := s.lks.state = .carrying ∧ m.flight = none
    let right := s.sst.contents.remote.code
    let history := m.window.filter (fun t => s.clock ≤ t + 30000) ++ [s.clock]
    let total := min (m.total + 1) 255
    let tried := fun (kind : MaintKind) (held : Nat) (locked : Bool) (t : State) =>
      notice (.remoteEvent (.wrongCode kind total held locked) s.uptime)
        (if 8 ≤ total then report .remoteIntrusion .mcr .major [d32 total] t else t)
    (∀ x ∈ open_ ++ privileged_,
        (s.lks.state ≠ .carrying → Does x.1 s s)
          ∧ (s.lks.state = .carrying → m.flight ≠ none →
              Does x.1 s
                (answered .busy .none { s with mcr := { m with refusedBusy := min (m.refusedBusy + 1) 65535 } })))
      ∧ (accepting →
          Does (.summary ref) s
              (answered .done
                (.summary s.lks.rung s.lks.history.getLast? (summaryCodes s.flg.log) s.flg.retention.record
                  (retainedCheckOf s.flg.retention.record) s.psv.stage)
                (taken .summary))
            ∧ Does (.unknownMaintenanceRequest ref) s (answered .unknownRequest .none (taken .unknown))
            ∧ (4 ≤ k.toNat → Does (.resultRead ref k) s (answered .badArgument .none (taken .resultRead)))
            ∧ (∀ kind : TestKind, kind.ctorIdx = k.toNat →
                (∀ r, s.ltu.resultOf kind = some r → r.origin ≠ .host →
                    Does (.resultRead ref k) s (answered .done (.result r) (taken .resultRead)))
                  ∧ (s.ltu.resultOf kind = none ∨ (∃ r, s.ltu.resultOf kind = some r ∧ r.origin = .host) →
                      Does (.resultRead ref k) s (answered .noResult .none (taken .resultRead)))))
      ∧ (∀ x ∈ privileged_, accepting →
          let u := taken x.2
          (s.remoteEnabled = false →
              Does x.1 s
                (answered .disabled .none
                  { u with mcr := { u.mcr with refusedDisabled := min (m.refusedDisabled + 1) 65535 } }))
            ∧ (s.remoteEnabled = true → m.lockoutEnd ≠ none →
                let v := { u with mcr := { u.mcr with refusedLocked := min (m.refusedLocked + 1) 65535 } }
                (code = right → Does x.1 s (answered .locked .none v))
                  ∧ (code ≠ right →
                      Does x.1 s
                        (answered .locked .none
                          (tried x.2 m.window.length true { v with mcr := { v.mcr with total := total } }))))
            ∧ (s.remoteEnabled = true → m.lockoutEnd = none → code ≠ right →
                (history.length < 3 →
                    Does x.1 s
                      (answered .wrongCode .none
                        (tried x.2 history.length false
                          { u with mcr := { u.mcr with total := total, window := history } })))
                  ∧ (3 ≤ history.length →
                      Does x.1 s
                        (answered .wrongCode .none
                          (notice (.remoteEvent .lockoutStarted s.uptime)
                            (tried x.2 0 true
                              { u with
                                mcr :=
                                  { u.mcr with
                                    total := total, window := [], lockoutEnd := some (s.clock + 60000) } }))))))
      ∧ (accepting → s.remoteEnabled = true → m.lockoutEnd = none → code = right →
          let u := taken .loopbackStart
          let w := taken .testStart
          let starts := fun (restarted : Bool) (t : State) =>
            Does (.loopbackStart ref code minutes) s
              (answered .done (.loopback restarted)
                (notice (.remoteEvent (.loopbackStarted minutes.toNat) s.uptime) t))
          let endAt := s.clock + minutes.toNat * 60000
          let minutesGood := 1 ≤ minutes.toNat ∧ minutes.toNat ≤ 60
          let testGood := k.toNat ≤ 3 ∧ 1 ≤ n.toNat ∧ n.toNat ≤ 16
          (¬ minutesGood → Does (.loopbackStart ref code minutes) s (answered .badArgument .none u))
            ∧ (minutesGood → s.noCall = false → Does (.loopbackStart ref code minutes) s (answered .busyVoice .none u))
            ∧ (minutesGood → s.noCall = true →
                (m.loopback = none →
                    starts false (flushPayload { u with mcr := { u.mcr with loopback := some ⟨endAt, 0⟩ } }))
                  ∧ (∀ l, m.loopback = some l →
                      starts true { u with mcr := { u.mcr with loopback := some ⟨endAt, l.cells⟩ } }))
            ∧ Does (.loopbackStop ref code) s
                (answered .done (.stopped (m.loopback.map (·.cells))) (endLoopback .stopped (taken .loopbackStop)))
            ∧ (¬ testGood → Does (.testStart ref code k n) s (answered .badArgument .none w))
            ∧ (∀ kind : TestKind, testGood → kind.ctorIdx = k.toNat →
                let r := requestTest kind .remote n.toNat true w
                let t : State :=
                  match r.1 with
                  | .accepted d job => notice (.remoteEvent (.testAccepted job d) r.2.uptime) r.2
                  | _ => r.2
                Does (.testStart ref code k n) s (if t.lks.state = .carrying then answered .done (.test r.1) t else t)))

/-- The other events of the maintenance channel: an acknowledgement of the request in flight, or its 5 s without one;
a wrong attempt leaves the window after 30 s; the lockout and the loopback end; REMOTE_COUNTS_CLEAR. -/
def Obligations.MaintenanceTimers : Prop :=
  (∀ (tag : Byte) (rest : List Byte) (s : State), s.ready →
      Answers (.remoteCountsClear tag rest) tag 0x51 s Answer.ok
        (clearFault .remoteIntrusion .mcr { s.heard with mcr := { s.mcr with total := 0 } }))
    ∧ (∀ (ref : Byte) (s : State), s.alive = true →
        let m := s.mcr
        (m.flight = none ∨ (∃ f, m.flight = some f ∧ f.ref ≠ ref) → Does (.maintenanceAck ref) s s)
          ∧ (∀ f, m.flight = some f → f.ref = ref →
              Does (.maintenanceAck ref) s
                { s with mcr := { m with flight := none, outbox := afterResponse ref m.outbox } })
          ∧ (m.flight = none → Does .maintenanceAckTimeout s s)
          ∧ (∀ f, m.flight = some f →
              Does .maintenanceAckTimeout s
                { s with
                  clock := max s.clock (f.at_ + 5000)
                  mcr := { m with flight := none, unacknowledged := min (m.unacknowledged + 1) 65535 } })
          ∧ (m.window = [] → Does .attemptWindowExpiry s s)
          ∧ (∀ t ts, m.window = t :: ts →
              Does .attemptWindowExpiry s
                { s with clock := max s.clock (t + 30000), mcr := { m with window := ts } })
          ∧ (m.lockoutEnd = none → Does .lockoutEnd s s)
          ∧ (∀ e, m.lockoutEnd = some e →
              let u : State := { s with clock := max s.clock e, mcr := { m with lockoutEnd := none } }
              Does .lockoutEnd s (notice (.remoteEvent .lockoutEnded u.uptime) u))
          ∧ (m.loopback = none → Does .loopbackExpiry s s)
          ∧ (∀ l, m.loopback = some l →
              let u : State := { s with clock := max s.clock l.endAt, mcr := { m with loopback := none } }
              Does .loopbackExpiry s (notice (.remoteEvent (.loopbackEnded .expired l.cells) u.uptime) u)))
    ∧ (∀ (cause : LoopEnd) (s : State),
        (s.mcr.loopback = none → endLoopback cause s = s)
          ∧ (∀ l, s.mcr.loopback = some l → cause ≠ .reset →
              endLoopback cause s
                = notice (.remoteEvent (.loopbackEnded cause l.cells) s.uptime)
                    { s with mcr := { s.mcr with loopback := none } }))

/-! ## Power (10) -/

/-- The mains input is declared once it has lasted 10 s PRESENT or 2 s ABSENT; mains declared bring MAINS stage, their
loss BATTERY with its stage-1 time, the end of that time CONSERVE. The supply watch gives a notice when it goes to a
mismatch. A change of stage sets the stage, its since and its cause, then LKS, RSC, HPC1 and HPC2, PAC and LTU take
it, then come the notice and the faults. Entry to CONSERVE gives a FULL rung that carries its power drop with 120 s of
call grace, made at once without a call, and begins the attempt at a FULL rung anew. Entry to LIFELINE takes the link
OFF with the claim FREE, its POWER drop counted unless it was OFF or waiting, and the relay to COPPER with reason
POWER; a part whose OFF link is at rest then has all that LIFELINE demands. A return to MAINS forgets a power drop,
begins the attempt of an enabled link that is OFF or waits for a permitted rung, checks the step-up and gives a shed
HPC2 back; BATTERY begins the attempt that waits for a permitted rung. That the blocks take the stage in this order is
the model's choice (log 17). While the part is in LIFELINE stage every step keeps what the stage demands: the link OFF
with no timer of its own and no claim, HPC2 DISABLED, the test queue empty, the relay in COPPER or on its way there
with no LOCAL request kept. A start in LIFELINE has it. -/
def Obligations.MainsAndStages : Prop :=
  ((∀ (present : Bool) (s : State),
       let p := s.psv
       let does := fun p' : Psv => Does (.mainsInputChange present) s { s with psv := p' }
       (p.mainsInput = present → does p)
         ∧ (p.mainsInput ≠ present → s.alive = true →
             does
               { p with
                 mainsInput := present
                 debounceEnd :=
                   if present = p.mainsDeclared then none else some (s.clock + if present = true then 10000 else 2000) })
         ∧ (p.mainsInput ≠ present → s.powered = true → p.mode = .dormant →
             does
               { p with
                 mainsInput := present, dormantWakeAt := if present = true then some (s.clock + 10000) else none })
         ∧ (p.mainsInput ≠ present → s.powered = false → does { p with mainsInput := present }))
     ∧ (∀ s : State, s.alive = true →
         (s.psv.debounceEnd = none → Does .mainsDebounceExpiry s s)
           ∧ (∀ e, s.psv.debounceEnd = some e →
               Does .mainsDebounceExpiry s (declareMains (!s.psv.mainsDeclared) { s with clock := max s.clock e }))
           ∧ (s.psv.stage1End = none → Does .stage1Timeout s s)
           ∧ (∀ e, s.psv.stage1End = some e → s.psv.stage ≠ .battery →
               Does .stage1Timeout s { s with clock := max s.clock e })
           ∧ (∀ e, s.psv.stage1End = some e → s.psv.stage = .battery →
               ∃ t, Does .stage1Timeout s t ∧ t.clock = max s.clock e ∧ t.psv.stage1End = none
                 ∧ (s.psv.belowLifeline ≠ 3 → t.psv.stage = .conserve ∧ t.psv.cause = .stage1Time)
                 ∧ (s.psv.belowLifeline = 3 → t.psv.stage = .lifeline ∧ t.psv.cause = .lifelineThreshold)))
     ∧ (∀ (present : Bool) (s : State),
         let t := declareMains present s
         (t.psv.mainsDeclared = present ∧ t.psv.debounceEnd = none)
           ∧ (present = true → t.psv.stage = .mains)
           ∧ (present = true → s.psv.stage ≠ .mains → t.psv.cause = .mainsPresent ∧ t.psv.stage1End = none)
           ∧ (present = false → s.psv.stage = .mains → s.psv.belowConserve ≠ 3 → s.psv.belowLifeline ≠ 3 →
               t.psv.stage = .battery ∧ t.psv.cause = .mainsAbsent ∧ t.psv.stageSince = s.uptime
                 ∧ t.psv.stage1End = some (s.clock + s.sst.contents.power.stage1Min * 60000)))
     ∧ (∀ (stage : HoldStage) (cause : StageCause) (s : State),
         let t := enterStage stage cause s
         (t.psv.stage = stage ∧ t.psv.cause = cause ∧ t.psv.stageSince = s.uptime
             ∧ t.psv.stageChanges = min (s.psv.stageChanges + 1) 65535)
           ∧ t.rsc.capacity = capacityOf stage
           ∧ (stage = .conserve ∨ stage = .lifeline → t.ltu.queue = [])
           ∧ (stage = .lifeline → t.hpc2.state = .disabled))
     ∧ (∀ s : State,
         let now := s.conditions
         let fits := Conditions.matches s.psv.watchMask s.psv.watchPattern now
         let t := { s with psv := { s.psv with matching := fits } }
         (s.psv.matching = true → fits = false →
             watchCheck s = notice (.supplyWatch now s.psv.watchMask s.psv.watchPattern s.uptime) t)
           ∧ (s.psv.matching = false ∨ fits = true → watchCheck s = t)))
    ∧ ((∀ (stage : HoldStage) (cause : StageCause) (s : State),
           let p := s.psv
           let entered : State :=
             { s with
               psv :=
                 { p with
                   stage := stage, cause := cause, stageSince := s.uptime
                   stage1From := if stage = .battery then s.clock else p.stage1From
                   stage1End :=
                     if stage = .battery then some (s.clock + s.sst.contents.power.stage1Min * 60000) else none
                   stageChanges := min (p.stageChanges + 1) 65535 } }
           let told := testStage (pairStage (portStage (supplyStage (linkStage entered))))
           enterStage stage cause s
             = stageFaults (notice (.powerStage stage (some p.stage) cause told.psv.battery told.uptime) told))
         ∧ (∀ s : State,
             let level := d32 s.psv.battery
             (s.psv.stage = .mains → stageFaults s = clearFault .batteryLow .psv (clearFault .mainsLost .psv s))
               ∧ (s.psv.stage = .battery → stageFaults s = report .mainsLost .psv .major [level] s)
               ∧ (s.psv.stage = .conserve → stageFaults s = report .batteryLow .psv .major [level, 2#32] s)
               ∧ (s.psv.stage = .lifeline → stageFaults s = report .batteryLow .psv .major [level, 3#32] s))
         ∧ (∀ s : State, s.psv.stage = .conserve →
             let k := s.lks
             let t : State := { s with lks := { k with trial := k.trial.filter fun x => x.watchEnd.isSome } }
             let full := ∃ r, rungIn k.ladder k.rung = some r ∧ r.power = .full
             let due : State := { t with lks := { t.lks with powerDropEnd := some (s.clock + 120000) } }
             let call := s.hpc1.state = .connected ∨ s.hpc2.state = .connected
             let acts := k.state = .carrying ∨ k.state = .greeting ∨ k.state = .training
             let barred := k.state = .waiting ∧ k.wait = some .noPermittedRung
             (full → k.state = .carrying → call → linkStage s = due)
               ∧ (full → k.state = .carrying → ¬ call →
                   linkStage s = dropOrderly .power .waiting none { due with lks := { due.lks with trial := none } })
               ∧ (full → k.state = .greeting ∨ k.state = .training →
                   linkStage s = beginAttempt .other (abandonAttempt t))
               ∧ (¬ full ∨ ¬ acts → barred → linkStage s = beginAttempt .other t)
               ∧ (¬ full ∨ ¬ acts → ¬ barred → linkStage s = t))
         ∧ (∀ s : State,
             let k := s.lks
             let barred := k.state = .waiting ∧ k.wait = some .noPermittedRung
             let starts := (k.state = .off ∧ k.enabled = true) ∨ barred
             let kept : State := { s with lks := { k with powerDropEnd := none } }
             let t : State := { s with lks := { k with trial := k.trial.filter fun x => x.watchEnd.isSome } }
             (s.psv.stage = .mains → starts → linkStage s = stepUpCheck (beginAttempt .other kept))
               ∧ (s.psv.stage = .mains → ¬ starts → linkStage s = stepUpCheck kept)
               ∧ (s.psv.stage = .battery → barred → linkStage s = beginAttempt .other t)
               ∧ (s.psv.stage = .battery → ¬ barred → linkStage s = t))
         ∧ (∀ s : State,
             let q := s.hpc2
             let shed := q.state = .disabled ∧ q.cause = some .power
             (s.psv.stage = .mains → (shed → portStage s = enterIdle .two s) ∧ (¬ shed → portStage s = s))
               ∧ (s.psv.stage = .battery → portStage s = s)
               ∧ (s.psv.stage = .conserve →
                   (q.state = .idle → portStage s = enterDisabled .power .two s) ∧ (q.state ≠ .idle → portStage s = s))
               ∧ (s.psv.stage = .lifeline →
                   (q.state = .disabled → portStage s = s)
                     ∧ (q.state ≠ .disabled → portStage s = enterDisabled .power .two s)))
         ∧ (∀ (cause : StageCause) (s : State), s.atRest → (enterStage .lifeline cause s).inLifeline)
         ∧ (∀ s : State, s.pac.link.state ≠ .free → s.pac.test.state ≠ .waiting →
             abandonAttempt s
               = { s with
                   lks := { s.lks with greetingEnd := none, trainingEnd := none, trial := none }
                   pac := { s.pac with link := { state := .free, since := s.uptime } } })
         ∧ (∀ s : State, s.psv.stage = .lifeline →
             let k := s.lks
             let t := linkStage s
             let undropped := k.state = .off ∨ k.state = .waiting
             (t.lks.state = .off ∧ t.lks.enabled = k.enabled ∧ t.lks.backoff = k.backoff)
               ∧ (k.state ≠ .off → t.pac.link.state = .free ∧ t.lks.backoffEnd = none ∧ t.lks.releasingEnd = none)
               ∧ (undropped → t.lks.lastDrop = k.lastDrop ∧ t.lks.drops = k.drops)
               ∧ (¬ undropped →
                   t.lks.lastDrop = some .power
                     ∧ t.lks.drops
                       = k.drops.setIfInBounds DropReason.power.ctorIdx
                           (min ((k.drops[DropReason.power.ctorIdx]?).getD 0 + 1) 65535))
               ∧ (k.state = .carrying →
                   (t.lks.powerDropEnd = none ∧ t.lks.retrainEnd = none ∧ t.lks.carryingSince = none)
                     ∧ t.lks.payload.up = [] ∧ t.lks.payload.down = []))
         ∧ (∀ s : State,
             let r := s.pac.relay
             let t := pairStage s
             (s.psv.stage ≠ .lifeline → t = s)
               ∧ (s.psv.stage = .lifeline →
                   t = copperCause .power s
                     ∧ (r.move = none → r.pos = .copper → t.pac.relay = { r with reason := .power, deferred := false })
                     ∧ (∀ m, r.move = some m → m.target = .copper →
                         t.pac.relay = { r with move := some { m with reason := .power } })
                     ∧ (r.pos = .localPort → r.move = none ∨ (∃ m, r.move = some m ∧ m.target = .localPort) →
                         t.pac.relay.pos = .localPort
                           ∧ t.pac.relay.move = some
                               { target := .copper, doneAt := s.clock + 30, reason := .power, carriesOut := false }))))
    ∧ ((∀ s t : State, s.inLifeline → step s = .next t → t.psv.stage = .lifeline → t.inLifeline)
         ∧ (∀ (c : Instr) (s t : State), s.inLifeline → exec c s = .next t → t.psv.stage = .lifeline → t.inLifeline)
         ∧ (∀ (reason : StartReason) (s : State),
             let t := fullReset reason s
             s.psv.stopping = false → t.psv.stage = .lifeline → t.inLifeline))

/-- A battery reading moves the three below counts and is judged; in MAINS it changes no stage, in BATTERY and
CONSERVE a count of three readings below its threshold lowers the stage, in LIFELINE the cutoff begins the stop of the
part with its CRITICAL fault. The enclosure follows its switch after 50 ms. SUPPLY_WATCH_SET replaces the watch. The
row THRESHOLD_MET carries the reading that brings it about and does what that reading does (log 5), and bits above the
four conditions are dropped (log 13); what a wake delay kept is not taken at the cutoff (log 42): all three are the
model's choices. -/
def Obligations.BatteryEnclosureAndWatch : Prop :=
  (∀ (mv : Nat) (s : State), s.alive = true →
      let p := s.psv
      let limits := s.sst.contents.power
      let count := fun limit n : Nat => if mv < limit then min (n + 1) 3 else 0
      let read :=
        { s with
          clock := max s.clock p.readingAt
          psv :=
            { p with
              readingAt := p.readingAt + 1000, batteryInput := mv, battery := mv
              belowConserve := count limits.conserve p.belowConserve
              belowLifeline := count limits.lifeline p.belowLifeline
              belowCutoff := count limits.cutoff p.belowCutoff } }
      let third := fun limit n : Nat => mv < limit ∧ n = 2
      (p.stage = .mains → Does (.batteryReading mv) s (watchCheck read))
        ∧ (p.stage = .battery → read.psv.belowConserve ≠ 3 → read.psv.belowLifeline ≠ 3 →
            Does (.batteryReading mv) s (watchCheck read))
        ∧ (p.stage = .battery → read.psv.belowConserve = 3 → read.psv.belowLifeline ≠ 3 →
            ∃ t, Does (.batteryReading mv) s t ∧ t.psv.stage = .conserve ∧ t.psv.cause = .conserveThreshold)
        ∧ (p.stage = .battery ∨ p.stage = .conserve → read.psv.belowLifeline = 3 →
            ∃ t, Does (.batteryReading mv) s t ∧ t.psv.stage = .lifeline ∧ t.psv.cause = .lifelineThreshold)
        ∧ (p.stage = .conserve → read.psv.belowLifeline ≠ 3 → Does (.batteryReading mv) s (watchCheck read))
        ∧ (p.stage = .lifeline → read.psv.belowCutoff ≠ 3 ∨ p.stopping = true ∨ s.loading = true →
            Does (.batteryReading mv) s (watchCheck read))
        ∧ (p.stage = .lifeline → read.psv.belowCutoff = 3 → p.stopping = false → s.loading = false →
            Does (.batteryReading mv) s
              (watchCheck
                (report .batteryExhausted .psv .critical [d32 mv, d32 limits.cutoff]
                  { read with
                    psv := { read.psv with mode := .active, wake := none, sleepGranted := false, stopping := true } })))
        ∧ (third limits.conserve p.belowConserve ∨ third limits.lifeline p.belowLifeline
              ∨ third limits.cutoff p.belowCutoff →
            exec (.thresholdMet mv) s = exec (.batteryReading mv) s)
        ∧ (¬ third limits.conserve p.belowConserve → ¬ third limits.lifeline p.belowLifeline →
            ¬ third limits.cutoff p.belowCutoff → Does (.thresholdMet mv) s s))
    ∧ (∀ (isOpen : Bool) (s : State),
        let p := s.psv
        let does := fun p' : Psv => Does (.enclosureInputChange isOpen) s { s with psv := p' }
        (p.enclosureInputOpen = isOpen → does p)
          ∧ (p.enclosureInputOpen ≠ isOpen → s.alive = true →
              does
                { p with
                  enclosureInputOpen := isOpen
                  enclosureEnd := if isOpen = p.enclosureOpen then none else some (s.clock + 50) })
          ∧ (p.enclosureInputOpen ≠ isOpen → s.alive = false → does { p with enclosureInputOpen := isOpen }))
    ∧ (∀ s : State, s.alive = true →
        (s.psv.enclosureEnd = none → Does .enclosureDebounceExpiry s s)
          ∧ (∀ e, s.psv.enclosureEnd = some e →
              let u := fun isOpen : Bool =>
                { s with
                  clock := max s.clock e, psv := { s.psv with enclosureOpen := isOpen, enclosureEnd := none } }
              (s.psv.enclosureOpen = false →
                  Does .enclosureDebounceExpiry s (watchCheck (report .enclosureOpen .psv .info [] (u true))))
                ∧ (s.psv.enclosureOpen = true →
                    Does .enclosureDebounceExpiry s (watchCheck (clearFault .enclosureOpen .psv (u false))))))
    ∧ (∀ (tag mask pattern : Byte) (rest : List Byte) (s : State), s.ready →
        let chosen := fun b : Byte =>
          (⟨b.getLsbD 0, b.getLsbD 1, b.getLsbD 2, b.getLsbD 3⟩ : Conditions)
        let fits := Conditions.matches (chosen mask) (chosen pattern) s.conditions
        Answers (.supplyWatchSet tag (mask :: pattern :: rest)) tag 0x59 s
          (Answer.with .ok (u8 s.conditions.toNat ++ flag fits))
          { s.heard with
            psv := { s.heard.psv with watchMask := chosen mask, watchPattern := chosen pattern, matching := fits } })

/-! ## Starts and resets -/

/-- Power arrives at a part without power, and mains of 10 s wake a part in DORMANT: every block starts afresh, FLG
checks the retention domain, the image is loaded. The loss of power spoils a retained record that is being written and
the entry that a save is writing. -/
def Obligations.PowerArrivesAndGoes : Prop :=
  (∀ (mains isOpen recordKept countKept : Bool) (mv : Nat) (s : State),
      let t := checkedStart .powerOn mains mv isOpen recordKept countKept s
      let u := checkedStart .mainsReturn true mv s.psv.enclosureInputOpen recordKept countKept s
      let recordOk := s.flg.retention.recordGood = true ∧ recordKept = true
      let countOk := s.flg.retention.countGood = true ∧ countKept = true
      (s.powered = true → Does (.powerOn mains mv isOpen recordKept countKept) s s)
        ∧ (s.powered = false → Does (.powerOn mains mv isOpen recordKept countKept) s t)
        ∧ (s.powered = true → s.psv.mode = .dormant → s.psv.dormantWakeAt ≠ none →
            Does (.dormantWake mv recordKept countKept) s u)
        ∧ (s.powered = false ∨ s.psv.mode ≠ .dormant ∨ s.psv.dormantWakeAt = none →
            Does (.dormantWake mv recordKept countKept) s s)
        ∧ (∀ x ∈ [t, u],
            (x.clock = 0 ∧ x.powered = true ∧ x.pending = s.pending ∧ x.mpt = Mpt.start ∧ x.pac = Pac.start
                ∧ x.lks = Lks.start ∧ x.hpc1 = Port.startOne s.hpc1.loopClosed ∧ x.hpc2 = Port.startTwo s.hpc2.loopClosed
                ∧ x.seq1 = Sequencer.start ∧ x.seq2 = Sequencer.start ∧ x.ltu = Ltu.start ∧ x.mcr = Mcr.start)
              ∧ (x.flg.next = 0 ∨ x.flg.next = 1) ∧ x.flg.dropped = 0 ∧ x.flg.evicted = 0
              ∧ (recordOk → x.flg.retention.record = s.flg.retention.record)
              ∧ (¬ recordOk → x.flg.retention.record = none)
              ∧ (countOk → x.flg.retention.startCount = min (s.flg.retention.startCount + 1) 65535)
              ∧ (¬ countOk → x.flg.retention.startCount = 1)
              ∧ (recordOk → countOk → x.flg.log = [] ∧ x.flg.lost = none)
              ∧ (¬ (recordOk ∧ countOk) →
                  ∃ lost, x.flg.lost = some lost ∧ x.flg.log = [retentionRecord lost]
                    ∧ (lost = .record ↔ countOk) ∧ (lost = .count ↔ recordOk)))
        ∧ (t.psv = Psv.start mains mv isOpen ∧ t.rsc = Rsc.start t.psv.stage ∧ t.sst.store = .loading
            ∧ t.sst.reason = .powerOn)
        ∧ (u.psv = Psv.start true mv s.psv.enclosureInputOpen ∧ u.rsc = Rsc.start .mains ∧ u.sst.store = .loading
            ∧ u.sst.reason = .mainsReturn)
        ∧ (mains = true → t.psv.stage = .mains)
        ∧ (mains = false →
            (11800 ≤ mv → t.psv.stage = .battery ∧ t.psv.stage1End = some 1800000)
              ∧ (11200 ≤ mv → mv < 11800 → t.psv.stage = .conserve)
              ∧ (mv < 11200 → t.psv.stage = .lifeline)))
    ∧ (∀ s : State,
        let t := losePower s
        (s.powered = false → Does .powerLoss s s) ∧ (s.powered = true → Does .powerLoss s t)
          ∧ t.powered = false ∧ t.pending = s.pending ∧ t.pac.relay.pos = .copper
          ∧ t.flg.retention.record = s.flg.retention.record ∧ t.flg.retention.startCount = s.flg.retention.startCount
          ∧ (t.flg.retention.recordGood = true ↔ s.flg.retention.recordGood = true ∧ s.flg.writing = false)
          ∧ (∀ run, s.sst.store = .saving run → t.sst.image = s.sst.image.spoil run.item)
          ∧ (s.sst.store.isSaving = false → t.sst.image = s.sst.image))

/-- What a LINES reset leaves: the sequencers, the ring supply, the test queue, the digits and the capture queues are
empty, no loopback runs, the link follows the autostart setting with the least backoff, no port is in a call; power,
settings, the retention domain and MCR's attempts stand. The order of the blocks is the model's choice (log 26). What
a LINES reset leaves of the pair, of MPT, of the test results and of the fault log: the copper side, the relay and the
hazard hold as they were (that the LIFELINE claim keeps its former uptime is the model's choice, log 34), the LINK
claim FREE before the autostart attempt, the TEST claim FREE with its relay open, the deferred request gone; MPT's
queues and counts kept, with the reset's notices behind; every result but the head's kept; the log without a test's
end or an attempt changed by clearings alone. -/
def Obligations.LinesResetLeaves : Prop :=
  (∀ s : State,
     let t := linesReset s
     t.seq1.run = none ∧ t.seq2.run = none
       ∧ (t.rsc.state = .off ∧ t.rsc.bursts = [] ∧ t.rsc.waits = [] ∧ t.rsc.history = [] ∧ t.rsc.capacity = s.rsc.capacity)
       ∧ (t.hpc1.digits = [] ∧ t.hpc2.digits = [] ∧ t.hpc1.voice.capture = [] ∧ t.hpc2.voice.capture = [])
       ∧ (t.ltu.queue = [] ∧ t.ltu.nextJob = s.ltu.nextJob)
       ∧ (t.mcr.loopback = none ∧ t.mcr.window = s.mcr.window ∧ t.mcr.total = s.mcr.total
         ∧ t.mcr.lockoutEnd = s.mcr.lockoutEnd)
       ∧ (t.lks.enabled = s.sst.contents.control.autostart ∧ t.lks.backoff = 15 ∧ t.lks.retrainEnd = none
         ∧ t.lks.powerDropEnd = none ∧ t.lks.state ≠ .carrying)
       ∧ t.pac.relay.deferred = false
       ∧ (∀ p : PortId, (s.port p).state.isLocal = true → (t.port p).state = .idle ∨ (t.port p).state = .disabled
           ∨ (t.port p).state = .switching)
       ∧ t.psv = s.psv ∧ t.sst = s.sst ∧ t.clock = s.clock ∧ t.powered = s.powered ∧ t.pending = s.pending
       ∧ t.flg.retention = s.flg.retention)
    ∧ (∀ s : State,
         let t := linesReset s
         let p := s.pac
         let autostart := s.sst.contents.control.autostart
         (t.pac.lifeline = p.lifeline ∧ t.pac.copperActive = p.copperActive ∧ t.pac.copperOffHook = p.copperOffHook
             ∧ t.pac.ringSession = p.ringSession ∧ t.pac.ringBurst = p.ringBurst ∧ t.pac.sessionEnd = p.sessionEnd
             ∧ t.pac.hazardEnd = p.hazardEnd ∧ t.pac.hazardHigh = p.hazardHigh)
           ∧ (t.pac.relay.pos = p.relay.pos ∧ t.pac.relay.reason = p.relay.reason
             ∧ (∀ m, p.relay.move = some m → t.pac.relay.move = some m)
             ∧ (p.relay.move = none → s.sst.contents.control.autoLifeline = false → t.pac.relay.move = none))
           ∧ (autostart = false ∨ s.psv.stage = .lifeline → s.lks.state ≠ .off ∨ p.link.state = .free →
               t.pac.link.state = .free)
           ∧ (s.ltu.queue ≠ [] → p.test.state ≠ .free →
               t.pac.test.state = .free ∧ t.pac.testInfo = none ∧ t.pac.testRelayClosed = false ∧ t.pac.waitEnd = none)
           ∧ (s.ltu.queue = [] → p.test.state = .free → t.pac.test = p.test)
           ∧ (s.lks.state = .carrying → t.pac.absenceFrom = some s.clock ∧ t.pac.absenceTaken = false)
           ∧ (t.mpt = { s.mpt with notices := t.mpt.notices, lost := t.mpt.lost }
             ∧ ∃ more, t.mpt.notices = s.mpt.notices ++ more)
           ∧ (s.ltu.queue = [] → t.ltu.results = s.ltu.results)
           ∧ (∀ e rest, s.ltu.queue = e :: rest →
               (∀ k : TestKind, k ≠ e.kind → t.ltu.results[k.ctorIdx]? = s.ltu.results[k.ctorIdx]?)
                 ∧ ∃ r, t.ltu.results[e.kind.ctorIdx]? = some (some r) ∧ r.job = e.job ∧ r.abort = some .reset)
           ∧ (s.ltu.queue = [] → autostart = false →
               t.flg.log.length = s.flg.log.length ∧ t.flg.next = s.flg.next ∧ t.flg.dropped = s.flg.dropped
                 ∧ t.flg.evicted = s.flg.evicted))

/-- LINK_STATUS (R37) and POWER_STATUS (R187): replied OK with the fields their rules list, in that order, changing
nothing. -/
def Obligations.LinkAndPowerStatusReplies : Prop :=
  ∀ (tag : Byte) (rest : List Byte) (s : State), s.ready →
    let k := s.lks
    let p := s.psv
    let rung := fun r : RungRecord =>
      u8 r.number ++ u16 r.down ++ u16 r.up ++ u8 r.minMargin ++ u8 r.interleave ++ u8 r.protection ++ u8 r.power.ctorIdx
    let seconds := fun t : Nat => (t - s.clock + 999) / 1000
    Answers (.linkStatus tag rest) tag 0x24 s
        (Answer.with .ok
          (u8 k.state.ctorIdx ++ flag k.enabled ++ opt 1 (fun w => u8 (WaitReason.ctorIdx w)) k.wait
            ++ opt 1 (fun d => u8 (ReleaseDest.ctorIdx d)) k.dest ++ opt 1 (fun r => u8 (DropReason.ctorIdx r)) k.lastDrop
            ++ opt 1 (fun o => u8 (FailOutcome.ctorIdx o)) k.lastFail
            ++ (u8 k.ladder.length ++ k.ladder.flatMap rung) ++ u8 k.rung ++ u16 k.backoff
            ++ opt 2 (fun t => u16 (seconds t)) k.backoffEnd ++ opt 4 (fun t => u32 (t / 1000)) k.carryingSince
            ++ opt 12 (fun a : Attained => u32 a.down ++ u32 a.up ++ u32 a.margin) k.attained
            ++ opt 1 (fun t => u8 (seconds t)) k.powerDropEnd ++ u16 k.attempts ++ u16 k.failures
            ++ k.drops.toList.flatMap u16 ++ u32 k.payload.sent ++ u32 k.payload.handed ++ u32 k.payload.overflow
            ++ u32 k.payload.flushed ++ flag s.mcr.loopback.isSome))
        s.heard
      ∧ Answers (.powerStatus tag rest) tag 0x58 s
          (Answer.with .ok
            (u8 p.stage.ctorIdx ++ u32 p.stageSince ++ u8 p.cause.ctorIdx ++ u8 (if p.mainsInput = true then 0 else 1)
              ++ u8 (if p.mainsDeclared = true then 0 else 1) ++ flag p.debounceEnd.isSome
              ++ opt 1 (fun t => u8 (seconds t)) p.debounceEnd ++ u32 p.battery ++ u8 p.belowConserve
              ++ u8 p.belowLifeline ++ u8 p.belowCutoff ++ flag (6000 ≤ p.battery) ++ flag (p.belowConserve = 3)
              ++ opt 2 (fun t => u16 (seconds t)) p.stage1End ++ u8 (if p.enclosureOpen = true then 0 else 1)
              ++ u8 p.mode.ctorIdx ++ u8 p.watchMask.toNat ++ u8 p.watchPattern.toNat ++ flag p.matching
              ++ u16 p.stageChanges ++ u16 p.sleepsGranted ++ u16 p.sleepsRefused ++ u16 p.wakes
              ++ (let t := s.sst.contents.power
                u16 t.conserve ++ u16 t.lifeline ++ u16 t.cutoff ++ u8 t.stage1Min ++ flag t.fastWake)))
          s.heard
end

