-- ==== Sys2Proof/Laws/State.lean ====
section
/-! SUPPORT. What each field of State is after each access of Machine/Ops.lean. -/

namespace Sys2Proof.Machine

open Sys2Proof

variable (s : State) (p : PortId)

/-! ## onMpt -/

@[simp] theorem State.onMpt_clock (f : Mpt → Mpt) : (s.onMpt f).clock = s.clock := rfl
@[simp] theorem State.onMpt_powered (f : Mpt → Mpt) : (s.onMpt f).powered = s.powered := rfl
@[simp] theorem State.onMpt_free (f : Mpt → Mpt) : (s.onMpt f).free = s.free := rfl
@[simp] theorem State.onMpt_pending (f : Mpt → Mpt) : (s.onMpt f).pending = s.pending := rfl
@[simp] theorem State.onMpt_mpt (f : Mpt → Mpt) : (s.onMpt f).mpt = f s.mpt := rfl
@[simp] theorem State.onMpt_pac (f : Mpt → Mpt) : (s.onMpt f).pac = s.pac := rfl
@[simp] theorem State.onMpt_lks (f : Mpt → Mpt) : (s.onMpt f).lks = s.lks := rfl
@[simp] theorem State.onMpt_hpc1 (f : Mpt → Mpt) : (s.onMpt f).hpc1 = s.hpc1 := rfl
@[simp] theorem State.onMpt_hpc2 (f : Mpt → Mpt) : (s.onMpt f).hpc2 = s.hpc2 := rfl
@[simp] theorem State.onMpt_seq1 (f : Mpt → Mpt) : (s.onMpt f).seq1 = s.seq1 := rfl
@[simp] theorem State.onMpt_seq2 (f : Mpt → Mpt) : (s.onMpt f).seq2 = s.seq2 := rfl
@[simp] theorem State.onMpt_rsc (f : Mpt → Mpt) : (s.onMpt f).rsc = s.rsc := rfl
@[simp] theorem State.onMpt_ltu (f : Mpt → Mpt) : (s.onMpt f).ltu = s.ltu := rfl
@[simp] theorem State.onMpt_flg (f : Mpt → Mpt) : (s.onMpt f).flg = s.flg := rfl
@[simp] theorem State.onMpt_mcr (f : Mpt → Mpt) : (s.onMpt f).mcr = s.mcr := rfl
@[simp] theorem State.onMpt_psv (f : Mpt → Mpt) : (s.onMpt f).psv = s.psv := rfl
@[simp] theorem State.onMpt_sst (f : Mpt → Mpt) : (s.onMpt f).sst = s.sst := rfl
@[simp] theorem State.onMpt_port (f : Mpt → Mpt) : (s.onMpt f).port p = s.port p := by cases p <;> rfl
@[simp] theorem State.onMpt_seq (f : Mpt → Mpt) : (s.onMpt f).seq p = s.seq p := by cases p <;> rfl

/-! ## onPac -/

@[simp] theorem State.onPac_clock (f : Pac → Pac) : (s.onPac f).clock = s.clock := rfl
@[simp] theorem State.onPac_powered (f : Pac → Pac) : (s.onPac f).powered = s.powered := rfl
@[simp] theorem State.onPac_free (f : Pac → Pac) : (s.onPac f).free = s.free := rfl
@[simp] theorem State.onPac_pending (f : Pac → Pac) : (s.onPac f).pending = s.pending := rfl
@[simp] theorem State.onPac_mpt (f : Pac → Pac) : (s.onPac f).mpt = s.mpt := rfl
@[simp] theorem State.onPac_pac (f : Pac → Pac) : (s.onPac f).pac = f s.pac := rfl
@[simp] theorem State.onPac_lks (f : Pac → Pac) : (s.onPac f).lks = s.lks := rfl
@[simp] theorem State.onPac_hpc1 (f : Pac → Pac) : (s.onPac f).hpc1 = s.hpc1 := rfl
@[simp] theorem State.onPac_hpc2 (f : Pac → Pac) : (s.onPac f).hpc2 = s.hpc2 := rfl
@[simp] theorem State.onPac_seq1 (f : Pac → Pac) : (s.onPac f).seq1 = s.seq1 := rfl
@[simp] theorem State.onPac_seq2 (f : Pac → Pac) : (s.onPac f).seq2 = s.seq2 := rfl
@[simp] theorem State.onPac_rsc (f : Pac → Pac) : (s.onPac f).rsc = s.rsc := rfl
@[simp] theorem State.onPac_ltu (f : Pac → Pac) : (s.onPac f).ltu = s.ltu := rfl
@[simp] theorem State.onPac_flg (f : Pac → Pac) : (s.onPac f).flg = s.flg := rfl
@[simp] theorem State.onPac_mcr (f : Pac → Pac) : (s.onPac f).mcr = s.mcr := rfl
@[simp] theorem State.onPac_psv (f : Pac → Pac) : (s.onPac f).psv = s.psv := rfl
@[simp] theorem State.onPac_sst (f : Pac → Pac) : (s.onPac f).sst = s.sst := rfl
@[simp] theorem State.onPac_port (f : Pac → Pac) : (s.onPac f).port p = s.port p := by cases p <;> rfl
@[simp] theorem State.onPac_seq (f : Pac → Pac) : (s.onPac f).seq p = s.seq p := by cases p <;> rfl

/-! ## onLks -/

@[simp] theorem State.onLks_clock (f : Lks → Lks) : (s.onLks f).clock = s.clock := rfl
@[simp] theorem State.onLks_powered (f : Lks → Lks) : (s.onLks f).powered = s.powered := rfl
@[simp] theorem State.onLks_free (f : Lks → Lks) : (s.onLks f).free = s.free := rfl
@[simp] theorem State.onLks_pending (f : Lks → Lks) : (s.onLks f).pending = s.pending := rfl
@[simp] theorem State.onLks_mpt (f : Lks → Lks) : (s.onLks f).mpt = s.mpt := rfl
@[simp] theorem State.onLks_pac (f : Lks → Lks) : (s.onLks f).pac = s.pac := rfl
@[simp] theorem State.onLks_lks (f : Lks → Lks) : (s.onLks f).lks = f s.lks := rfl
@[simp] theorem State.onLks_hpc1 (f : Lks → Lks) : (s.onLks f).hpc1 = s.hpc1 := rfl
@[simp] theorem State.onLks_hpc2 (f : Lks → Lks) : (s.onLks f).hpc2 = s.hpc2 := rfl
@[simp] theorem State.onLks_seq1 (f : Lks → Lks) : (s.onLks f).seq1 = s.seq1 := rfl
@[simp] theorem State.onLks_seq2 (f : Lks → Lks) : (s.onLks f).seq2 = s.seq2 := rfl
@[simp] theorem State.onLks_rsc (f : Lks → Lks) : (s.onLks f).rsc = s.rsc := rfl
@[simp] theorem State.onLks_ltu (f : Lks → Lks) : (s.onLks f).ltu = s.ltu := rfl
@[simp] theorem State.onLks_flg (f : Lks → Lks) : (s.onLks f).flg = s.flg := rfl
@[simp] theorem State.onLks_mcr (f : Lks → Lks) : (s.onLks f).mcr = s.mcr := rfl
@[simp] theorem State.onLks_psv (f : Lks → Lks) : (s.onLks f).psv = s.psv := rfl
@[simp] theorem State.onLks_sst (f : Lks → Lks) : (s.onLks f).sst = s.sst := rfl
@[simp] theorem State.onLks_port (f : Lks → Lks) : (s.onLks f).port p = s.port p := by cases p <;> rfl
@[simp] theorem State.onLks_seq (f : Lks → Lks) : (s.onLks f).seq p = s.seq p := by cases p <;> rfl

/-! ## onRsc -/

@[simp] theorem State.onRsc_clock (f : Rsc → Rsc) : (s.onRsc f).clock = s.clock := rfl
@[simp] theorem State.onRsc_powered (f : Rsc → Rsc) : (s.onRsc f).powered = s.powered := rfl
@[simp] theorem State.onRsc_free (f : Rsc → Rsc) : (s.onRsc f).free = s.free := rfl
@[simp] theorem State.onRsc_pending (f : Rsc → Rsc) : (s.onRsc f).pending = s.pending := rfl
@[simp] theorem State.onRsc_mpt (f : Rsc → Rsc) : (s.onRsc f).mpt = s.mpt := rfl
@[simp] theorem State.onRsc_pac (f : Rsc → Rsc) : (s.onRsc f).pac = s.pac := rfl
@[simp] theorem State.onRsc_lks (f : Rsc → Rsc) : (s.onRsc f).lks = s.lks := rfl
@[simp] theorem State.onRsc_hpc1 (f : Rsc → Rsc) : (s.onRsc f).hpc1 = s.hpc1 := rfl
@[simp] theorem State.onRsc_hpc2 (f : Rsc → Rsc) : (s.onRsc f).hpc2 = s.hpc2 := rfl
@[simp] theorem State.onRsc_seq1 (f : Rsc → Rsc) : (s.onRsc f).seq1 = s.seq1 := rfl
@[simp] theorem State.onRsc_seq2 (f : Rsc → Rsc) : (s.onRsc f).seq2 = s.seq2 := rfl
@[simp] theorem State.onRsc_rsc (f : Rsc → Rsc) : (s.onRsc f).rsc = f s.rsc := rfl
@[simp] theorem State.onRsc_ltu (f : Rsc → Rsc) : (s.onRsc f).ltu = s.ltu := rfl
@[simp] theorem State.onRsc_flg (f : Rsc → Rsc) : (s.onRsc f).flg = s.flg := rfl
@[simp] theorem State.onRsc_mcr (f : Rsc → Rsc) : (s.onRsc f).mcr = s.mcr := rfl
@[simp] theorem State.onRsc_psv (f : Rsc → Rsc) : (s.onRsc f).psv = s.psv := rfl
@[simp] theorem State.onRsc_sst (f : Rsc → Rsc) : (s.onRsc f).sst = s.sst := rfl
@[simp] theorem State.onRsc_port (f : Rsc → Rsc) : (s.onRsc f).port p = s.port p := by cases p <;> rfl
@[simp] theorem State.onRsc_seq (f : Rsc → Rsc) : (s.onRsc f).seq p = s.seq p := by cases p <;> rfl

/-! ## onLtu -/

@[simp] theorem State.onLtu_clock (f : Ltu → Ltu) : (s.onLtu f).clock = s.clock := rfl
@[simp] theorem State.onLtu_powered (f : Ltu → Ltu) : (s.onLtu f).powered = s.powered := rfl
@[simp] theorem State.onLtu_free (f : Ltu → Ltu) : (s.onLtu f).free = s.free := rfl
@[simp] theorem State.onLtu_pending (f : Ltu → Ltu) : (s.onLtu f).pending = s.pending := rfl
@[simp] theorem State.onLtu_mpt (f : Ltu → Ltu) : (s.onLtu f).mpt = s.mpt := rfl
@[simp] theorem State.onLtu_pac (f : Ltu → Ltu) : (s.onLtu f).pac = s.pac := rfl
@[simp] theorem State.onLtu_lks (f : Ltu → Ltu) : (s.onLtu f).lks = s.lks := rfl
@[simp] theorem State.onLtu_hpc1 (f : Ltu → Ltu) : (s.onLtu f).hpc1 = s.hpc1 := rfl
@[simp] theorem State.onLtu_hpc2 (f : Ltu → Ltu) : (s.onLtu f).hpc2 = s.hpc2 := rfl
@[simp] theorem State.onLtu_seq1 (f : Ltu → Ltu) : (s.onLtu f).seq1 = s.seq1 := rfl
@[simp] theorem State.onLtu_seq2 (f : Ltu → Ltu) : (s.onLtu f).seq2 = s.seq2 := rfl
@[simp] theorem State.onLtu_rsc (f : Ltu → Ltu) : (s.onLtu f).rsc = s.rsc := rfl
@[simp] theorem State.onLtu_ltu (f : Ltu → Ltu) : (s.onLtu f).ltu = f s.ltu := rfl
@[simp] theorem State.onLtu_flg (f : Ltu → Ltu) : (s.onLtu f).flg = s.flg := rfl
@[simp] theorem State.onLtu_mcr (f : Ltu → Ltu) : (s.onLtu f).mcr = s.mcr := rfl
@[simp] theorem State.onLtu_psv (f : Ltu → Ltu) : (s.onLtu f).psv = s.psv := rfl
@[simp] theorem State.onLtu_sst (f : Ltu → Ltu) : (s.onLtu f).sst = s.sst := rfl
@[simp] theorem State.onLtu_port (f : Ltu → Ltu) : (s.onLtu f).port p = s.port p := by cases p <;> rfl
@[simp] theorem State.onLtu_seq (f : Ltu → Ltu) : (s.onLtu f).seq p = s.seq p := by cases p <;> rfl

/-! ## onFlg -/

@[simp] theorem State.onFlg_clock (f : Flg → Flg) : (s.onFlg f).clock = s.clock := rfl
@[simp] theorem State.onFlg_powered (f : Flg → Flg) : (s.onFlg f).powered = s.powered := rfl
@[simp] theorem State.onFlg_free (f : Flg → Flg) : (s.onFlg f).free = s.free := rfl
@[simp] theorem State.onFlg_pending (f : Flg → Flg) : (s.onFlg f).pending = s.pending := rfl
@[simp] theorem State.onFlg_mpt (f : Flg → Flg) : (s.onFlg f).mpt = s.mpt := rfl
@[simp] theorem State.onFlg_pac (f : Flg → Flg) : (s.onFlg f).pac = s.pac := rfl
@[simp] theorem State.onFlg_lks (f : Flg → Flg) : (s.onFlg f).lks = s.lks := rfl
@[simp] theorem State.onFlg_hpc1 (f : Flg → Flg) : (s.onFlg f).hpc1 = s.hpc1 := rfl
@[simp] theorem State.onFlg_hpc2 (f : Flg → Flg) : (s.onFlg f).hpc2 = s.hpc2 := rfl
@[simp] theorem State.onFlg_seq1 (f : Flg → Flg) : (s.onFlg f).seq1 = s.seq1 := rfl
@[simp] theorem State.onFlg_seq2 (f : Flg → Flg) : (s.onFlg f).seq2 = s.seq2 := rfl
@[simp] theorem State.onFlg_rsc (f : Flg → Flg) : (s.onFlg f).rsc = s.rsc := rfl
@[simp] theorem State.onFlg_ltu (f : Flg → Flg) : (s.onFlg f).ltu = s.ltu := rfl
@[simp] theorem State.onFlg_flg (f : Flg → Flg) : (s.onFlg f).flg = f s.flg := rfl
@[simp] theorem State.onFlg_mcr (f : Flg → Flg) : (s.onFlg f).mcr = s.mcr := rfl
@[simp] theorem State.onFlg_psv (f : Flg → Flg) : (s.onFlg f).psv = s.psv := rfl
@[simp] theorem State.onFlg_sst (f : Flg → Flg) : (s.onFlg f).sst = s.sst := rfl
@[simp] theorem State.onFlg_port (f : Flg → Flg) : (s.onFlg f).port p = s.port p := by cases p <;> rfl
@[simp] theorem State.onFlg_seq (f : Flg → Flg) : (s.onFlg f).seq p = s.seq p := by cases p <;> rfl

/-! ## onMcr -/

@[simp] theorem State.onMcr_clock (f : Mcr → Mcr) : (s.onMcr f).clock = s.clock := rfl
@[simp] theorem State.onMcr_powered (f : Mcr → Mcr) : (s.onMcr f).powered = s.powered := rfl
@[simp] theorem State.onMcr_free (f : Mcr → Mcr) : (s.onMcr f).free = s.free := rfl
@[simp] theorem State.onMcr_pending (f : Mcr → Mcr) : (s.onMcr f).pending = s.pending := rfl
@[simp] theorem State.onMcr_mpt (f : Mcr → Mcr) : (s.onMcr f).mpt = s.mpt := rfl
@[simp] theorem State.onMcr_pac (f : Mcr → Mcr) : (s.onMcr f).pac = s.pac := rfl
@[simp] theorem State.onMcr_lks (f : Mcr → Mcr) : (s.onMcr f).lks = s.lks := rfl
@[simp] theorem State.onMcr_hpc1 (f : Mcr → Mcr) : (s.onMcr f).hpc1 = s.hpc1 := rfl
@[simp] theorem State.onMcr_hpc2 (f : Mcr → Mcr) : (s.onMcr f).hpc2 = s.hpc2 := rfl
@[simp] theorem State.onMcr_seq1 (f : Mcr → Mcr) : (s.onMcr f).seq1 = s.seq1 := rfl
@[simp] theorem State.onMcr_seq2 (f : Mcr → Mcr) : (s.onMcr f).seq2 = s.seq2 := rfl
@[simp] theorem State.onMcr_rsc (f : Mcr → Mcr) : (s.onMcr f).rsc = s.rsc := rfl
@[simp] theorem State.onMcr_ltu (f : Mcr → Mcr) : (s.onMcr f).ltu = s.ltu := rfl
@[simp] theorem State.onMcr_flg (f : Mcr → Mcr) : (s.onMcr f).flg = s.flg := rfl
@[simp] theorem State.onMcr_mcr (f : Mcr → Mcr) : (s.onMcr f).mcr = f s.mcr := rfl
@[simp] theorem State.onMcr_psv (f : Mcr → Mcr) : (s.onMcr f).psv = s.psv := rfl
@[simp] theorem State.onMcr_sst (f : Mcr → Mcr) : (s.onMcr f).sst = s.sst := rfl
@[simp] theorem State.onMcr_port (f : Mcr → Mcr) : (s.onMcr f).port p = s.port p := by cases p <;> rfl
@[simp] theorem State.onMcr_seq (f : Mcr → Mcr) : (s.onMcr f).seq p = s.seq p := by cases p <;> rfl

/-! ## onPsv -/

@[simp] theorem State.onPsv_clock (f : Psv → Psv) : (s.onPsv f).clock = s.clock := rfl
@[simp] theorem State.onPsv_powered (f : Psv → Psv) : (s.onPsv f).powered = s.powered := rfl
@[simp] theorem State.onPsv_free (f : Psv → Psv) : (s.onPsv f).free = s.free := rfl
@[simp] theorem State.onPsv_pending (f : Psv → Psv) : (s.onPsv f).pending = s.pending := rfl
@[simp] theorem State.onPsv_mpt (f : Psv → Psv) : (s.onPsv f).mpt = s.mpt := rfl
@[simp] theorem State.onPsv_pac (f : Psv → Psv) : (s.onPsv f).pac = s.pac := rfl
@[simp] theorem State.onPsv_lks (f : Psv → Psv) : (s.onPsv f).lks = s.lks := rfl
@[simp] theorem State.onPsv_hpc1 (f : Psv → Psv) : (s.onPsv f).hpc1 = s.hpc1 := rfl
@[simp] theorem State.onPsv_hpc2 (f : Psv → Psv) : (s.onPsv f).hpc2 = s.hpc2 := rfl
@[simp] theorem State.onPsv_seq1 (f : Psv → Psv) : (s.onPsv f).seq1 = s.seq1 := rfl
@[simp] theorem State.onPsv_seq2 (f : Psv → Psv) : (s.onPsv f).seq2 = s.seq2 := rfl
@[simp] theorem State.onPsv_rsc (f : Psv → Psv) : (s.onPsv f).rsc = s.rsc := rfl
@[simp] theorem State.onPsv_ltu (f : Psv → Psv) : (s.onPsv f).ltu = s.ltu := rfl
@[simp] theorem State.onPsv_flg (f : Psv → Psv) : (s.onPsv f).flg = s.flg := rfl
@[simp] theorem State.onPsv_mcr (f : Psv → Psv) : (s.onPsv f).mcr = s.mcr := rfl
@[simp] theorem State.onPsv_psv (f : Psv → Psv) : (s.onPsv f).psv = f s.psv := rfl
@[simp] theorem State.onPsv_sst (f : Psv → Psv) : (s.onPsv f).sst = s.sst := rfl
@[simp] theorem State.onPsv_port (f : Psv → Psv) : (s.onPsv f).port p = s.port p := by cases p <;> rfl
@[simp] theorem State.onPsv_seq (f : Psv → Psv) : (s.onPsv f).seq p = s.seq p := by cases p <;> rfl

/-! ## onSst -/

@[simp] theorem State.onSst_clock (f : Sst → Sst) : (s.onSst f).clock = s.clock := rfl
@[simp] theorem State.onSst_powered (f : Sst → Sst) : (s.onSst f).powered = s.powered := rfl
@[simp] theorem State.onSst_free (f : Sst → Sst) : (s.onSst f).free = s.free := rfl
@[simp] theorem State.onSst_pending (f : Sst → Sst) : (s.onSst f).pending = s.pending := rfl
@[simp] theorem State.onSst_mpt (f : Sst → Sst) : (s.onSst f).mpt = s.mpt := rfl
@[simp] theorem State.onSst_pac (f : Sst → Sst) : (s.onSst f).pac = s.pac := rfl
@[simp] theorem State.onSst_lks (f : Sst → Sst) : (s.onSst f).lks = s.lks := rfl
@[simp] theorem State.onSst_hpc1 (f : Sst → Sst) : (s.onSst f).hpc1 = s.hpc1 := rfl
@[simp] theorem State.onSst_hpc2 (f : Sst → Sst) : (s.onSst f).hpc2 = s.hpc2 := rfl
@[simp] theorem State.onSst_seq1 (f : Sst → Sst) : (s.onSst f).seq1 = s.seq1 := rfl
@[simp] theorem State.onSst_seq2 (f : Sst → Sst) : (s.onSst f).seq2 = s.seq2 := rfl
@[simp] theorem State.onSst_rsc (f : Sst → Sst) : (s.onSst f).rsc = s.rsc := rfl
@[simp] theorem State.onSst_ltu (f : Sst → Sst) : (s.onSst f).ltu = s.ltu := rfl
@[simp] theorem State.onSst_flg (f : Sst → Sst) : (s.onSst f).flg = s.flg := rfl
@[simp] theorem State.onSst_mcr (f : Sst → Sst) : (s.onSst f).mcr = s.mcr := rfl
@[simp] theorem State.onSst_psv (f : Sst → Sst) : (s.onSst f).psv = s.psv := rfl
@[simp] theorem State.onSst_sst (f : Sst → Sst) : (s.onSst f).sst = f s.sst := rfl
@[simp] theorem State.onSst_port (f : Sst → Sst) : (s.onSst f).port p = s.port p := by cases p <;> rfl
@[simp] theorem State.onSst_seq (f : Sst → Sst) : (s.onSst f).seq p = s.seq p := by cases p <;> rfl

/-! ## onPort and onSeq -/

@[simp] theorem State.onPort_clock (f : Port → Port) : (s.onPort p f).clock = s.clock := by cases p <;> rfl
@[simp] theorem State.onPort_powered (f : Port → Port) : (s.onPort p f).powered = s.powered := by cases p <;> rfl
@[simp] theorem State.onPort_free (f : Port → Port) : (s.onPort p f).free = s.free := by cases p <;> rfl
@[simp] theorem State.onPort_pending (f : Port → Port) : (s.onPort p f).pending = s.pending := by cases p <;> rfl
@[simp] theorem State.onPort_mpt (f : Port → Port) : (s.onPort p f).mpt = s.mpt := by cases p <;> rfl
@[simp] theorem State.onPort_pac (f : Port → Port) : (s.onPort p f).pac = s.pac := by cases p <;> rfl
@[simp] theorem State.onPort_lks (f : Port → Port) : (s.onPort p f).lks = s.lks := by cases p <;> rfl
@[simp] theorem State.onPort_seq1 (f : Port → Port) : (s.onPort p f).seq1 = s.seq1 := by cases p <;> rfl
@[simp] theorem State.onPort_seq2 (f : Port → Port) : (s.onPort p f).seq2 = s.seq2 := by cases p <;> rfl
@[simp] theorem State.onPort_rsc (f : Port → Port) : (s.onPort p f).rsc = s.rsc := by cases p <;> rfl
@[simp] theorem State.onPort_ltu (f : Port → Port) : (s.onPort p f).ltu = s.ltu := by cases p <;> rfl
@[simp] theorem State.onPort_flg (f : Port → Port) : (s.onPort p f).flg = s.flg := by cases p <;> rfl
@[simp] theorem State.onPort_mcr (f : Port → Port) : (s.onPort p f).mcr = s.mcr := by cases p <;> rfl
@[simp] theorem State.onPort_psv (f : Port → Port) : (s.onPort p f).psv = s.psv := by cases p <;> rfl
@[simp] theorem State.onPort_sst (f : Port → Port) : (s.onPort p f).sst = s.sst := by cases p <;> rfl
@[simp] theorem State.onPort_seq (q : PortId) (f : Port → Port) : (s.onPort p f).seq q = s.seq q := by cases p <;> rfl
@[simp] theorem State.onPort_port (f : Port → Port) : (s.onPort p f).port p = f (s.port p) := by cases p <;> rfl
@[simp] theorem State.onPort_one_hpc1 (f : Port → Port) : (s.onPort .one f).hpc1 = f s.hpc1 := rfl
@[simp] theorem State.onPort_one_hpc2 (f : Port → Port) : (s.onPort .one f).hpc2 = s.hpc2 := rfl
@[simp] theorem State.onPort_two_hpc1 (f : Port → Port) : (s.onPort .two f).hpc1 = s.hpc1 := rfl
@[simp] theorem State.onPort_two_hpc2 (f : Port → Port) : (s.onPort .two f).hpc2 = f s.hpc2 := rfl

@[simp] theorem State.onSeq_clock (f : Sequencer → Sequencer) : (s.onSeq p f).clock = s.clock := by cases p <;> rfl
@[simp] theorem State.onSeq_powered (f : Sequencer → Sequencer) : (s.onSeq p f).powered = s.powered := by cases p <;> rfl
@[simp] theorem State.onSeq_free (f : Sequencer → Sequencer) : (s.onSeq p f).free = s.free := by cases p <;> rfl
@[simp] theorem State.onSeq_pending (f : Sequencer → Sequencer) : (s.onSeq p f).pending = s.pending := by cases p <;> rfl
@[simp] theorem State.onSeq_mpt (f : Sequencer → Sequencer) : (s.onSeq p f).mpt = s.mpt := by cases p <;> rfl
@[simp] theorem State.onSeq_pac (f : Sequencer → Sequencer) : (s.onSeq p f).pac = s.pac := by cases p <;> rfl
@[simp] theorem State.onSeq_lks (f : Sequencer → Sequencer) : (s.onSeq p f).lks = s.lks := by cases p <;> rfl
@[simp] theorem State.onSeq_hpc1 (f : Sequencer → Sequencer) : (s.onSeq p f).hpc1 = s.hpc1 := by cases p <;> rfl
@[simp] theorem State.onSeq_hpc2 (f : Sequencer → Sequencer) : (s.onSeq p f).hpc2 = s.hpc2 := by cases p <;> rfl
@[simp] theorem State.onSeq_rsc (f : Sequencer → Sequencer) : (s.onSeq p f).rsc = s.rsc := by cases p <;> rfl
@[simp] theorem State.onSeq_ltu (f : Sequencer → Sequencer) : (s.onSeq p f).ltu = s.ltu := by cases p <;> rfl
@[simp] theorem State.onSeq_flg (f : Sequencer → Sequencer) : (s.onSeq p f).flg = s.flg := by cases p <;> rfl
@[simp] theorem State.onSeq_mcr (f : Sequencer → Sequencer) : (s.onSeq p f).mcr = s.mcr := by cases p <;> rfl
@[simp] theorem State.onSeq_psv (f : Sequencer → Sequencer) : (s.onSeq p f).psv = s.psv := by cases p <;> rfl
@[simp] theorem State.onSeq_sst (f : Sequencer → Sequencer) : (s.onSeq p f).sst = s.sst := by cases p <;> rfl
@[simp] theorem State.onSeq_port (q : PortId) (f : Sequencer → Sequencer) : (s.onSeq p f).port q = s.port q := by cases p <;> rfl
@[simp] theorem State.onSeq_seq (f : Sequencer → Sequencer) : (s.onSeq p f).seq p = f (s.seq p) := by cases p <;> rfl
@[simp] theorem State.onSeq_one_seq1 (f : Sequencer → Sequencer) : (s.onSeq .one f).seq1 = f s.seq1 := rfl
@[simp] theorem State.onSeq_one_seq2 (f : Sequencer → Sequencer) : (s.onSeq .one f).seq2 = s.seq2 := rfl
@[simp] theorem State.onSeq_two_seq1 (f : Sequencer → Sequencer) : (s.onSeq .two f).seq1 = s.seq1 := rfl
@[simp] theorem State.onSeq_two_seq2 (f : Sequencer → Sequencer) : (s.onSeq .two f).seq2 = f s.seq2 := rfl

/-! ## reach -/

@[simp] theorem State.reach_clock (t : Nat) : (s.reach t).clock = max s.clock t := rfl
@[simp] theorem State.reach_powered (t : Nat) : (s.reach t).powered = s.powered := rfl
@[simp] theorem State.reach_free (t : Nat) : (s.reach t).free = s.free := rfl
@[simp] theorem State.reach_pending (t : Nat) : (s.reach t).pending = s.pending := rfl
@[simp] theorem State.reach_mpt (t : Nat) : (s.reach t).mpt = s.mpt := rfl
@[simp] theorem State.reach_pac (t : Nat) : (s.reach t).pac = s.pac := rfl
@[simp] theorem State.reach_lks (t : Nat) : (s.reach t).lks = s.lks := rfl
@[simp] theorem State.reach_hpc1 (t : Nat) : (s.reach t).hpc1 = s.hpc1 := rfl
@[simp] theorem State.reach_hpc2 (t : Nat) : (s.reach t).hpc2 = s.hpc2 := rfl
@[simp] theorem State.reach_seq1 (t : Nat) : (s.reach t).seq1 = s.seq1 := rfl
@[simp] theorem State.reach_seq2 (t : Nat) : (s.reach t).seq2 = s.seq2 := rfl
@[simp] theorem State.reach_rsc (t : Nat) : (s.reach t).rsc = s.rsc := rfl
@[simp] theorem State.reach_ltu (t : Nat) : (s.reach t).ltu = s.ltu := rfl
@[simp] theorem State.reach_flg (t : Nat) : (s.reach t).flg = s.flg := rfl
@[simp] theorem State.reach_mcr (t : Nat) : (s.reach t).mcr = s.mcr := rfl
@[simp] theorem State.reach_psv (t : Nat) : (s.reach t).psv = s.psv := rfl
@[simp] theorem State.reach_sst (t : Nat) : (s.reach t).sst = s.sst := rfl
@[simp] theorem State.reach_port (t : Nat) : (s.reach t).port p = s.port p := by cases p <;> rfl
@[simp] theorem State.reach_seq (t : Nat) : (s.reach t).seq p = s.seq p := by cases p <;> rfl
@[simp] theorem State.port_one : s.port .one = s.hpc1 := rfl
@[simp] theorem State.port_two : s.port .two = s.hpc2 := rfl
@[simp] theorem State.seq_one : s.seq .one = s.seq1 := rfl
@[simp] theorem State.seq_two : s.seq .two = s.seq2 := rfl

end Sys2Proof.Machine
end

