-- ==== Sys2Proof/Laws/Ops.lean ====
section
/-! SUPPORT. What the shared operations leave alone, field by field, and what they do. -/

namespace Sys2Proof.Machine

open Sys2Proof

variable (s : State)

/-! ## notice -/

@[simp] theorem notice_clock (n : Notice) : (notice n s).clock = s.clock := rfl
@[simp] theorem notice_powered (n : Notice) : (notice n s).powered = s.powered := rfl
@[simp] theorem notice_free (n : Notice) : (notice n s).free = s.free := rfl
@[simp] theorem notice_pending (n : Notice) : (notice n s).pending = s.pending := rfl
@[simp] theorem notice_pac (n : Notice) : (notice n s).pac = s.pac := rfl
@[simp] theorem notice_lks (n : Notice) : (notice n s).lks = s.lks := rfl
@[simp] theorem notice_hpc1 (n : Notice) : (notice n s).hpc1 = s.hpc1 := rfl
@[simp] theorem notice_hpc2 (n : Notice) : (notice n s).hpc2 = s.hpc2 := rfl
@[simp] theorem notice_seq1 (n : Notice) : (notice n s).seq1 = s.seq1 := rfl
@[simp] theorem notice_seq2 (n : Notice) : (notice n s).seq2 = s.seq2 := rfl
@[simp] theorem notice_rsc (n : Notice) : (notice n s).rsc = s.rsc := rfl
@[simp] theorem notice_ltu (n : Notice) : (notice n s).ltu = s.ltu := rfl
@[simp] theorem notice_flg (n : Notice) : (notice n s).flg = s.flg := rfl
@[simp] theorem notice_mcr (n : Notice) : (notice n s).mcr = s.mcr := rfl
@[simp] theorem notice_psv (n : Notice) : (notice n s).psv = s.psv := rfl
@[simp] theorem notice_sst (n : Notice) : (notice n s).sst = s.sst := rfl
@[simp] theorem notice_port (q : PortId) (n : Notice) : (notice n s).port q = s.port q := by cases q <;> simp
@[simp] theorem notice_seq (q : PortId) (n : Notice) : (notice n s).seq q = s.seq q := by cases q <;> simp

/-! ## faultNotice -/

@[simp] theorem faultNotice_clock (e : FaultEvent) (r : FaultRecord) : (faultNotice e r s).clock = s.clock := by unfold faultNotice; split <;> rfl
@[simp] theorem faultNotice_powered (e : FaultEvent) (r : FaultRecord) : (faultNotice e r s).powered = s.powered := by unfold faultNotice; split <;> rfl
@[simp] theorem faultNotice_free (e : FaultEvent) (r : FaultRecord) : (faultNotice e r s).free = s.free := by unfold faultNotice; split <;> rfl
@[simp] theorem faultNotice_pending (e : FaultEvent) (r : FaultRecord) : (faultNotice e r s).pending = s.pending := by unfold faultNotice; split <;> rfl
@[simp] theorem faultNotice_pac (e : FaultEvent) (r : FaultRecord) : (faultNotice e r s).pac = s.pac := by unfold faultNotice; split <;> rfl
@[simp] theorem faultNotice_lks (e : FaultEvent) (r : FaultRecord) : (faultNotice e r s).lks = s.lks := by unfold faultNotice; split <;> rfl
@[simp] theorem faultNotice_hpc1 (e : FaultEvent) (r : FaultRecord) : (faultNotice e r s).hpc1 = s.hpc1 := by unfold faultNotice; split <;> rfl
@[simp] theorem faultNotice_hpc2 (e : FaultEvent) (r : FaultRecord) : (faultNotice e r s).hpc2 = s.hpc2 := by unfold faultNotice; split <;> rfl
@[simp] theorem faultNotice_seq1 (e : FaultEvent) (r : FaultRecord) : (faultNotice e r s).seq1 = s.seq1 := by unfold faultNotice; split <;> rfl
@[simp] theorem faultNotice_seq2 (e : FaultEvent) (r : FaultRecord) : (faultNotice e r s).seq2 = s.seq2 := by unfold faultNotice; split <;> rfl
@[simp] theorem faultNotice_rsc (e : FaultEvent) (r : FaultRecord) : (faultNotice e r s).rsc = s.rsc := by unfold faultNotice; split <;> rfl
@[simp] theorem faultNotice_ltu (e : FaultEvent) (r : FaultRecord) : (faultNotice e r s).ltu = s.ltu := by unfold faultNotice; split <;> rfl
@[simp] theorem faultNotice_flg (e : FaultEvent) (r : FaultRecord) : (faultNotice e r s).flg = s.flg := by unfold faultNotice; split <;> rfl
@[simp] theorem faultNotice_mcr (e : FaultEvent) (r : FaultRecord) : (faultNotice e r s).mcr = s.mcr := by unfold faultNotice; split <;> rfl
@[simp] theorem faultNotice_psv (e : FaultEvent) (r : FaultRecord) : (faultNotice e r s).psv = s.psv := by unfold faultNotice; split <;> rfl
@[simp] theorem faultNotice_sst (e : FaultEvent) (r : FaultRecord) : (faultNotice e r s).sst = s.sst := by unfold faultNotice; split <;> rfl
@[simp] theorem faultNotice_port (q : PortId) (e : FaultEvent) (r : FaultRecord) : (faultNotice e r s).port q = s.port q := by cases q <;> simp
@[simp] theorem faultNotice_seq (q : PortId) (e : FaultEvent) (r : FaultRecord) : (faultNotice e r s).seq q = s.seq q := by cases q <;> simp

/-! ## writeRetained -/

@[simp] theorem writeRetained_clock (c : FaultCode) (d : List (BitVec 32)) : (writeRetained c d s).clock = s.clock := rfl
@[simp] theorem writeRetained_powered (c : FaultCode) (d : List (BitVec 32)) : (writeRetained c d s).powered = s.powered := rfl
@[simp] theorem writeRetained_free (c : FaultCode) (d : List (BitVec 32)) : (writeRetained c d s).free = s.free := rfl
@[simp] theorem writeRetained_pending (c : FaultCode) (d : List (BitVec 32)) : (writeRetained c d s).pending = s.pending := rfl
@[simp] theorem writeRetained_mpt (c : FaultCode) (d : List (BitVec 32)) : (writeRetained c d s).mpt = s.mpt := rfl
@[simp] theorem writeRetained_pac (c : FaultCode) (d : List (BitVec 32)) : (writeRetained c d s).pac = s.pac := rfl
@[simp] theorem writeRetained_lks (c : FaultCode) (d : List (BitVec 32)) : (writeRetained c d s).lks = s.lks := rfl
@[simp] theorem writeRetained_hpc1 (c : FaultCode) (d : List (BitVec 32)) : (writeRetained c d s).hpc1 = s.hpc1 := rfl
@[simp] theorem writeRetained_hpc2 (c : FaultCode) (d : List (BitVec 32)) : (writeRetained c d s).hpc2 = s.hpc2 := rfl
@[simp] theorem writeRetained_seq1 (c : FaultCode) (d : List (BitVec 32)) : (writeRetained c d s).seq1 = s.seq1 := rfl
@[simp] theorem writeRetained_seq2 (c : FaultCode) (d : List (BitVec 32)) : (writeRetained c d s).seq2 = s.seq2 := rfl
@[simp] theorem writeRetained_rsc (c : FaultCode) (d : List (BitVec 32)) : (writeRetained c d s).rsc = s.rsc := rfl
@[simp] theorem writeRetained_ltu (c : FaultCode) (d : List (BitVec 32)) : (writeRetained c d s).ltu = s.ltu := rfl
@[simp] theorem writeRetained_mcr (c : FaultCode) (d : List (BitVec 32)) : (writeRetained c d s).mcr = s.mcr := rfl
@[simp] theorem writeRetained_psv (c : FaultCode) (d : List (BitVec 32)) : (writeRetained c d s).psv = s.psv := rfl
@[simp] theorem writeRetained_sst (c : FaultCode) (d : List (BitVec 32)) : (writeRetained c d s).sst = s.sst := rfl
@[simp] theorem writeRetained_port (q : PortId) (c : FaultCode) (d : List (BitVec 32)) : (writeRetained c d s).port q = s.port q := by cases q <;> simp
@[simp] theorem writeRetained_seq (q : PortId) (c : FaultCode) (d : List (BitVec 32)) : (writeRetained c d s).seq q = s.seq q := by cases q <;> simp

/-! ## reportLog -/

@[simp] theorem reportLog_clock (c : FaultCode) (o : Source) (v : Severity) (d : List (BitVec 32)) : (reportLog c o v d s).clock = s.clock := by unfold reportLog; repeat' (first | rfl | split | simp)
@[simp] theorem reportLog_powered (c : FaultCode) (o : Source) (v : Severity) (d : List (BitVec 32)) : (reportLog c o v d s).powered = s.powered := by unfold reportLog; repeat' (first | rfl | split | simp)
@[simp] theorem reportLog_free (c : FaultCode) (o : Source) (v : Severity) (d : List (BitVec 32)) : (reportLog c o v d s).free = s.free := by unfold reportLog; repeat' (first | rfl | split | simp)
@[simp] theorem reportLog_pending (c : FaultCode) (o : Source) (v : Severity) (d : List (BitVec 32)) : (reportLog c o v d s).pending = s.pending := by unfold reportLog; repeat' (first | rfl | split | simp)
@[simp] theorem reportLog_pac (c : FaultCode) (o : Source) (v : Severity) (d : List (BitVec 32)) : (reportLog c o v d s).pac = s.pac := by unfold reportLog; repeat' (first | rfl | split | simp)
@[simp] theorem reportLog_lks (c : FaultCode) (o : Source) (v : Severity) (d : List (BitVec 32)) : (reportLog c o v d s).lks = s.lks := by unfold reportLog; repeat' (first | rfl | split | simp)
@[simp] theorem reportLog_hpc1 (c : FaultCode) (o : Source) (v : Severity) (d : List (BitVec 32)) : (reportLog c o v d s).hpc1 = s.hpc1 := by unfold reportLog; repeat' (first | rfl | split | simp)
@[simp] theorem reportLog_hpc2 (c : FaultCode) (o : Source) (v : Severity) (d : List (BitVec 32)) : (reportLog c o v d s).hpc2 = s.hpc2 := by unfold reportLog; repeat' (first | rfl | split | simp)
@[simp] theorem reportLog_seq1 (c : FaultCode) (o : Source) (v : Severity) (d : List (BitVec 32)) : (reportLog c o v d s).seq1 = s.seq1 := by unfold reportLog; repeat' (first | rfl | split | simp)
@[simp] theorem reportLog_seq2 (c : FaultCode) (o : Source) (v : Severity) (d : List (BitVec 32)) : (reportLog c o v d s).seq2 = s.seq2 := by unfold reportLog; repeat' (first | rfl | split | simp)
@[simp] theorem reportLog_rsc (c : FaultCode) (o : Source) (v : Severity) (d : List (BitVec 32)) : (reportLog c o v d s).rsc = s.rsc := by unfold reportLog; repeat' (first | rfl | split | simp)
@[simp] theorem reportLog_ltu (c : FaultCode) (o : Source) (v : Severity) (d : List (BitVec 32)) : (reportLog c o v d s).ltu = s.ltu := by unfold reportLog; repeat' (first | rfl | split | simp)
@[simp] theorem reportLog_mcr (c : FaultCode) (o : Source) (v : Severity) (d : List (BitVec 32)) : (reportLog c o v d s).mcr = s.mcr := by unfold reportLog; repeat' (first | rfl | split | simp)
@[simp] theorem reportLog_psv (c : FaultCode) (o : Source) (v : Severity) (d : List (BitVec 32)) : (reportLog c o v d s).psv = s.psv := by unfold reportLog; repeat' (first | rfl | split | simp)
@[simp] theorem reportLog_sst (c : FaultCode) (o : Source) (v : Severity) (d : List (BitVec 32)) : (reportLog c o v d s).sst = s.sst := by unfold reportLog; repeat' (first | rfl | split | simp)
@[simp] theorem reportLog_port (q : PortId) (c : FaultCode) (o : Source) (v : Severity) (d : List (BitVec 32)) : (reportLog c o v d s).port q = s.port q := by cases q <;> simp
@[simp] theorem reportLog_seq (q : PortId) (c : FaultCode) (o : Source) (v : Severity) (d : List (BitVec 32)) : (reportLog c o v d s).seq q = s.seq q := by cases q <;> simp

/-! ## report -/

@[simp] theorem report_clock (c : FaultCode) (o : Source) (v : Severity) (d : List (BitVec 32)) : (report c o v d s).clock = s.clock := by unfold report; simp only []; split <;> simp
@[simp] theorem report_powered (c : FaultCode) (o : Source) (v : Severity) (d : List (BitVec 32)) : (report c o v d s).powered = s.powered := by unfold report; simp only []; split <;> simp
@[simp] theorem report_free (c : FaultCode) (o : Source) (v : Severity) (d : List (BitVec 32)) : (report c o v d s).free = s.free := by unfold report; simp only []; split <;> simp
@[simp] theorem report_pending (c : FaultCode) (o : Source) (v : Severity) (d : List (BitVec 32)) : (report c o v d s).pending = s.pending := by unfold report; simp only []; split <;> simp
@[simp] theorem report_pac (c : FaultCode) (o : Source) (v : Severity) (d : List (BitVec 32)) : (report c o v d s).pac = s.pac := by unfold report; simp only []; split <;> simp
@[simp] theorem report_lks (c : FaultCode) (o : Source) (v : Severity) (d : List (BitVec 32)) : (report c o v d s).lks = s.lks := by unfold report; simp only []; split <;> simp
@[simp] theorem report_hpc1 (c : FaultCode) (o : Source) (v : Severity) (d : List (BitVec 32)) : (report c o v d s).hpc1 = s.hpc1 := by unfold report; simp only []; split <;> simp
@[simp] theorem report_hpc2 (c : FaultCode) (o : Source) (v : Severity) (d : List (BitVec 32)) : (report c o v d s).hpc2 = s.hpc2 := by unfold report; simp only []; split <;> simp
@[simp] theorem report_seq1 (c : FaultCode) (o : Source) (v : Severity) (d : List (BitVec 32)) : (report c o v d s).seq1 = s.seq1 := by unfold report; simp only []; split <;> simp
@[simp] theorem report_seq2 (c : FaultCode) (o : Source) (v : Severity) (d : List (BitVec 32)) : (report c o v d s).seq2 = s.seq2 := by unfold report; simp only []; split <;> simp
@[simp] theorem report_rsc (c : FaultCode) (o : Source) (v : Severity) (d : List (BitVec 32)) : (report c o v d s).rsc = s.rsc := by unfold report; simp only []; split <;> simp
@[simp] theorem report_ltu (c : FaultCode) (o : Source) (v : Severity) (d : List (BitVec 32)) : (report c o v d s).ltu = s.ltu := by unfold report; simp only []; split <;> simp
@[simp] theorem report_mcr (c : FaultCode) (o : Source) (v : Severity) (d : List (BitVec 32)) : (report c o v d s).mcr = s.mcr := by unfold report; simp only []; split <;> simp
@[simp] theorem report_psv (c : FaultCode) (o : Source) (v : Severity) (d : List (BitVec 32)) : (report c o v d s).psv = s.psv := by unfold report; simp only []; split <;> simp
@[simp] theorem report_sst (c : FaultCode) (o : Source) (v : Severity) (d : List (BitVec 32)) : (report c o v d s).sst = s.sst := by unfold report; simp only []; split <;> simp
@[simp] theorem report_port (q : PortId) (c : FaultCode) (o : Source) (v : Severity) (d : List (BitVec 32)) : (report c o v d s).port q = s.port q := by cases q <;> simp
@[simp] theorem report_seq (q : PortId) (c : FaultCode) (o : Source) (v : Severity) (d : List (BitVec 32)) : (report c o v d s).seq q = s.seq q := by cases q <;> simp

/-! ## clearFault -/

@[simp] theorem clearFault_clock (c : FaultCode) (o : Source) : (clearFault c o s).clock = s.clock := by unfold clearFault; split <;> simp
@[simp] theorem clearFault_powered (c : FaultCode) (o : Source) : (clearFault c o s).powered = s.powered := by unfold clearFault; split <;> simp
@[simp] theorem clearFault_free (c : FaultCode) (o : Source) : (clearFault c o s).free = s.free := by unfold clearFault; split <;> simp
@[simp] theorem clearFault_pending (c : FaultCode) (o : Source) : (clearFault c o s).pending = s.pending := by unfold clearFault; split <;> simp
@[simp] theorem clearFault_pac (c : FaultCode) (o : Source) : (clearFault c o s).pac = s.pac := by unfold clearFault; split <;> simp
@[simp] theorem clearFault_lks (c : FaultCode) (o : Source) : (clearFault c o s).lks = s.lks := by unfold clearFault; split <;> simp
@[simp] theorem clearFault_hpc1 (c : FaultCode) (o : Source) : (clearFault c o s).hpc1 = s.hpc1 := by unfold clearFault; split <;> simp
@[simp] theorem clearFault_hpc2 (c : FaultCode) (o : Source) : (clearFault c o s).hpc2 = s.hpc2 := by unfold clearFault; split <;> simp
@[simp] theorem clearFault_seq1 (c : FaultCode) (o : Source) : (clearFault c o s).seq1 = s.seq1 := by unfold clearFault; split <;> simp
@[simp] theorem clearFault_seq2 (c : FaultCode) (o : Source) : (clearFault c o s).seq2 = s.seq2 := by unfold clearFault; split <;> simp
@[simp] theorem clearFault_rsc (c : FaultCode) (o : Source) : (clearFault c o s).rsc = s.rsc := by unfold clearFault; split <;> simp
@[simp] theorem clearFault_ltu (c : FaultCode) (o : Source) : (clearFault c o s).ltu = s.ltu := by unfold clearFault; split <;> simp
@[simp] theorem clearFault_mcr (c : FaultCode) (o : Source) : (clearFault c o s).mcr = s.mcr := by unfold clearFault; split <;> simp
@[simp] theorem clearFault_psv (c : FaultCode) (o : Source) : (clearFault c o s).psv = s.psv := by unfold clearFault; split <;> simp
@[simp] theorem clearFault_sst (c : FaultCode) (o : Source) : (clearFault c o s).sst = s.sst := by unfold clearFault; split <;> simp
@[simp] theorem clearFault_port (q : PortId) (c : FaultCode) (o : Source) : (clearFault c o s).port q = s.port q := by cases q <;> simp
@[simp] theorem clearFault_seq (q : PortId) (c : FaultCode) (o : Source) : (clearFault c o s).seq q = s.seq q := by cases q <;> simp

/-! ## queueReply -/

@[simp] theorem queueReply_clock (tag code : Byte) (a : Answer) : (queueReply tag code a s).clock = s.clock := rfl
@[simp] theorem queueReply_powered (tag code : Byte) (a : Answer) : (queueReply tag code a s).powered = s.powered := rfl
@[simp] theorem queueReply_free (tag code : Byte) (a : Answer) : (queueReply tag code a s).free = s.free := rfl
@[simp] theorem queueReply_pending (tag code : Byte) (a : Answer) : (queueReply tag code a s).pending = s.pending := rfl
@[simp] theorem queueReply_pac (tag code : Byte) (a : Answer) : (queueReply tag code a s).pac = s.pac := rfl
@[simp] theorem queueReply_lks (tag code : Byte) (a : Answer) : (queueReply tag code a s).lks = s.lks := rfl
@[simp] theorem queueReply_hpc1 (tag code : Byte) (a : Answer) : (queueReply tag code a s).hpc1 = s.hpc1 := rfl
@[simp] theorem queueReply_hpc2 (tag code : Byte) (a : Answer) : (queueReply tag code a s).hpc2 = s.hpc2 := rfl
@[simp] theorem queueReply_seq1 (tag code : Byte) (a : Answer) : (queueReply tag code a s).seq1 = s.seq1 := rfl
@[simp] theorem queueReply_seq2 (tag code : Byte) (a : Answer) : (queueReply tag code a s).seq2 = s.seq2 := rfl
@[simp] theorem queueReply_rsc (tag code : Byte) (a : Answer) : (queueReply tag code a s).rsc = s.rsc := rfl
@[simp] theorem queueReply_ltu (tag code : Byte) (a : Answer) : (queueReply tag code a s).ltu = s.ltu := rfl
@[simp] theorem queueReply_flg (tag code : Byte) (a : Answer) : (queueReply tag code a s).flg = s.flg := rfl
@[simp] theorem queueReply_mcr (tag code : Byte) (a : Answer) : (queueReply tag code a s).mcr = s.mcr := rfl
@[simp] theorem queueReply_psv (tag code : Byte) (a : Answer) : (queueReply tag code a s).psv = s.psv := rfl
@[simp] theorem queueReply_sst (tag code : Byte) (a : Answer) : (queueReply tag code a s).sst = s.sst := rfl
@[simp] theorem queueReply_port (q : PortId) (tag code : Byte) (a : Answer) : (queueReply tag code a s).port q = s.port q := by cases q <;> simp
@[simp] theorem queueReply_seq (q : PortId) (tag code : Byte) (a : Answer) : (queueReply tag code a s).seq q = s.seq q := by cases q <;> simp

/-! ## wakeCause -/

@[simp] theorem wakeCause_clock (c : WakeCause) (p : Option PortId) : (wakeCause c p s).clock = s.clock := rfl
@[simp] theorem wakeCause_powered (c : WakeCause) (p : Option PortId) : (wakeCause c p s).powered = s.powered := rfl
@[simp] theorem wakeCause_free (c : WakeCause) (p : Option PortId) : (wakeCause c p s).free = s.free := rfl
@[simp] theorem wakeCause_pending (c : WakeCause) (p : Option PortId) : (wakeCause c p s).pending = s.pending := rfl
@[simp] theorem wakeCause_mpt (c : WakeCause) (p : Option PortId) : (wakeCause c p s).mpt = s.mpt := rfl
@[simp] theorem wakeCause_pac (c : WakeCause) (p : Option PortId) : (wakeCause c p s).pac = s.pac := rfl
@[simp] theorem wakeCause_lks (c : WakeCause) (p : Option PortId) : (wakeCause c p s).lks = s.lks := rfl
@[simp] theorem wakeCause_hpc1 (c : WakeCause) (p : Option PortId) : (wakeCause c p s).hpc1 = s.hpc1 := rfl
@[simp] theorem wakeCause_hpc2 (c : WakeCause) (p : Option PortId) : (wakeCause c p s).hpc2 = s.hpc2 := rfl
@[simp] theorem wakeCause_seq1 (c : WakeCause) (p : Option PortId) : (wakeCause c p s).seq1 = s.seq1 := rfl
@[simp] theorem wakeCause_seq2 (c : WakeCause) (p : Option PortId) : (wakeCause c p s).seq2 = s.seq2 := rfl
@[simp] theorem wakeCause_rsc (c : WakeCause) (p : Option PortId) : (wakeCause c p s).rsc = s.rsc := rfl
@[simp] theorem wakeCause_ltu (c : WakeCause) (p : Option PortId) : (wakeCause c p s).ltu = s.ltu := rfl
@[simp] theorem wakeCause_flg (c : WakeCause) (p : Option PortId) : (wakeCause c p s).flg = s.flg := rfl
@[simp] theorem wakeCause_mcr (c : WakeCause) (p : Option PortId) : (wakeCause c p s).mcr = s.mcr := rfl
@[simp] theorem wakeCause_sst (c : WakeCause) (p : Option PortId) : (wakeCause c p s).sst = s.sst := rfl
@[simp] theorem wakeCause_port (q : PortId) (c : WakeCause) (p : Option PortId) : (wakeCause c p s).port q = s.port q := by cases q <;> simp
@[simp] theorem wakeCause_seq (q : PortId) (c : WakeCause) (p : Option PortId) : (wakeCause c p s).seq q = s.seq q := by cases q <;> simp

/-! ## restartSilence -/

@[simp] theorem restartSilence_clock : (restartSilence s).clock = s.clock := rfl
@[simp] theorem restartSilence_powered : (restartSilence s).powered = s.powered := rfl
@[simp] theorem restartSilence_free : (restartSilence s).free = s.free := rfl
@[simp] theorem restartSilence_pending : (restartSilence s).pending = s.pending := rfl
@[simp] theorem restartSilence_pac : (restartSilence s).pac = s.pac := rfl
@[simp] theorem restartSilence_lks : (restartSilence s).lks = s.lks := rfl
@[simp] theorem restartSilence_hpc1 : (restartSilence s).hpc1 = s.hpc1 := rfl
@[simp] theorem restartSilence_hpc2 : (restartSilence s).hpc2 = s.hpc2 := rfl
@[simp] theorem restartSilence_seq1 : (restartSilence s).seq1 = s.seq1 := rfl
@[simp] theorem restartSilence_seq2 : (restartSilence s).seq2 = s.seq2 := rfl
@[simp] theorem restartSilence_rsc : (restartSilence s).rsc = s.rsc := rfl
@[simp] theorem restartSilence_ltu : (restartSilence s).ltu = s.ltu := rfl
@[simp] theorem restartSilence_flg : (restartSilence s).flg = s.flg := rfl
@[simp] theorem restartSilence_mcr : (restartSilence s).mcr = s.mcr := rfl
@[simp] theorem restartSilence_psv : (restartSilence s).psv = s.psv := rfl
@[simp] theorem restartSilence_sst : (restartSilence s).sst = s.sst := rfl
@[simp] theorem restartSilence_port (q : PortId) : (restartSilence s).port q = s.port q := by cases q <;> simp
@[simp] theorem restartSilence_seq (q : PortId) : (restartSilence s).seq q = s.seq q := by cases q <;> simp

/-! ## linkNotice -/

@[simp] theorem linkNotice_clock (k : LinkState) (c : LinkCause) : (linkNotice k c s).clock = s.clock := rfl
@[simp] theorem linkNotice_powered (k : LinkState) (c : LinkCause) : (linkNotice k c s).powered = s.powered := rfl
@[simp] theorem linkNotice_free (k : LinkState) (c : LinkCause) : (linkNotice k c s).free = s.free := rfl
@[simp] theorem linkNotice_pending (k : LinkState) (c : LinkCause) : (linkNotice k c s).pending = s.pending := rfl
@[simp] theorem linkNotice_pac (k : LinkState) (c : LinkCause) : (linkNotice k c s).pac = s.pac := rfl
@[simp] theorem linkNotice_lks (k : LinkState) (c : LinkCause) : (linkNotice k c s).lks = s.lks := rfl
@[simp] theorem linkNotice_hpc1 (k : LinkState) (c : LinkCause) : (linkNotice k c s).hpc1 = s.hpc1 := rfl
@[simp] theorem linkNotice_hpc2 (k : LinkState) (c : LinkCause) : (linkNotice k c s).hpc2 = s.hpc2 := rfl
@[simp] theorem linkNotice_seq1 (k : LinkState) (c : LinkCause) : (linkNotice k c s).seq1 = s.seq1 := rfl
@[simp] theorem linkNotice_seq2 (k : LinkState) (c : LinkCause) : (linkNotice k c s).seq2 = s.seq2 := rfl
@[simp] theorem linkNotice_rsc (k : LinkState) (c : LinkCause) : (linkNotice k c s).rsc = s.rsc := rfl
@[simp] theorem linkNotice_ltu (k : LinkState) (c : LinkCause) : (linkNotice k c s).ltu = s.ltu := rfl
@[simp] theorem linkNotice_flg (k : LinkState) (c : LinkCause) : (linkNotice k c s).flg = s.flg := rfl
@[simp] theorem linkNotice_mcr (k : LinkState) (c : LinkCause) : (linkNotice k c s).mcr = s.mcr := rfl
@[simp] theorem linkNotice_psv (k : LinkState) (c : LinkCause) : (linkNotice k c s).psv = s.psv := rfl
@[simp] theorem linkNotice_sst (k : LinkState) (c : LinkCause) : (linkNotice k c s).sst = s.sst := rfl
@[simp] theorem linkNotice_port (q : PortId) (k : LinkState) (c : LinkCause) : (linkNotice k c s).port q = s.port q := by cases q <;> simp
@[simp] theorem linkNotice_seq (q : PortId) (k : LinkState) (c : LinkCause) : (linkNotice k c s).seq q = s.seq q := by cases q <;> simp

/-! ## portEvent -/

@[simp] theorem portEvent_clock (p : PortId) (e : PortEvent) : (portEvent p e s).clock = s.clock := rfl
@[simp] theorem portEvent_powered (p : PortId) (e : PortEvent) : (portEvent p e s).powered = s.powered := rfl
@[simp] theorem portEvent_free (p : PortId) (e : PortEvent) : (portEvent p e s).free = s.free := rfl
@[simp] theorem portEvent_pending (p : PortId) (e : PortEvent) : (portEvent p e s).pending = s.pending := rfl
@[simp] theorem portEvent_pac (p : PortId) (e : PortEvent) : (portEvent p e s).pac = s.pac := rfl
@[simp] theorem portEvent_lks (p : PortId) (e : PortEvent) : (portEvent p e s).lks = s.lks := rfl
@[simp] theorem portEvent_hpc1 (p : PortId) (e : PortEvent) : (portEvent p e s).hpc1 = s.hpc1 := rfl
@[simp] theorem portEvent_hpc2 (p : PortId) (e : PortEvent) : (portEvent p e s).hpc2 = s.hpc2 := rfl
@[simp] theorem portEvent_seq1 (p : PortId) (e : PortEvent) : (portEvent p e s).seq1 = s.seq1 := rfl
@[simp] theorem portEvent_seq2 (p : PortId) (e : PortEvent) : (portEvent p e s).seq2 = s.seq2 := rfl
@[simp] theorem portEvent_rsc (p : PortId) (e : PortEvent) : (portEvent p e s).rsc = s.rsc := rfl
@[simp] theorem portEvent_ltu (p : PortId) (e : PortEvent) : (portEvent p e s).ltu = s.ltu := rfl
@[simp] theorem portEvent_flg (p : PortId) (e : PortEvent) : (portEvent p e s).flg = s.flg := rfl
@[simp] theorem portEvent_mcr (p : PortId) (e : PortEvent) : (portEvent p e s).mcr = s.mcr := rfl
@[simp] theorem portEvent_psv (p : PortId) (e : PortEvent) : (portEvent p e s).psv = s.psv := rfl
@[simp] theorem portEvent_sst (p : PortId) (e : PortEvent) : (portEvent p e s).sst = s.sst := rfl
@[simp] theorem portEvent_port (q : PortId) (p : PortId) (e : PortEvent) : (portEvent p e s).port q = s.port q := by cases q <;> simp
@[simp] theorem portEvent_seq (q : PortId) (p : PortId) (e : PortEvent) : (portEvent p e s).seq q = s.seq q := by cases q <;> simp

/-! ## remoteEvent -/

@[simp] theorem remoteEvent_clock (e : RemoteEvent) : (remoteEvent e s).clock = s.clock := rfl
@[simp] theorem remoteEvent_powered (e : RemoteEvent) : (remoteEvent e s).powered = s.powered := rfl
@[simp] theorem remoteEvent_free (e : RemoteEvent) : (remoteEvent e s).free = s.free := rfl
@[simp] theorem remoteEvent_pending (e : RemoteEvent) : (remoteEvent e s).pending = s.pending := rfl
@[simp] theorem remoteEvent_pac (e : RemoteEvent) : (remoteEvent e s).pac = s.pac := rfl
@[simp] theorem remoteEvent_lks (e : RemoteEvent) : (remoteEvent e s).lks = s.lks := rfl
@[simp] theorem remoteEvent_hpc1 (e : RemoteEvent) : (remoteEvent e s).hpc1 = s.hpc1 := rfl
@[simp] theorem remoteEvent_hpc2 (e : RemoteEvent) : (remoteEvent e s).hpc2 = s.hpc2 := rfl
@[simp] theorem remoteEvent_seq1 (e : RemoteEvent) : (remoteEvent e s).seq1 = s.seq1 := rfl
@[simp] theorem remoteEvent_seq2 (e : RemoteEvent) : (remoteEvent e s).seq2 = s.seq2 := rfl
@[simp] theorem remoteEvent_rsc (e : RemoteEvent) : (remoteEvent e s).rsc = s.rsc := rfl
@[simp] theorem remoteEvent_ltu (e : RemoteEvent) : (remoteEvent e s).ltu = s.ltu := rfl
@[simp] theorem remoteEvent_flg (e : RemoteEvent) : (remoteEvent e s).flg = s.flg := rfl
@[simp] theorem remoteEvent_mcr (e : RemoteEvent) : (remoteEvent e s).mcr = s.mcr := rfl
@[simp] theorem remoteEvent_psv (e : RemoteEvent) : (remoteEvent e s).psv = s.psv := rfl
@[simp] theorem remoteEvent_sst (e : RemoteEvent) : (remoteEvent e s).sst = s.sst := rfl
@[simp] theorem remoteEvent_port (q : PortId) (e : RemoteEvent) : (remoteEvent e s).port q = s.port q := by cases q <;> simp
@[simp] theorem remoteEvent_seq (q : PortId) (e : RemoteEvent) : (remoteEvent e s).seq q = s.seq q := by cases q <;> simp

/-! ## ringEdge -/

@[simp] theorem ringEdge_clock : (ringEdge s).clock = s.clock := rfl
@[simp] theorem ringEdge_powered : (ringEdge s).powered = s.powered := rfl
@[simp] theorem ringEdge_free : (ringEdge s).free = s.free := rfl
@[simp] theorem ringEdge_pending : (ringEdge s).pending = s.pending := rfl
@[simp] theorem ringEdge_mpt : (ringEdge s).mpt = s.mpt := rfl
@[simp] theorem ringEdge_pac : (ringEdge s).pac = s.pac := rfl
@[simp] theorem ringEdge_hpc1 : (ringEdge s).hpc1 = s.hpc1 := rfl
@[simp] theorem ringEdge_hpc2 : (ringEdge s).hpc2 = s.hpc2 := rfl
@[simp] theorem ringEdge_seq1 : (ringEdge s).seq1 = s.seq1 := rfl
@[simp] theorem ringEdge_seq2 : (ringEdge s).seq2 = s.seq2 := rfl
@[simp] theorem ringEdge_rsc : (ringEdge s).rsc = s.rsc := rfl
@[simp] theorem ringEdge_ltu : (ringEdge s).ltu = s.ltu := rfl
@[simp] theorem ringEdge_flg : (ringEdge s).flg = s.flg := rfl
@[simp] theorem ringEdge_mcr : (ringEdge s).mcr = s.mcr := rfl
@[simp] theorem ringEdge_psv : (ringEdge s).psv = s.psv := rfl
@[simp] theorem ringEdge_sst : (ringEdge s).sst = s.sst := rfl
@[simp] theorem ringEdge_port (q : PortId) : (ringEdge s).port q = s.port q := by cases q <;> simp
@[simp] theorem ringEdge_seq (q : PortId) : (ringEdge s).seq q = s.seq q := by cases q <;> simp

/-! ## choose -/

@[simp] theorem choose_clock (n : Nat) : ((s.choose n).2).clock = s.clock := by unfold State.choose; split <;> rfl
@[simp] theorem choose_powered (n : Nat) : ((s.choose n).2).powered = s.powered := by unfold State.choose; split <;> rfl
@[simp] theorem choose_pending (n : Nat) : ((s.choose n).2).pending = s.pending := by unfold State.choose; split <;> rfl
@[simp] theorem choose_mpt (n : Nat) : ((s.choose n).2).mpt = s.mpt := by unfold State.choose; split <;> rfl
@[simp] theorem choose_pac (n : Nat) : ((s.choose n).2).pac = s.pac := by unfold State.choose; split <;> rfl
@[simp] theorem choose_lks (n : Nat) : ((s.choose n).2).lks = s.lks := by unfold State.choose; split <;> rfl
@[simp] theorem choose_hpc1 (n : Nat) : ((s.choose n).2).hpc1 = s.hpc1 := by unfold State.choose; split <;> rfl
@[simp] theorem choose_hpc2 (n : Nat) : ((s.choose n).2).hpc2 = s.hpc2 := by unfold State.choose; split <;> rfl
@[simp] theorem choose_seq1 (n : Nat) : ((s.choose n).2).seq1 = s.seq1 := by unfold State.choose; split <;> rfl
@[simp] theorem choose_seq2 (n : Nat) : ((s.choose n).2).seq2 = s.seq2 := by unfold State.choose; split <;> rfl
@[simp] theorem choose_rsc (n : Nat) : ((s.choose n).2).rsc = s.rsc := by unfold State.choose; split <;> rfl
@[simp] theorem choose_ltu (n : Nat) : ((s.choose n).2).ltu = s.ltu := by unfold State.choose; split <;> rfl
@[simp] theorem choose_flg (n : Nat) : ((s.choose n).2).flg = s.flg := by unfold State.choose; split <;> rfl
@[simp] theorem choose_mcr (n : Nat) : ((s.choose n).2).mcr = s.mcr := by unfold State.choose; split <;> rfl
@[simp] theorem choose_psv (n : Nat) : ((s.choose n).2).psv = s.psv := by unfold State.choose; split <;> rfl
@[simp] theorem choose_sst (n : Nat) : ((s.choose n).2).sst = s.sst := by unfold State.choose; split <;> rfl
@[simp] theorem choose_port (q : PortId) (n : Nat) : ((s.choose n).2).port q = s.port q := by cases q <;> simp
@[simp] theorem choose_seq (q : PortId) (n : Nat) : ((s.choose n).2).seq q = s.seq q := by cases q <;> simp

/-! ## pump -/

@[simp] theorem pump_clock : (pump s).clock = s.clock := by unfold pump; repeat' (first | rfl | split | simp)
@[simp] theorem pump_powered : (pump s).powered = s.powered := by unfold pump; repeat' (first | rfl | split | simp)
@[simp] theorem pump_free : (pump s).free = s.free := by unfold pump; repeat' (first | rfl | split | simp)
@[simp] theorem pump_pending : (pump s).pending = s.pending := by unfold pump; repeat' (first | rfl | split | simp)
@[simp] theorem pump_pac : (pump s).pac = s.pac := by unfold pump; repeat' (first | rfl | split | simp)
@[simp] theorem pump_lks : (pump s).lks = s.lks := by unfold pump; repeat' (first | rfl | split | simp)
@[simp] theorem pump_seq1 : (pump s).seq1 = s.seq1 := by unfold pump; repeat' (first | rfl | split | simp)
@[simp] theorem pump_seq2 : (pump s).seq2 = s.seq2 := by unfold pump; repeat' (first | rfl | split | simp)
@[simp] theorem pump_rsc : (pump s).rsc = s.rsc := by unfold pump; repeat' (first | rfl | split | simp)
@[simp] theorem pump_ltu : (pump s).ltu = s.ltu := by unfold pump; repeat' (first | rfl | split | simp)
@[simp] theorem pump_flg : (pump s).flg = s.flg := by unfold pump; repeat' (first | rfl | split | simp)
@[simp] theorem pump_mcr : (pump s).mcr = s.mcr := by unfold pump; repeat' (first | rfl | split | simp)
@[simp] theorem pump_psv : (pump s).psv = s.psv := by unfold pump; repeat' (first | rfl | split | simp)
@[simp] theorem pump_sst : (pump s).sst = s.sst := by unfold pump; repeat' (first | rfl | split | simp)

/-! ## The transmitter -/

/-- A busy transmitter takes nothing. -/
theorem pump_busy {s : State} (h : s.mpt.sending.isSome = true) : pump s = s := by simp [pump, h]

/-- A queue that sends nothing is as it was. -/
theorem Mpt.sendNotice_idle (m : Mpt) (h : m.sendNotice.sending.isSome = false) : m.sendNotice = m := by
  unfold Mpt.sendNotice at h ⊢
  split
  · rfl
  · rename_i e
    simp only [e] at h
    split at h <;> simp at h

/-- Once served, the transmitter has nothing more to take. -/
@[simp] theorem pump_pump : pump (pump s) = pump s := by
  by_cases h : (pump s).mpt.sending.isSome = true
  · exact pump_busy h
  · have e : pump s = s := by
      simp only [Bool.not_eq_true] at h
      revert h
      unfold pump
      split
      · intro _; rfl
      · split
        · simp
        · split
          · simp
          · split
            · intro _; rfl
            · intro h
              simp only [State.onMpt, Mpt.sendNotice_idle _ h]
    rw [e, e]
/-! ## The fault log -/

/-- What a report does to FLG depends on FLG and the uptime only. -/
theorem report_flg_congr {s t : State} (c : FaultCode) (o : Source) (v : Severity) (d : List (BitVec 32))
    (hf : s.flg = t.flg) (hc : s.clock = t.clock) : (report c o v d s).flg = (report c o v d t).flg := by
  have hu : s.uptime = t.uptime := by simp [State.uptime, hc]
  have h1 : (reportLog c o v d s).flg = (reportLog c o v d t).flg := by
    simp only [reportLog, hf, hu]
    repeat' split
    all_goals simp [hf]
  simp only [report]
  split
  · simp [writeRetained, h1, State.uptime, hc]
  · exact h1

/-- What a clearing does to FLG depends on FLG and the uptime only. -/
theorem clearFault_flg_congr {s t : State} (c : FaultCode) (o : Source) (hf : s.flg = t.flg) (hc : s.clock = t.clock) :
    (clearFault c o s).flg = (clearFault c o t).flg := by
  have hu : s.uptime = t.uptime := by simp [State.uptime, hc]
  simp only [clearFault, hf, hu]
  repeat' split
  all_goals simp [hf]
/-! ## The claim of the link -/

/-- A release leaves LKS as it is and the claim FREE: the re-examination can then grant TEST only. -/
@[simp] theorem releaseLink_lks (s : State) : (releaseLink s).lks = s.lks := by
  unfold releaseLink reexamine
  repeat' split
  all_goals first | rfl | simp_all [State.onPac]
@[simp] theorem releaseLink_link (s : State) : (releaseLink s).pac.link.state = .free := by
  unfold releaseLink reexamine
  repeat' split
  all_goals first | assumption | rfl | simp_all [State.onPac]
@[simp] theorem abandonAttempt_link (s : State) : (abandonAttempt s).pac.link.state = .free := releaseLink_link _
@[simp] theorem abandonAttempt_state (s : State) : (abandonAttempt s).lks.state = s.lks.state := by
  simp [abandonAttempt, trialEnd]
@[simp] theorem trialFail_state (s : State) : (trialFail s).lks.state = s.lks.state := by
  unfold trialFail; split <;> rfl
@[simp] theorem waitWith_state (w : WaitReason) (c : LinkCause) (s : State) : (waitWith w c s).lks.state = .waiting := by
  unfold waitWith; dsimp only; split <;> simp

end Sys2Proof.Machine
end

