-- ==== Sys2Proof/Laws/Keeps.lean ====
section
/-! SUPPORT. Every operation of the machine keeps the invariants of Safety.lean and leaves the queue of commands alone.
`Keeps` holds settings and replies fixed; `Good` lets them change. Their first four arguments tell which invariants are
among them: `B` the exclusion and the capacities, `K` the OFF link at rest, `F` the phone's place and the records, `L` what
LIFELINE stage demands. -/

namespace Sys2Proof.Machine
open Sys2Proof

/-- The places of the pair and of HPC1 are one, or they are these two (while an operation changes one before the other). -/
def State.placed (m : Option (Place × Place)) (s : State) : Prop :=
  match m with
  | none => s.hpc1.state.place = s.pac.place
  | some x => s.pac.place = x.1 ∧ s.hpc1.state.place = x.2

/-- The settings, the queue of commands and the replies are these, and each set of invariants holds where its proposition
`B`, `K`, `F` or `L` does, so that each set is shown to be kept without the others. -/
structure State.Keeps (B K F L : Prop) (c₀ : Sst × HoldStage) (q₀ : List Instr) (r₀ : List Reply) (m : Option (Place × Place)) (s : State) : Prop where
  store : (s.sst, s.psv.stage) = c₀
  queue : s.pending = q₀
  replies : s.mpt.replies = r₀
  pair : B → s.pac.exclusive
  bounds : B → s.bounded
  link : K → s.atRest
  distinct : F → s.flg.distinct
  single : F → s.ltu.single
  two : F → s.hpc2.state.place = .home
  rest : F → s.pac.copperAtRest
  place : F → s.placed m
  held : L → s.inLifeline

@[simp] theorem Mpt.bounded_def (m : Mpt) : m.bounded ↔ m.replies.length ≤ replyMax ∧ m.notices.length ≤ noticeMax := Iff.rfl
@[simp] theorem Flg.bounded_def (f : Flg) : f.bounded ↔ f.log.length ≤ faultMax := Iff.rfl
@[simp] theorem Lks.bounded_def (k : Lks) : k.bounded ↔ (k.payload.up.length ≤ cellMax ∧ k.payload.down.length ≤ cellMax) ∧ k.history.length ≤ historyMax ∧ k.window.length ≤ 2 := Iff.rfl
@[simp] theorem Port.bounded_def (q : Port) : q.bounded ↔ q.digits.length ≤ digitMax ∧ q.history.length ≤ 2 ∧ q.voice.queue.length ≤ playoutMax ∧ q.voice.capture.length ≤ captureMax := Iff.rfl
@[simp] theorem Ltu.bounded_def (l : Ltu) : l.bounded ↔ l.queue.length ≤ testQueueMax := Iff.rfl
@[simp] theorem Pac.exclusive_def (p : Pac) : p.exclusive ↔ (p.test.state = .held → p.link.state ≠ .held ∧ p.lifeline.state ≠ .held) ∧ p.lifeline.state ≠ .waiting ∧ (p.testRelayClosed = true ↔ p.test.state = .held) := Iff.rfl
@[simp] theorem Flg.distinct_def (f : Flg) : f.distinct ↔ f.log.Pairwise FaultRecord.apart := Iff.rfl
@[simp] theorem Ltu.single_def (l : Ltu) : l.single ↔ l.queue.Pairwise TestEntry.apart := Iff.rfl
@[simp] theorem Pac.place_def (p : Pac) : p.place = if p.relay.move.isSome then .moving else if p.relay.pos = .localPort then .home else if p.copperActive then .copperActive else .copperIdle := rfl
@[simp] theorem Pac.copperAtRest_def (p : Pac) : p.copperAtRest ↔ (p.copperActive = true → p.relay.move = none ∧ p.relay.pos = .copper) := by
  unfold Pac.copperAtRest
  rw [Pac.place_def]
  cases p.relay.move <;> cases p.relay.pos <;> cases p.copperActive <;> simp
@[simp] theorem place_disabled : PortState.disabled.place = .home := rfl
@[simp] theorem place_idle : PortState.idle.place = .home := rfl
@[simp] theorem place_ringing : PortState.ringing.place = .home := rfl
@[simp] theorem place_offhook : PortState.offhook.place = .home := rfl
@[simp] theorem place_connected : PortState.connected.place = .home := rfl
@[simp] theorem place_howler : PortState.howler.place = .home := rfl
@[simp] theorem place_lockout : PortState.lockout.place = .home := rfl
@[simp] theorem place_fault : PortState.fault.place = .home := rfl
@[simp] theorem place_switching : PortState.switching.place = .moving := rfl
@[simp] theorem place_copperIdle : PortState.copperIdle.place = .copperIdle := rfl
@[simp] theorem place_copperActive : PortState.copperActive.place = .copperActive := rfl

variable {B K F L : Prop} {c₀ : Sst × HoldStage} {q₀ : List Instr} {r₀ : List Reply} {pl : Option (Place × Place)} {s : State}
open State

theorem placed_of {t : State} (h : s.placed pl) (h1 : t.hpc1.state.place = s.hpc1.state.place) (h2 : t.pac.place = s.pac.place) : t.placed pl := by
  cases pl with
  | none => exact h1.trans (Eq.trans h h2.symm)
  | some x => exact ⟨h2.trans h.1, h1.trans h.2⟩

theorem keeps_of (h : Keeps B K F L c₀ q₀ r₀ pl s) {t : State} (h1 : (t.sst, t.psv.stage) = (s.sst, s.psv.stage)) (h2 : t.pending = s.pending) (hr : t.mpt.replies = s.mpt.replies) (h3 : s.pac.exclusive → t.pac.exclusive)
  (h4 : s.bounded → t.bounded) (hq : K → s.atRest → t.atRest) (hd : s.flg.distinct → t.flg.distinct) (hs : s.ltu.single → t.ltu.single) (hw : t.hpc2.state.place = s.hpc2.state.place)
  (ho : t.hpc1.state.place = s.hpc1.state.place) (hl : t.pac.place = s.pac.place ∧ (s.pac.copperAtRest → t.pac.copperAtRest))
  (hh : L → s.inLifeline → t.inLifeline) : Keeps B K F L c₀ q₀ r₀ pl t :=
  ⟨h1.trans h.store, h2.trans h.queue, hr.trans h.replies, fun b => h3 (h.pair b), fun b => h4 (h.bounds b), fun k => hq k (h.link k), fun f => hd (h.distinct f), fun f => hs (h.single f), fun f => hw.trans (h.two f), fun f => hl.2 (h.rest f),
    fun f => placed_of (h.place f) ho hl.1, fun l => hh l (h.held l)⟩

/-- HPC1 and the pair are at one place, which is `x`. -/
theorem keeps_some (h : Keeps B K F L c₀ q₀ r₀ none s) {x : Place} (hx : F → s.pac.place = x) : Keeps B K F L c₀ q₀ r₀ (some (x, x)) s :=
  ⟨h.store, h.queue, h.replies, h.pair, h.bounds, h.link, h.distinct, h.single, h.two, h.rest, fun f => ⟨hx f, Eq.trans (h.place f) (hx f)⟩, h.held⟩
theorem keeps_none {x : Place} (h : Keeps B K F L c₀ q₀ r₀ (some (x, x)) s) : Keeps B K F L c₀ q₀ r₀ none s :=
  ⟨h.store, h.queue, h.replies, h.pair, h.bounds, h.link, h.distinct, h.single, h.two, h.rest, fun f => (h.place f).2.trans (h.place f).1.symm, h.held⟩

/-- An operation keeps the invariants if it does so without regard to LIFELINE stage, and keeps what that stage demands. -/
theorem keeps_held {t : State} (h : Keeps B K F L c₀ q₀ r₀ pl s) {pl' : Option (Place × Place)} (hk : Keeps B K F False c₀ q₀ r₀ pl s → Keeps B K F False c₀ q₀ r₀ pl' t)
    (hh : L → s.inLifeline → t.inLifeline) : Keeps B K F L c₀ q₀ r₀ pl' t :=
  have k := hk ⟨h.store, h.queue, h.replies, h.pair, h.bounds, h.link, h.distinct, h.single, h.two, h.rest, h.place, False.elim⟩
  ⟨k.store, k.queue, k.replies, k.pair, k.bounds, k.link, k.distinct, k.single, k.two, k.rest, k.place, fun l => hh l (h.held l)⟩
/-- What the conditions of LIFELINE stage rule out. -/
theorem keeps_absurd {t : State} (h : Keeps B K F L c₀ q₀ r₀ pl s) (hk : Keeps B K F False c₀ q₀ r₀ pl s → Keeps B K F False c₀ q₀ r₀ pl t)
    (hh : s.inLifeline → False) : Keeps B K F L c₀ q₀ r₀ pl t :=
  keeps_held h hk fun _ hs => (hh hs).elim
theorem keeps_weaken {L' : Prop} (hl : L' → L) (h : Keeps B K F L c₀ q₀ r₀ pl s) : Keeps B K F L' c₀ q₀ r₀ pl s :=
  ⟨h.store, h.queue, h.replies, h.pair, h.bounds, h.link, h.distinct, h.single, h.two, h.rest, h.place, fun l => h.held (hl l)⟩
/-- Where LIFELINE stage cannot be, nothing need be said of it. -/
theorem keeps_inert_of (h : Keeps B K F False c₀ q₀ r₀ pl s) (hl : L → False) : Keeps B K F L c₀ q₀ r₀ pl s := keeps_weaken hl h
/-- The invariants hold in some holdover stage, the settings fixed: an operation may have changed the stage. -/
def State.Staged (B K F L : Prop) (c₀ : Sst × HoldStage) (q₀ : List Instr) (r₀ : List Reply) (s : State) : Prop :=
  ∃ g, Keeps B K F L (c₀.1, g) q₀ r₀ none s
theorem staged_held (h : Staged B K F False c₀ q₀ r₀ s) (hh : L → s.inLifeline) : Staged B K F L c₀ q₀ r₀ s := by
  obtain ⟨g, k⟩ := h
  exact ⟨g, k.store, k.queue, k.replies, k.pair, k.bounds, k.link, k.distinct, k.single, k.two, k.rest, k.place, hh⟩
theorem keeps_free (h : Keeps B K F L c₀ q₀ r₀ pl s) : Keeps B K F False c₀ q₀ r₀ pl s :=
  ⟨h.store, h.queue, h.replies, h.pair, h.bounds, h.link, h.distinct, h.single, h.two, h.rest, h.place, False.elim⟩
/-- An operation that does nothing in LIFELINE stage keeps the invariants if it does so without regard to that stage. -/
theorem keeps_inert {t : State} (h : Keeps B K F L c₀ q₀ r₀ pl s) (hk : Keeps B K F False c₀ q₀ r₀ pl s → Keeps B K F False c₀ q₀ r₀ pl t)
    (hh : s.inLifeline → t = s) : Keeps B K F L c₀ q₀ r₀ pl t :=
  keeps_held h hk fun _ hs => (hh hs).symm ▸ hs

@[simp] theorem Lks.stopped_def (k : Lks) : k.stopped ↔ k.state = .off ∧ (k.greetingEnd = none ∧ k.trainingEnd = none ∧ k.lossEnd = none ∧ k.releasingEnd = none) ∧ k.backoffEnd = none ∧ k.retrainEnd = none ∧ k.powerDropEnd = none := Iff.rfl
@[simp] theorem Pac.towardCopper_def (p : Pac) : p.towardCopper ↔ p.link.state = .free ∧ p.relay.deferred = false ∧ (p.relay.move = none → p.relay.pos = .copper) ∧ ∀ m, p.relay.move = some m → m.target = .copper := Iff.rfl

/-- What rests on the side of the pair: the claim of a link that is OFF, and the relay while a LOCAL request is deferred. -/
def State.pairRests (l : LinkState) (p : Pac) : Prop :=
  (l = .off → p.link.state = .free) ∧ (p.relay.deferred = true → p.relay.move = none ∧ p.relay.pos = .copper)
@[simp] theorem pairRests_def (l : LinkState) (p : Pac) : pairRests l p ↔ (l = .off → p.link.state = .free) ∧ (p.relay.deferred = true → p.relay.move = none ∧ p.relay.pos = .copper) := Iff.rfl

@[simp] theorem onMpt_keeps (h : Keeps B K F L c₀ q₀ r₀ pl s) {f : Mpt → Mpt}
    (hf : ((s.mpt.bounded → (f s.mpt).bounded) ∧ (f s.mpt).replies = s.mpt.replies) = True) : Keeps B K F L c₀ q₀ r₀ pl (s.onMpt f) :=
  keeps_of h rfl rfl (hf.mpr trivial).2 id (fun b => ⟨⟨(hf.mpr trivial).1 b.1.1, b.1.2⟩, b.2⟩) (fun _ => id) id id rfl rfl ⟨rfl, id⟩ fun _ => id
@[simp] theorem onPac_keeps (h : Keeps B K F L c₀ q₀ r₀ pl s) {f : Pac → Pac} (hf : (s.pac.exclusive → (f s.pac).exclusive) = True)
    (hl : ((f s.pac).place = s.pac.place ∧ (s.pac.copperAtRest → (f s.pac).copperAtRest)) = True)
    (hk : (K → pairRests s.lks.state s.pac → pairRests s.lks.state (f s.pac)) = True)
    (hh : (L → s.pac.towardCopper → (f s.pac).towardCopper) = True) : Keeps B K F L c₀ q₀ r₀ pl (s.onPac f) :=
  keeps_of h rfl rfl rfl (hf.mpr trivial) id (fun k x => have y := hk.mpr trivial k ⟨fun o => (x.1 o).2, x.2⟩; ⟨fun o => ⟨(x.1 o).1, y.1 o⟩, y.2⟩) id id rfl rfl (hl.mpr trivial)
    fun l x => ⟨x.1, x.2.1, hh.mpr trivial l x.2.2.1, x.2.2.2⟩
@[simp] theorem onLks_keeps (h : Keeps B K F L c₀ q₀ r₀ pl s) {f : Lks → Lks} (hf : (s.lks.bounded → (f s.lks).bounded) = True)
    (hk : (K → (s.lks.state = .off → s.lks.stopped ∧ s.pac.link.state = .free) → (f s.lks).state = .off → (f s.lks).stopped ∧ s.pac.link.state = .free) = True)
    (hh : (L → s.lks.stopped → (f s.lks).stopped) = True) : Keeps B K F L c₀ q₀ r₀ pl (s.onLks f) :=
  keeps_of h rfl rfl rfl id (fun b => ⟨⟨b.1.1, b.1.2.1, hf.mpr trivial b.1.2.2⟩, b.2⟩) (fun k x => ⟨hk.mpr trivial k x.1, x.2⟩) id id rfl rfl ⟨rfl, id⟩
    fun l x => ⟨x.1, hh.mpr trivial l x.2.1, x.2.2⟩
@[simp] theorem onFlg_keeps (h : Keeps B K F L c₀ q₀ r₀ pl s) {f : Flg → Flg} (hf : (s.flg.bounded → (f s.flg).bounded) = True)
    (hd : (s.flg.distinct → (f s.flg).distinct) = True) : Keeps B K F L c₀ q₀ r₀ pl (s.onFlg f) :=
  keeps_of h rfl rfl rfl id (fun b => ⟨⟨b.1.1, hf.mpr trivial b.1.2.1, b.1.2.2⟩, b.2⟩) (fun _ => id) (hd.mpr trivial) id rfl rfl ⟨rfl, id⟩ fun _ => id
@[simp] theorem onLtu_keeps (h : Keeps B K F L c₀ q₀ r₀ pl s) {f : Ltu → Ltu} (hf : (s.ltu.bounded → (f s.ltu).bounded) = True)
    (hd : (s.ltu.single → (f s.ltu).single) = True) (hh : (L → s.ltu.queue = [] → (f s.ltu).queue = []) = True) : Keeps B K F L c₀ q₀ r₀ pl (s.onLtu f) :=
  keeps_of h rfl rfl rfl id (fun b => ⟨b.1, ⟨b.2.1.1, b.2.1.2.1, hf.mpr trivial b.2.1.2.2⟩, b.2.2⟩) (fun _ => id) id (hd.mpr trivial) rfl rfl ⟨rfl, id⟩ fun l x => ⟨x.1, x.2.1, x.2.2.1, x.2.2.2.1, hh.mpr trivial l x.2.2.2.2⟩
@[simp] theorem onRsc_keeps (h : Keeps B K F L c₀ q₀ r₀ pl s) {f : Rsc → Rsc} (hf : ((s.rsc.history.length ≤ 2) → ((f s.rsc).history.length ≤ 2)) = True) : Keeps B K F L c₀ q₀ r₀ pl (s.onRsc f) :=
  keeps_of h rfl rfl rfl id (fun b => ⟨b.1, b.2.1, hf.mpr trivial b.2.2.1, b.2.2.2⟩) (fun _ => id) id id rfl rfl ⟨rfl, id⟩ fun _ => id
@[simp] theorem onMcr_keeps (h : Keeps B K F L c₀ q₀ r₀ pl s) {f : Mcr → Mcr} (hf : ((s.mcr.window.length ≤ 2) → ((f s.mcr).window.length ≤ 2)) = True) : Keeps B K F L c₀ q₀ r₀ pl (s.onMcr f) :=
  keeps_of h rfl rfl rfl id (fun b => ⟨b.1, b.2.1, b.2.2.1, hf.mpr trivial b.2.2.2⟩) (fun _ => id) id id rfl rfl ⟨rfl, id⟩ fun _ => id
@[simp] theorem onPsv_keeps (h : Keeps B K F L c₀ q₀ r₀ pl s) {f : Psv → Psv} (hh : ((f s.psv).stage = s.psv.stage) = True) : Keeps B K F L c₀ q₀ r₀ pl (s.onPsv f) :=
  have e : (f s.psv).stage = s.psv.stage := hh.mpr trivial
  keeps_of h (by show (s.sst, (f s.psv).stage) = _; rw [e]) rfl rfl id id (fun _ => id) id id rfl rfl ⟨rfl, id⟩ fun _ x => ⟨e.trans x.1, x.2⟩
@[simp] theorem onPort_keeps (h : Keeps B K F L c₀ q₀ r₀ pl s) {p : PortId} {f : Port → Port} (hf : ((s.port p).bounded → (f (s.port p)).bounded) = True)
    (hp : ((f (s.port p)).state.place = (s.port p).state.place) = True)
    (hh : (L → p = .two → (s.port p).state = .disabled → (f (s.port p)).state = .disabled) = True) : Keeps B K F L c₀ q₀ r₀ pl (s.onPort p f) :=
  match p with
  | .one => keeps_of h rfl rfl rfl id (fun b => ⟨b.1, ⟨hf.mpr trivial b.2.1.1, b.2.1.2⟩, b.2.2⟩) (fun _ => id) id id rfl (hp.mpr trivial) ⟨rfl, id⟩ fun _ => id
  | .two => keeps_of h rfl rfl rfl id (fun b => ⟨b.1, ⟨b.2.1.1, hf.mpr trivial b.2.1.2.1, b.2.1.2.2⟩, b.2.2⟩) (fun _ => id) id id (hp.mpr trivial) rfl ⟨rfl, id⟩
      fun l x => ⟨x.1, x.2.1, x.2.2.1, hh.mpr trivial l rfl x.2.2.2.1, x.2.2.2.2⟩
@[simp] theorem onSeq_keeps (h : Keeps B K F L c₀ q₀ r₀ pl s) {p : PortId} {f : Sequencer → Sequencer} : Keeps B K F L c₀ q₀ r₀ pl (s.onSeq p f) :=
  match p with
  | .one => keeps_of h rfl rfl rfl id id (fun _ => id) id id rfl rfl ⟨rfl, id⟩ fun _ => id
  | .two => keeps_of h rfl rfl rfl id id (fun _ => id) id id rfl rfl ⟨rfl, id⟩ fun _ => id
@[simp] theorem reach_keeps (h : Keeps B K F L c₀ q₀ r₀ pl s) (t : Nat) : Keeps B K F L c₀ q₀ r₀ pl (s.reach t) :=
  keeps_of h rfl rfl rfl id id (fun _ => id) id id rfl rfl ⟨rfl, id⟩ fun _ => id
@[simp] theorem choose_keeps (h : Keeps B K F L c₀ q₀ r₀ pl s) (n : Nat) : Keeps B K F L c₀ q₀ r₀ pl (s.choose n).2 := by
  unfold State.choose; split
  · exact h
  · exact keeps_of h rfl rfl rfl id id (fun _ => id) id id rfl rfl ⟨rfl, id⟩ fun _ => id

/-- Both halves of a change of place at once: the pair's record and HPC1's. -/
theorem move_keeps (h : Keeps B K F L c₀ q₀ r₀ pl s) {f : Pac → Pac} {g : Port → Port} (hf : s.pac.exclusive → (f s.pac).exclusive)
    (hb : s.hpc1.bounded → (g s.hpc1).bounded) (hk : K → pairRests s.lks.state s.pac → pairRests s.lks.state (f s.pac))
    (hr : F → (f s.pac).copperAtRest) (hp : F → (g s.hpc1).state.place = (f s.pac).place) (hh : L → s.pac.towardCopper → (f s.pac).towardCopper) :
    Keeps B K F L c₀ q₀ r₀ none ((s.onPac f).onPort .one g) :=
  ⟨h.store, h.queue, h.replies, fun b => hf (h.pair b), fun b => have x := h.bounds b; ⟨x.1, ⟨hb x.2.1.1, x.2.1.2⟩, x.2.2⟩,
    fun k => have x := h.link k; have y := hk k ⟨fun o => (x.1 o).2, x.2⟩; ⟨fun o => ⟨(x.1 o).1, y.1 o⟩, y.2⟩, h.distinct, h.single, h.two, hr, hp,
    fun l => have x := h.held l; ⟨x.1, x.2.1, hh l x.2.2.1, x.2.2.2⟩⟩

theorem whenAlive_keeps {f : State → State} (hf : ∀ s, Keeps B K F L c₀ q₀ r₀ pl s → Keeps B K F L c₀ q₀ r₀ pl (f s)) (h : Keeps B K F L c₀ q₀ r₀ pl s) : Keeps B K F L c₀ q₀ r₀ pl (whenAlive f s) := by
  unfold whenAlive; split
  · exact hf _ h
  · exact h

theorem queueNotice_bounded (n : Notice) (m : Mpt) : (m.bounded → (m.queueNotice n).bounded) ∧ (m.queueNotice n).replies = m.replies := by
  unfold Mpt.queueNotice Mpt.bounded; split
  · exact ⟨id, rfl⟩
  · split
    · exact ⟨id, rfl⟩
    · refine ⟨fun h => ?_, rfl⟩
      simp only [List.length_append, List.length_singleton]; omega
@[simp] theorem notice_keeps (n : Notice) (h : Keeps B K F L c₀ q₀ r₀ pl s) : Keeps B K F L c₀ q₀ r₀ pl (notice n s) :=
  onMpt_keeps h (eq_true (queueNotice_bounded n _))

@[simp] theorem faultNotice_keeps (e : FaultEvent) (r : FaultRecord) (h : Keeps B K F L c₀ q₀ r₀ pl s) :
    Keeps B K F L c₀ q₀ r₀ pl (faultNotice e r s) := by
  unfold faultNotice
  (try dsimp only)
  (repeat' split) <;> simp_all (maxDischargeDepth := 40)

@[simp] theorem writeRetained_keeps (c : FaultCode) (detail : List (BitVec 32)) (h : Keeps B K F L c₀ q₀ r₀ pl s) :
    Keeps B K F L c₀ q₀ r₀ pl (writeRetained c detail s) := by
  unfold writeRetained
  (try dsimp only)
  (repeat' split) <;> simp_all (maxDischargeDepth := 40)

theorem length_mapFirst {α : Type} (p : α → Bool) (f : α → α) (xs : List α) : (mapFirst p f xs).length = xs.length := by
  induction xs with
  | nil => rfl
  | cons x xs ih => unfold mapFirst; split <;> simp [ih]
theorem length_eraseFirst {α : Type} (p : α → Bool) (xs : List α) (h : xs.any p = true) :
    (eraseFirst p xs).length + 1 = xs.length := by
  induction xs with
  | nil => simp at h
  | cons x xs ih =>
    unfold eraseFirst
    by_cases hx : p x = true
    · simp [hx]
    · simp only [List.any_cons, hx, Bool.false_or] at h
      simp [hx, ih h]
theorem length_eraseFirst_le {α : Type} (p : α → Bool) (xs : List α) : (eraseFirst p xs).length ≤ xs.length := by
  induction xs with
  | nil => simp [eraseFirst]
  | cons x xs ih => unfold eraseFirst; split <;> simp <;> omega
theorem eraseFirst_sublist {α : Type} (p : α → Bool) (xs : List α) : (eraseFirst p xs).Sublist xs := by
  induction xs with
  | nil => exact List.Sublist.refl _
  | cons x xs ih =>
    unfold eraseFirst; split
    · exact List.sublist_cons_self x xs
    · exact ih.cons_cons x
theorem mem_mapFirst {α : Type} {p : α → Bool} {f : α → α} {xs : List α} {y : α} (h : y ∈ mapFirst p f xs) :
    y ∈ xs ∨ ∃ x ∈ xs, p x = true ∧ y = f x := by
  induction xs with
  | nil => exact .inl h
  | cons x xs ih =>
    unfold mapFirst at h
    split at h <;> simp only [List.mem_cons] at h ⊢ <;> rcases h with h | h
    · exact .inr ⟨x, .inl rfl, by assumption, h⟩
    · exact .inl (.inr h)
    · exact .inl (.inl h)
    · rcases ih h with h | ⟨z, hz, h⟩
      · exact .inl (.inr h)
      · exact .inr ⟨z, .inr hz, h⟩
/-- The first entry that meets a condition may become one that stands apart from all that it stood apart from. -/
theorem pairwise_mapFirst {α : Type} {R : α → α → Prop} {p : α → Bool} {f : α → α}
    (hf : ∀ x y, p x = true → (R x y → R (f x) y) ∧ (R y x → R y (f x))) {xs : List α} (h : xs.Pairwise R) :
    (mapFirst p f xs).Pairwise R := by
  induction xs with
  | nil => exact h
  | cons x xs ih =>
    rw [List.pairwise_cons] at h
    unfold mapFirst; split
    · exact List.pairwise_cons.mpr ⟨fun y hy => (hf x y (by assumption)).1 (h.1 y hy), h.2⟩
    · refine List.pairwise_cons.mpr ⟨fun y hy => ?_, ih h.2⟩
      rcases mem_mapFirst hy with hy | ⟨z, hz, hp, e⟩
      · exact h.1 y hy
      · subst e; exact (hf z x hp).2 (h.1 z hz)
/-- A record that takes the place of the ACTIVE record of its code and source keeps the log's records apart. -/
theorem distinct_mapFirst {c : FaultCode} {o : Source} {r : FaultRecord} (hc : r.code = c) (ho : r.source = o)
    {log : List FaultRecord} (h : log.Pairwise FaultRecord.apart) :
    (mapFirst (FaultRecord.isOf c o) (fun _ => r) log).Pairwise FaultRecord.apart := by
  refine pairwise_mapFirst (fun x y hx => ?_) h
  simp only [FaultRecord.isOf, FaultRecord.active, Bool.and_eq_true, Option.isNone_iff_eq_none, decide_eq_true_eq] at hx
  unfold FaultRecord.apart
  rw [hc, ho, hx.1, hx.2.1, hx.2.2]
  exact ⟨fun h _ => h rfl, fun h hy _ => h hy rfl⟩
/-- A record joins a log that holds no ACTIVE record of its code and source. -/
theorem distinct_append {c : FaultCode} {o : Source} {r : FaultRecord} (hc : r.code = c) (ho : r.source = o)
    {log full : List FaultRecord} (hs : log.Sublist full) (hn : full.find? (FaultRecord.isOf c o) = none)
    (h : full.Pairwise FaultRecord.apart) : (log ++ [r]).Pairwise FaultRecord.apart := by
  refine List.pairwise_append.mpr ⟨h.sublist hs, List.pairwise_singleton _ _, fun x hx y hy => ?_⟩
  have hx' := List.find?_eq_none.mp hn x (hs.subset hx)
  rw [List.mem_singleton] at hy
  subst hy
  intro h1 h2 h3 h4
  exact hx' (by simp [FaultRecord.isOf, FaultRecord.active, h1, h3, h4, hc, ho])
theorem found_isOf {c : FaultCode} {o : Source} {r : FaultRecord} {log : List FaultRecord}
    (h : log.find? (FaultRecord.isOf c o) = some r) : r.code = c ∧ r.source = o := by
  have := List.find?_some h
  simp [FaultRecord.isOf] at this
  exact this.2
theorem makeRoom_sublist {sev : Severity} {log r : List FaultRecord} (h : makeRoom sev log = some r) : r.Sublist log := by
  unfold makeRoom at h
  dsimp only at h
  repeat' split at h
  all_goals first
    | (injection h with h; subst h; exact eraseFirst_sublist _ _)
    | contradiction
theorem makeRoom_length {sev : Severity} {log r : List FaultRecord} (h : makeRoom sev log = some r) : r.length + 1 = log.length := by
  unfold makeRoom at h
  dsimp only at h
  repeat' split at h
  all_goals first
    | (injection h with h; subst h; apply length_eraseFirst; assumption)
    | contradiction
@[simp] theorem reportLog_keeps (c : FaultCode) (o : Source) (sev : Severity) (detail : List (BitVec 32)) (h : Keeps B K F L c₀ q₀ r₀ pl s) : Keeps B K F L c₀ q₀ r₀ pl (reportLog c o sev detail s) := by
  unfold reportLog
  dsimp only
  split
  · rename_i hr
    have hd := fun hd : s.flg.distinct => distinct_mapFirst (r := FaultRecord.merge sev s.uptime detail _) (found_isOf hr).1 (found_isOf hr).2 hd
    split
    · apply faultNotice_keeps; apply onFlg_keeps h
      · simp [length_mapFirst]
      · exact eq_true hd
    · apply onFlg_keeps h
      · simp [length_mapFirst]
      · exact eq_true hd
  · rename_i hn
    split
    · apply faultNotice_keeps; apply onFlg_keeps h
      · simp; simp [faultMax] at *; omega
      · exact eq_true fun hd => distinct_append rfl rfl (List.Sublist.refl _) hn hd
    · split
      · rename_i hm
        apply faultNotice_keeps; apply onFlg_keeps h
        · have := makeRoom_length hm; simp; omega
        · exact eq_true fun hd => distinct_append rfl rfl (makeRoom_sublist hm) hn hd
      · apply onFlg_keeps h <;> simp

@[simp] theorem report_keeps (c : FaultCode) (o : Source) (sev : Severity) (detail : List (BitVec 32)) (h : Keeps B K F L c₀ q₀ r₀ pl s) :
    Keeps B K F L c₀ q₀ r₀ pl (report c o sev detail s) := by
  unfold report
  (try dsimp only)
  (repeat' split) <;> simp_all (maxDischargeDepth := 40)

@[simp] theorem clearFault_keeps (c : FaultCode) (o : Source) (h : Keeps B K F L c₀ q₀ r₀ pl s) : Keeps B K F L c₀ q₀ r₀ pl (clearFault c o s) := by
  unfold clearFault
  dsimp only
  split
  · rename_i r hr
    have hd := fun hd : s.flg.distinct => distinct_mapFirst (r := { r with clearedAt := some s.uptime }) (found_isOf hr).1 (found_isOf hr).2 hd
    apply faultNotice_keeps; apply onFlg_keeps h
    · simp [length_mapFirst]
    · exact eq_true hd
  · exact h

@[simp] theorem wakeCause_keeps (c : WakeCause) (port : Option PortId) (h : Keeps B K F L c₀ q₀ r₀ pl s) :
    Keeps B K F L c₀ q₀ r₀ pl (wakeCause c port s) := by
  unfold wakeCause
  (try dsimp only)
  (repeat' split) <;> simp_all (maxDischargeDepth := 40)

theorem onExpiry_keeps {t : Option Nat} {f : State → State} (hf : ∀ s, Keeps B K F L c₀ q₀ r₀ pl s → Keeps B K F L c₀ q₀ r₀ pl (f s)) (h : Keeps B K F L c₀ q₀ r₀ pl s) : Keeps B K F L c₀ q₀ r₀ pl (onExpiry t f s) := by
  unfold onExpiry; split
  · exact h
  · exact hf _ (reach_keeps h _)

/-- A timer that does not run in LIFELINE stage. -/
theorem onExpiry_timer {t : Option Nat} {f : State → State} (ht : s.inLifeline → t = none)
    (hf : ∀ s, Keeps B K F False c₀ q₀ r₀ pl s → Keeps B K F False c₀ q₀ r₀ pl (f s)) (h : Keeps B K F L c₀ q₀ r₀ pl s) :
    Keeps B K F L c₀ q₀ r₀ pl (onExpiry t f s) :=
  keeps_inert h (onExpiry_keeps hf) fun hs => by rw [ht hs]; rfl

theorem onNamedPort_keeps (n : Nat) {f : PortId → State → Answer × State} (hf : ∀ p s, Keeps B K F L c₀ q₀ r₀ pl s → Keeps B K F L c₀ q₀ r₀ pl (f p s).2) (h : Keeps B K F L c₀ q₀ r₀ pl s) :
    Keeps B K F L c₀ q₀ r₀ pl (onNamedPort n f s).2 := by
  unfold onNamedPort; split
  · exact h
  · exact hf _ _ h

@[simp] theorem restartSilence_keeps (h : Keeps B K F L c₀ q₀ r₀ pl s) :
    Keeps B K F L c₀ q₀ r₀ pl (restartSilence s) := by
  unfold restartSilence
  (try dsimp only)
  (repeat' split) <;> simp_all (maxDischargeDepth := 40)

@[simp] theorem linkNotice_keeps (prev : LinkState) (cause : LinkCause) (h : Keeps B K F L c₀ q₀ r₀ pl s) :
    Keeps B K F L c₀ q₀ r₀ pl (linkNotice prev cause s) := by
  unfold linkNotice
  (try dsimp only)
  (repeat' split) <;> simp_all (maxDischargeDepth := 40)

@[simp] theorem enterGreeting_keeps (h : Keeps B K F False c₀ q₀ r₀ pl s) :
    Keeps B K F False c₀ q₀ r₀ pl (enterGreeting s) := by
  unfold enterGreeting
  (try dsimp only)
  (repeat' split) <;> simp_all (maxDischargeDepth := 40)

@[simp] theorem grantLink_keeps (hg : s.linkGrantable = true) (hs : K → s.lks.state ≠ .off) (h : Keeps B K F False c₀ q₀ r₀ pl s) : Keeps B K F False c₀ q₀ r₀ pl (grantLink s) := by
  unfold grantLink
  apply enterGreeting_keeps
  apply onPac_keeps h
  · simp_all [State.linkGrantable]
  · exact eq_true ⟨rfl, id⟩
  · exact eq_true fun k x => ⟨fun o => (hs k o).elim, x.2⟩
  · simp


theorem settle_single (t : Nat) (l : Ltu) (h : l.single) : (l.settle t).single := by
  unfold Ltu.settle
  split
  · exact h
  · rename_i e rest hq
    rw [Ltu.single_def, hq, List.pairwise_cons] at h
    exact List.pairwise_cons.mpr h
@[simp] theorem grantTest_keeps (hg : s.testGrantable = true) (h : Keeps B K F L c₀ q₀ r₀ pl s) : Keeps B K F L c₀ q₀ r₀ pl (grantTest s) := by
  unfold grantTest
  apply onLtu_keeps
  · apply onPac_keeps h
    · simp_all [State.testGrantable]
    · exact eq_true ⟨rfl, id⟩
    · exact eq_true fun _ => id
    · exact eq_true fun _ => id
  · unfold Ltu.settle
    split <;> simp_all
  · exact eq_true (settle_single _ _)
  · refine eq_true fun _ hq => ?_
    unfold Ltu.settle
    rw [hq]
    exact hq


@[simp] theorem reexamine_keeps (h : Keeps B K F L c₀ q₀ r₀ pl s) :
    Keeps B K F L c₀ q₀ r₀ pl (reexamine s) := by
  unfold reexamine
  split
  · exact grantTest_keeps (by simp_all) h
  · split
    · rename_i hw
      simp only [Bool.and_eq_true, decide_eq_true_eq] at hw
      have hs : K → s.lks.state ≠ .off := fun k o => by rw [((h.link k).1 o).2] at hw; cases hw.1
      exact keeps_absurd h (grantLink_keeps hw.2 hs) fun hs => by rw [hs.2.2.1.1] at hw; cases hw.1
    · exact h


@[simp] theorem requestLink_keeps (hs : K → s.lks.state ≠ .off) (h : Keeps B K F False c₀ q₀ r₀ pl s) :
    Keeps B K F False c₀ q₀ r₀ pl (requestLink s) := by
  unfold requestLink
  split
  · exact grantLink_keeps (by assumption) hs h
  · apply onPac_keeps h
    · simp_all
    · exact eq_true ⟨rfl, id⟩
    · exact eq_true fun k x => ⟨fun o => (hs k o).elim, x.2⟩
    · simp

@[simp] theorem releaseLink_keeps (h : Keeps B K F L c₀ q₀ r₀ pl s) :
    Keeps B K F L c₀ q₀ r₀ pl (releaseLink s) := by
  unfold releaseLink
  (try dsimp only)
  (repeat' split) <;> simp_all (maxDischargeDepth := 40)

@[simp] theorem freeTest_keeps (h : Keeps B K F L c₀ q₀ r₀ pl s) :
    Keeps B K F L c₀ q₀ r₀ pl (freeTest s) := by
  unfold freeTest
  (try dsimp only)
  (repeat' split) <;> simp_all (maxDischargeDepth := 40)

@[simp] theorem claimTest_keeps (e : TestEntry) (h : Keeps B K F L c₀ q₀ r₀ pl s) : Keeps B K F L c₀ q₀ r₀ pl (claimTest e s) := by
  have h1 : Keeps B K F L c₀ q₀ r₀ pl (s.onPac fun p => { p with testInfo := some { job := e.job, origin := e.origin, disruptive := e.disruptive } }) := by
    apply onPac_keeps h
    · simp
    · exact eq_true ⟨rfl, id⟩
    · exact eq_true fun _ => id
    · exact eq_true fun _ => id
  unfold claimTest
  dsimp only
  split
  · exact grantTest_keeps (by assumption) h1
  · apply onPac_keeps h1
    · simp_all
    · exact eq_true ⟨rfl, id⟩
    · exact eq_true fun _ => id
    · exact eq_true fun _ => id


theorem startLocalMove_keeps (carriesOut : Bool) (hc : F → s.pac.copperActive = false) (h : Keeps B K F False c₀ q₀ r₀ pl s) :
    Keeps B K F False c₀ q₀ r₀ none (startLocalMove carriesOut s) := by
  unfold startLocalMove
  exact move_keeps h id id (fun _ x => ⟨x.1, fun e => nomatch e⟩) (fun f => by simp [hc f]) (by simp) (by simp)


@[simp] theorem tryReturnLocal_keeps (h : Keeps B K F L c₀ q₀ r₀ none s) :
    Keeps B K F L c₀ q₀ r₀ none (tryReturnLocal s) := by
  unfold tryReturnLocal
  split
  · exact keeps_absurd h (startLocalMove_keeps _ (fun _ => by simp_all)) fun hs => by simp_all [State.inLifeline]
  · exact h


@[simp] theorem flushPayload_keeps (h : Keeps B K F L c₀ q₀ r₀ pl s) :
    Keeps B K F L c₀ q₀ r₀ pl (flushPayload s) := by
  unfold flushPayload
  (try dsimp only)
  (repeat' split) <;> simp_all (maxDischargeDepth := 40)

@[simp] theorem endLoopback_keeps (cause : LoopEnd) (h : Keeps B K F L c₀ q₀ r₀ pl s) :
    Keeps B K F L c₀ q₀ r₀ pl (endLoopback cause s) := by
  unfold endLoopback
  (try dsimp only)
  (repeat' split) <;> simp_all (maxDischargeDepth := 40)

@[simp] theorem channelLost_keeps (h : Keeps B K F L c₀ q₀ r₀ pl s) :
    Keeps B K F L c₀ q₀ r₀ pl (channelLost s) := by
  unfold channelLost
  (try dsimp only)
  (repeat' split) <;> simp_all (maxDischargeDepth := 40)

@[simp] theorem beginInterval_keeps (h : Keeps B K F L c₀ q₀ r₀ pl s) :
    Keeps B K F L c₀ q₀ r₀ pl (beginInterval s) := by
  unfold beginInterval
  (try dsimp only)
  (repeat' split) <;> simp_all (maxDischargeDepth := 40)

theorem pushHistory_length (r : Interval) (h : List Interval) (hl : h.length ≤ historyMax) : (pushHistory r h).length ≤ historyMax := by
  unfold pushHistory
  simp only [List.length_drop, List.length_append, List.length_singleton]
  unfold historyMax at *
  omega
@[simp] theorem appendInterval_keeps (r : Interval) (h : Keeps B K F L c₀ q₀ r₀ pl s) : Keeps B K F L c₀ q₀ r₀ pl (appendInterval r s) := by
  unfold appendInterval
  apply notice_keeps
  apply onLks_keeps h
  · simp only [Lks.bounded, eq_iff_iff, iff_true]
    intro hb
    exact ⟨hb.1, pushHistory_length _ _ hb.2.1, hb.2.2⟩
  · exact eq_true fun _ => id
  · exact eq_true fun _ => id


@[simp] theorem closePartial_keeps (reason : DropReason) (h : Keeps B K F L c₀ q₀ r₀ pl s) :
    Keeps B K F L c₀ q₀ r₀ pl (closePartial reason s) := by
  unfold closePartial
  (try dsimp only)
  (repeat' split) <;> simp_all (maxDischargeDepth := 40)

@[simp] theorem leaveCarrying_keeps (reason : DropReason) (h : Keeps B K F L c₀ q₀ r₀ pl s) :
    Keeps B K F L c₀ q₀ r₀ pl (leaveCarrying reason s) := by
  unfold leaveCarrying
  (try dsimp only)
  (repeat' split) <;> simp_all (maxDischargeDepth := 40)

@[simp] theorem trialFail_keeps (h : Keeps B K F L c₀ q₀ r₀ pl s) :
    Keeps B K F L c₀ q₀ r₀ pl (trialFail s) := by
  unfold trialFail
  (try dsimp only)
  (repeat' split) <;> simp_all (maxDischargeDepth := 40)

@[simp] theorem trialEnd_keeps (h : Keeps B K F L c₀ q₀ r₀ pl s) :
    Keeps B K F L c₀ q₀ r₀ pl (trialEnd s) := by
  unfold trialEnd
  (try dsimp only)
  (repeat' split) <;> simp_all (maxDischargeDepth := 40)

@[simp] theorem toOff_keeps (cause : LinkCause) (hc : K → s.pac.link.state = .free) (h : Keeps B K F L c₀ q₀ r₀ pl s) :
    Keeps B K F L c₀ q₀ r₀ pl (toOff cause s) := by
  unfold toOff
  apply linkNotice_keeps
  apply onLks_keeps h
  · simp
  · exact eq_true fun k _ _ => ⟨⟨rfl, ⟨rfl, rfl, rfl, rfl⟩, rfl, rfl, rfl⟩, hc k⟩
  · simp

@[simp] theorem toBackoff_keeps (waitS : Nat) (cause : LinkCause) (h : Keeps B K F False c₀ q₀ r₀ pl s) :
    Keeps B K F False c₀ q₀ r₀ pl (toBackoff waitS cause s) := by
  unfold toBackoff
  (try dsimp only)
  (repeat' split) <;> simp_all (maxDischargeDepth := 40)

@[simp] theorem freshLadder_keeps (h : Keeps B K F L c₀ q₀ r₀ pl s) :
    Keeps B K F L c₀ q₀ r₀ pl (freshLadder s) := by
  unfold freshLadder
  (try dsimp only)
  (repeat' split) <;> simp_all (maxDischargeDepth := 40)

@[simp] theorem waitWith_keeps (w : WaitReason) (cause : LinkCause) (h : Keeps B K F False c₀ q₀ r₀ pl s) :
    Keeps B K F False c₀ q₀ r₀ pl (waitWith w cause s) := by
  unfold waitWith
  (try dsimp only)
  (repeat' split) <;> simp_all (maxDischargeDepth := 40)

@[simp] theorem beginAttempt_keeps (cause : LinkCause) (h : Keeps B K F False c₀ q₀ r₀ pl s) :
    Keeps B K F False c₀ q₀ r₀ pl (beginAttempt cause s) := by
  unfold beginAttempt
  dsimp only
  split
  · exact report_keeps _ _ _ _ (waitWith_keeps _ _ (freshLadder_keeps h))
  · apply requestLink_keeps
    · simp
    · apply onLks_keeps (waitWith_keeps _ _ (clearFault_keeps _ _ (onLks_keeps (freshLadder_keeps h) _ _ _))) <;> simp

@[simp] theorem rerunAttempt_keeps (h : Keeps B K F False c₀ q₀ r₀ pl s) :
    Keeps B K F False c₀ q₀ r₀ pl (rerunAttempt s) := by
  unfold rerunAttempt
  (try dsimp only)
  (repeat' split) <;> simp_all (maxDischargeDepth := 40)

@[simp] theorem abandonAttempt_keeps (h : Keeps B K F L c₀ q₀ r₀ pl s) :
    Keeps B K F L c₀ q₀ r₀ pl (abandonAttempt s) := by
  unfold abandonAttempt
  (try dsimp only)
  (repeat' split) <;> simp_all (maxDischargeDepth := 40)

@[simp] theorem failAttempt_keeps (o : FailOutcome) (h : Keeps B K F False c₀ q₀ r₀ pl s) :
    Keeps B K F False c₀ q₀ r₀ pl (failAttempt o s) := by
  unfold failAttempt
  (try dsimp only)
  (repeat' split) <;> simp_all (maxDischargeDepth := 40)

@[simp] theorem stepTraining_keeps (hs : K → s.lks.state ≠ .off) (h : Keeps B K F False c₀ q₀ r₀ pl s) :
    Keeps B K F False c₀ q₀ r₀ pl (stepTraining s) := by
  unfold stepTraining
  dsimp only
  split
  · apply linkNotice_keeps; apply onLks_keeps (trialFail_keeps h)
    · simp
    · exact eq_true fun k _ o => (hs k ((trialFail_state s).symm.trans o)).elim
    · simp
  · exact failAttempt_keeps _ (trialFail_keeps h)

@[simp] theorem enterTraining_keeps (h : Keeps B K F False c₀ q₀ r₀ pl s) :
    Keeps B K F False c₀ q₀ r₀ pl (enterTraining s) := by
  unfold enterTraining
  (try dsimp only)
  (repeat' split) <;> simp_all (maxDischargeDepth := 40)

@[simp] theorem enterCarrying_keeps (a : Attained) (h : Keeps B K F False c₀ q₀ r₀ none s) :
    Keeps B K F False c₀ q₀ r₀ none (enterCarrying a s) := by
  unfold enterCarrying
  (try dsimp only)
  (repeat' split) <;> simp_all (maxDischargeDepth := 40)

@[simp] theorem countDrop_keeps (r : DropReason) (h : Keeps B K F L c₀ q₀ r₀ pl s) :
    Keeps B K F L c₀ q₀ r₀ pl (countDrop r s) := by
  unfold countDrop
  (try dsimp only)
  (repeat' split) <;> simp_all (maxDischargeDepth := 40)

@[simp] theorem dropOrderly_keeps (r : DropReason) (dest : ReleaseDest) (wait : Option Nat) (h : Keeps B K F False c₀ q₀ r₀ pl s) :
    Keeps B K F False c₀ q₀ r₀ pl (dropOrderly r dest wait s) := by
  unfold dropOrderly
  (try dsimp only)
  (repeat' split) <;> simp_all (maxDischargeDepth := 40)

@[simp] theorem dropByReason_keeps (r : DropReason) (dest : ReleaseDest) (h : Keeps B K F False c₀ q₀ r₀ pl s) :
    Keeps B K F False c₀ q₀ r₀ pl (dropByReason r dest s) := by
  unfold dropByReason
  (try dsimp only)
  (repeat' split) <;> simp_all (maxDischargeDepth := 40)

@[simp] theorem endReleasing_keeps (h : Keeps B K F False c₀ q₀ r₀ pl s) :
    Keeps B K F False c₀ q₀ r₀ pl (endReleasing s) := by
  unfold endReleasing
  (try dsimp only)
  (repeat' split) <;> simp_all (maxDischargeDepth := 40)

theorem stepUpCheck_off (hs : s.lks.state = .off) : stepUpCheck s = s := by
  have : s.stepUpDue = none := by unfold State.stepUpDue; split <;> simp [hs]
  unfold stepUpCheck
  rw [this]
theorem stepUpCheck_free (h : Keeps B K F False c₀ q₀ r₀ pl s) :
    Keeps B K F False c₀ q₀ r₀ pl (stepUpCheck s) := by
  unfold stepUpCheck
  (try dsimp only)
  (repeat' split) <;> simp_all (maxDischargeDepth := 40)
@[simp] theorem stepUpCheck_keeps (h : Keeps B K F L c₀ q₀ r₀ pl s) : Keeps B K F L c₀ q₀ r₀ pl (stepUpCheck s) :=
  keeps_inert h stepUpCheck_free fun hs => stepUpCheck_off hs.2.1.1


@[simp] theorem powerDrop_keeps (h : Keeps B K F False c₀ q₀ r₀ pl s) :
    Keeps B K F False c₀ q₀ r₀ pl (powerDrop s) := by
  unfold powerDrop
  (try dsimp only)
  (repeat' split) <;> simp_all (maxDischargeDepth := 40)

@[simp] theorem releaseRequest_keeps (h : Keeps B K F False c₀ q₀ r₀ pl s) :
    Keeps B K F False c₀ q₀ r₀ pl (releaseRequest s) := by
  unfold releaseRequest
  (try dsimp only)
  (repeat' split) <;> simp_all (maxDischargeDepth := 40)

@[simp] theorem askRelease_keeps (h : Keeps B K F L c₀ q₀ r₀ pl s) :
    Keeps B K F L c₀ q₀ r₀ pl (askRelease s) := by
  refine keeps_inert h (fun h => ?_) fun hs => ?_
  · unfold askRelease
    (try dsimp only)
    (repeat' split) <;> simp_all (maxDischargeDepth := 40)
  · unfold askRelease
    simp [hs.2.2.1.1]


@[simp] theorem linkHazard_keeps (h : Keeps B K F L c₀ q₀ r₀ pl s) :
    Keeps B K F L c₀ q₀ r₀ pl (linkHazard s) := by
  refine keeps_inert h (fun h => ?_) fun hs => ?_
  · unfold linkHazard
    (try dsimp only)
    (repeat' split) <;> simp_all (maxDischargeDepth := 40)
  · unfold linkHazard
    rw [hs.2.1.1]


@[simp] theorem linkOff_keeps (r : DropReason) (h : Keeps B K F L c₀ q₀ r₀ pl s) :
    Keeps B K F L c₀ q₀ r₀ pl (linkOff r s) := by
  refine keeps_inert h (fun h => ?_) fun hs => ?_
  · unfold linkOff
    (try dsimp only)
    (repeat' split) <;> simp_all (maxDischargeDepth := 40)
  · unfold linkOff
    rw [hs.2.1.1]


@[simp] theorem linkConserve_keeps (h : Keeps B K F False c₀ q₀ r₀ pl s) :
    Keeps B K F False c₀ q₀ r₀ pl (linkConserve s) := by
  unfold linkConserve
  (try dsimp only)
  (repeat' split) <;> simp_all (maxDischargeDepth := 40)

@[simp] theorem linkMains_keeps (h : Keeps B K F False c₀ q₀ r₀ pl s) :
    Keeps B K F False c₀ q₀ r₀ pl (linkMains s) := by
  unfold linkMains
  (try dsimp only)
  (repeat' split) <;> simp_all (maxDischargeDepth := 40)

@[simp] theorem trialStage_keeps (h : Keeps B K F L c₀ q₀ r₀ pl s) :
    Keeps B K F L c₀ q₀ r₀ pl (trialStage s) := by
  unfold trialStage
  (try dsimp only)
  (repeat' split) <;> simp_all (maxDischargeDepth := 40)

@[simp] theorem linkStage_keeps (h : Keeps B K F False c₀ q₀ r₀ pl s) :
    Keeps B K F False c₀ q₀ r₀ pl (linkStage s) := by
  unfold linkStage
  (try dsimp only)
  (repeat' split) <;> simp_all (maxDischargeDepth := 40)

@[simp] theorem resultFault_keeps (r : TestResult) (h : Keeps B K F L c₀ q₀ r₀ pl s) :
    Keeps B K F L c₀ q₀ r₀ pl (resultFault r s) := by
  unfold resultFault
  (try dsimp only)
  (repeat' split) <;> simp_all (maxDischargeDepth := 40)

@[simp] theorem claimHead_keeps (h : Keeps B K F L c₀ q₀ r₀ pl s) : Keeps B K F L c₀ q₀ r₀ pl (claimHead s) := by
  unfold claimHead
  split
  · exact h
  · rename_i hq
    apply askRelease_keeps; apply claimTest_keeps; apply onLtu_keeps h
    · simp [hq]
    · refine eq_true fun hs => ?_
      rw [Ltu.single_def, hq, List.pairwise_cons] at hs
      exact List.pairwise_cons.mpr hs
    · simp [hq]


@[simp] theorem requestTest_keeps (kind : TestKind) (origin : Origin) (repeats : Nat) (disruptive : Bool) (h : Keeps B K F L c₀ q₀ r₀ pl s) : Keeps B K F L c₀ q₀ r₀ pl (requestTest kind origin repeats disruptive s).2 := by
  refine keeps_inert h (fun h => ?_) fun hs => ?_
  · unfold requestTest
    split
    · exact h
    · split
      · exact h
      · rename_i hn
        split
        · exact h
        · have h1 : ∀ j (e : TestEntry), e.kind = kind → e.origin = origin →
              Keeps B K F False c₀ q₀ r₀ pl (s.onLtu fun l => { l with queue := l.queue ++ [e], nextJob := j }) := by
            intro j e hk ho
            apply onLtu_keeps h
            · simp_all <;> omega
            · refine eq_true fun hs => List.pairwise_append.mpr ⟨hs, List.pairwise_singleton _ _, fun x hx y hy => ?_⟩
              have hx' := List.find?_eq_none.mp hn x hx
              rw [List.mem_singleton] at hy
              subst hy
              intro h3 h4
              exact hx' (by simp [h3, h4, hk, ho])
            · simp
          dsimp only
          split
          · exact claimHead_keeps (h1 _ _ rfl rfl)
          · exact h1 _ _ rfl rfl
  · unfold requestTest
    simp [hs.1]


@[simp] theorem handOver_keeps (claimNext : Bool) (h : Keeps B K F L c₀ q₀ r₀ pl s) :
    Keeps B K F L c₀ q₀ r₀ pl (handOver claimNext s) := by
  unfold handOver
  (try dsimp only)
  (repeat' split) <;> simp_all (maxDischargeDepth := 40)

@[simp] theorem finishTest_keeps (isHead claimNext : Bool) (e : TestEntry) (status : TestStatus) (abort : Option AbortReason) (h : Keeps B K F L c₀ q₀ r₀ pl s) :
    Keeps B K F L c₀ q₀ r₀ pl (finishTest isHead claimNext e status abort s) := by
  unfold finishTest
  dsimp only
  have h1 : ∀ (v : Ltu → Vector (Option TestResult) 4) (w : Ltu → Option TestRun), Keeps B K F L c₀ q₀ r₀ pl (s.onLtu fun l => { l with results := v l, queue := eraseFirst (fun x => x.job = e.job) l.queue, run := w l }) := by
    intro v w
    apply onLtu_keeps h
    · have := length_eraseFirst_le (fun x => decide (x.job = e.job)) s.ltu.queue
      simp; omega
    · exact eq_true fun hs => List.Pairwise.sublist (eraseFirst_sublist _ _) hs
    · exact eq_true fun _ hq => by simp [hq, eraseFirst]
  cases isHead <;> simp only [Bool.false_eq_true, ↓reduceIte]
  · exact resultFault_keeps _ (notice_keeps _ (h1 _ (fun l => l.run)))
  · exact reexamine_keeps (resultFault_keeps _ (notice_keeps _ (handOver_keeps _ (h1 _ _))))


@[simp] theorem cutHead_keeps (claimNext : Bool) (reason : AbortReason) (h : Keeps B K F L c₀ q₀ r₀ pl s) :
    Keeps B K F L c₀ q₀ r₀ pl (cutHead claimNext reason s) := by
  unfold cutHead
  (try dsimp only)
  (repeat' split) <;> simp_all (maxDischargeDepth := 40)

theorem abortTest_keeps (reason : AbortReason) {between : State → State} (hb : ∀ s, s.pac.test.state ≠ .held → Keeps B K F L c₀ q₀ r₀ pl s → Keeps B K F L c₀ q₀ r₀ pl (between s)) (h : Keeps B K F L c₀ q₀ r₀ pl s) :
    Keeps B K F L c₀ q₀ r₀ pl (abortTest reason between s) := by
  unfold abortTest
  split
  · apply cutHead_keeps; apply hb
    · unfold freeTest; split <;> simp_all
    · exact freeTest_keeps h
  · apply hb _ _ h; assumption

@[simp] theorem emptyQueue_keeps (n : Nat) (h : Keeps B K F L c₀ q₀ r₀ pl s) : Keeps B K F L c₀ q₀ r₀ pl (emptyQueue n s) := by
  induction n generalizing s with
  | zero => exact h
  | succ n ih => exact ih (cutHead_keeps _ _ h)

@[simp] theorem testStage_keeps (h : Keeps B K F L c₀ q₀ r₀ pl s) :
    Keeps B K F L c₀ q₀ r₀ pl (testStage s) := by
  unfold testStage
  (try dsimp only)
  (repeat' split) <;> simp_all (maxDischargeDepth := 40)

@[simp] theorem testLines_keeps (h : Keeps B K F L c₀ q₀ r₀ pl s) : Keeps B K F L c₀ q₀ r₀ pl (testLines s) := by
  unfold testLines
  split
  · exact h
  · rename_i hq
    apply cutHead_keeps; apply onLtu_keeps h
    · simp [testQueueMax]
    · exact eq_true fun _ => List.pairwise_singleton _ _
    · simp [hq]


@[simp] theorem stormStep_keeps (oldest : Nat) (h : Keeps B K F L c₀ q₀ r₀ pl s) :
    Keeps B K F L c₀ q₀ r₀ pl (stormStep oldest s) := by
  unfold stormStep
  (try dsimp only)
  (repeat' split) <;> simp_all (maxDischargeDepth := 40)

@[simp] theorem enterWindow_keeps (r : DropReason) (h : Keeps B K F L c₀ q₀ r₀ pl s) : Keeps B K F L c₀ q₀ r₀ pl (enterWindow r s) := by
  unfold enterWindow
  dsimp only
  split
  · apply onLks_keeps h
    · simp [Lks.bounded]; intros; simp_all; omega
    · exact eq_true fun _ => id
    · exact eq_true fun _ => id
  · apply stormStep_keeps; apply onLks_keeps h
    · simp [Lks.bounded]; intros; simp_all
    · exact eq_true fun _ => id
    · exact eq_true fun _ => id


@[simp] theorem countFailure_keeps (h : Keeps B K F L c₀ q₀ r₀ pl s) :
    Keeps B K F L c₀ q₀ r₀ pl (countFailure s) := by
  unfold countFailure
  (try dsimp only)
  (repeat' split) <;> simp_all (maxDischargeDepth := 40)

@[simp] theorem recordDrop_keeps (r : DropReason) (wait : Nat) (h : Keeps B K F L c₀ q₀ r₀ pl s) :
    Keeps B K F L c₀ q₀ r₀ pl (recordDrop r wait s) := by
  unfold recordDrop
  (try dsimp only)
  (repeat' split) <;> simp_all (maxDischargeDepth := 40)

@[simp] theorem lossDrop_keeps (h : Keeps B K F False c₀ q₀ r₀ pl s) :
    Keeps B K F False c₀ q₀ r₀ pl (lossDrop s) := by
  unfold lossDrop
  (try dsimp only)
  (repeat' split) <;> simp_all (maxDischargeDepth := 40)

@[simp] theorem qualityDrop_keeps (h : Keeps B K F False c₀ q₀ r₀ pl s) :
    Keeps B K F False c₀ q₀ r₀ pl (qualityDrop s) := by
  unfold qualityDrop
  (try dsimp only)
  (repeat' split) <;> simp_all (maxDischargeDepth := 40)

@[simp] theorem callsEnded_keeps (h : Keeps B K F L c₀ q₀ r₀ pl s) :
    Keeps B K F L c₀ q₀ r₀ pl (callsEnded s) := by
  refine keeps_inert h (fun h => ?_) fun hs => ?_
  · unfold callsEnded
    (try dsimp only)
    (repeat' split) <;> simp_all (maxDischargeDepth := 40)
  · unfold callsEnded
    simp [hs.2.1.2.2.2.1, hs.2.1.2.2.2.2]


@[simp] theorem raiseRetrain_keeps (hs : K → s.lks.state ≠ .off) (h : Keeps B K F False c₀ q₀ r₀ pl s) :
    Keeps B K F False c₀ q₀ r₀ pl (raiseRetrain s) := by
  unfold raiseRetrain
  split
  · exact h
  · split
    · exact qualityDrop_keeps h
    · apply onLks_keeps h
      · simp
      · exact eq_true fun k _ o => (hs k o).elim
      · simp

@[simp] theorem closeComplete_keeps (hs : K → s.lks.state ≠ .off) (h : Keeps B K F False c₀ q₀ r₀ pl s) :
    Keeps B K F False c₀ q₀ r₀ pl (closeComplete s) := by
  unfold closeComplete
  split
  · exact h
  · split
    · exact h
    · dsimp only
      split
      · exact raiseRetrain_keeps (fun k => hs k) (beginInterval_keeps (appendInterval_keeps _ h))
      · exact beginInterval_keeps (appendInterval_keeps _ h)

@[simp] theorem countSecond_keeps (r : LineReport) (h : Keeps B K F L c₀ q₀ r₀ pl s) :
    Keeps B K F L c₀ q₀ r₀ pl (countSecond r s) := by
  unfold countSecond
  (try dsimp only)
  (repeat' split) <;> simp_all (maxDischargeDepth := 40)

@[simp] theorem takeReport_keeps (r : LineReport) (h : Keeps B K F L c₀ q₀ r₀ pl s) :
    Keeps B K F L c₀ q₀ r₀ pl (takeReport r s) := by
  refine keeps_inert h (fun h => ?_) fun hs => ?_
  · unfold takeReport
    dsimp only
    split
    · rename_i hc
      have h1 := closeComplete_keeps (s := countSecond r ((s.reach s.lks.reportAt).onLks fun k => { k with reportAt := k.reportAt + 1000 }))
        (fun _ o => nomatch hc.symm.trans o) (countSecond_keeps r (onLks_keeps (reach_keeps h _) (by simp) (by simp) (by simp)))
      generalize closeComplete _ = t at h1
      (repeat' split) <;> simp_all (maxDischargeDepth := 40)
    · exact h
  · unfold takeReport
    simp [hs.2.1.1]


/-- A move to COPPER starts with the copper side idle: the pair's place is then between the two. -/
theorem startCopperMove_keeps (reason : CopperReason) {y x : Place} (hy : F → y = .home ∨ y = .moving)
    (hd : K → s.pac.relay.deferred = false) (h : Keeps B K F L c₀ q₀ r₀ (some (y, x)) s) :
    Keeps B K F L c₀ q₀ r₀ (some (.moving, x)) (startCopperMove reason s) := by
  have hc : F → s.pac.copperActive = false := by
    intro f
    have hy := hy f
    cases ha : s.pac.copperActive
    · rfl
    · have h1 : s.pac.place = .copperActive := h.rest f ha
      have h2 : s.pac.place = y := (h.place f).1
      rw [h1] at h2; subst h2; simp at hy
  exact ⟨h.store, h.queue, h.replies, h.pair, h.bounds, fun k => ⟨(h.link k).1, fun e => nomatch (hd k).symm.trans e⟩, h.distinct, h.single, h.two,
    fun f => by simp [startCopperMove, State.onPac, hc f], fun f => ⟨by simp [startCopperMove, State.onPac], (h.place f).2⟩, fun l => by
      have x := h.held l
      exact ⟨x.1, x.2.1, by have := x.2.2.1; simp_all [startCopperMove, State.onPac], x.2.2.2⟩⟩

@[simp] theorem autoLifeline_keeps (h : Keeps B K F L c₀ q₀ r₀ none s) :
    Keeps B K F L c₀ q₀ r₀ none (autoLifeline s) := by
  unfold autoLifeline
  split
  · rename_i hd
    have hc : F → s.pac.copperActive = false := by
      intro f
      have := h.rest f
      simp_all [State.autoLifelineDue, State.restsIn]
    have hd : K → s.pac.relay.deferred = false := fun k => by
      have := (h.link k).2
      simp_all [State.autoLifelineDue, State.restsIn]
    unfold startCopperMove
    refine move_keeps h id ?_ (fun k x => ⟨x.1, fun e => nomatch (hd k).symm.trans e⟩) (fun f => by simp [hc f]) (by simp [Port.toSwitching]) (by simp; intros; simp_all)
    simp [Port.toSwitching, Voice.close]
    omega
  · exact h


@[simp] theorem portChanged_keeps (p : PortId) (old : PortState) (h : Keeps B K F L c₀ q₀ r₀ none s) :
    Keeps B K F L c₀ q₀ r₀ none (portChanged p old s) := by
  unfold portChanged
  (try dsimp only)
  (repeat' split) <;> simp_all (maxDischargeDepth := 40)

@[simp] theorem ringEdge_keeps (h : Keeps B K F L c₀ q₀ r₀ pl s) :
    Keeps B K F L c₀ q₀ r₀ pl (ringEdge s) := by
  unfold ringEdge
  (try dsimp only)
  (repeat' split) <;> simp_all (maxDischargeDepth := 40)

@[simp] theorem grantBurst_keeps (p : PortId) (load : Nat) (h : Keeps B K F L c₀ q₀ r₀ pl s) :
    Keeps B K F L c₀ q₀ r₀ pl (grantBurst p load s) := by
  unfold grantBurst
  (try dsimp only)
  (repeat' split) <;> simp_all (maxDischargeDepth := 40)

@[simp] theorem tryHead_keeps (h : Keeps B K F L c₀ q₀ r₀ pl s) :
    Keeps B K F L c₀ q₀ r₀ pl (tryHead s) := by
  unfold tryHead
  (try dsimp only)
  (repeat' split) <;> simp_all (maxDischargeDepth := 40)

@[simp] theorem tryWaits_keeps (h : Keeps B K F L c₀ q₀ r₀ pl s) :
    Keeps B K F L c₀ q₀ r₀ pl (tryWaits s) := by
  unfold tryWaits
  (try dsimp only)
  (repeat' split) <;> simp_all (maxDischargeDepth := 40)

@[simp] theorem idleCheck_keeps (h : Keeps B K F L c₀ q₀ r₀ pl s) :
    Keeps B K F L c₀ q₀ r₀ pl (idleCheck s) := by
  unfold idleCheck
  (try dsimp only)
  (repeat' split) <;> simp_all (maxDischargeDepth := 40)

@[simp] theorem endBurst_keeps (p : PortId) (h : Keeps B K F L c₀ q₀ r₀ pl s) :
    Keeps B K F L c₀ q₀ r₀ pl (endBurst p s) := by
  unfold endBurst
  (try dsimp only)
  (repeat' split) <;> simp_all (maxDischargeDepth := 40)

@[simp] theorem leaveWaits_keeps (p : PortId) (h : Keeps B K F L c₀ q₀ r₀ pl s) :
    Keeps B K F L c₀ q₀ r₀ pl (leaveWaits p s) := by
  unfold leaveWaits
  (try dsimp only)
  (repeat' split) <;> simp_all (maxDischargeDepth := 40)

@[simp] theorem clearMarkers_keeps (p : PortId) (h : Keeps B K F L c₀ q₀ r₀ pl s) :
    Keeps B K F L c₀ q₀ r₀ pl (clearMarkers p s) := by
  unfold clearMarkers
  (try dsimp only)
  (repeat' split) <;> simp_all (maxDischargeDepth := 40)

@[simp] theorem stopSeq_keeps (cause : Option DoneCause) (p : PortId) (h : Keeps B K F L c₀ q₀ r₀ pl s) :
    Keeps B K F L c₀ q₀ r₀ pl (stopSeq cause p s) := by
  unfold stopSeq
  (try dsimp only)
  (repeat' split) <;> simp_all (maxDischargeDepth := 40)

@[simp] theorem clearWiring_keeps (p : PortId) (old : PortState) (h : Keeps B K F L c₀ q₀ r₀ pl s) :
    Keeps B K F L c₀ q₀ r₀ pl (clearWiring p old s) := by
  unfold clearWiring
  (try dsimp only)
  (repeat' split) <;> simp_all (maxDischargeDepth := 40)

@[simp] theorem shedAtIdle_keeps (p : PortId) (h : Keeps B K F L c₀ q₀ r₀ pl s) :
    Keeps B K F L c₀ q₀ r₀ pl (shedAtIdle p s) := by
  unfold shedAtIdle
  split
  · have hb : ∀ q : Port, q.bounded → Port.bounded { q with state := .disabled, cause := some .power } := fun _ h => h
    refine ⟨h.store, h.queue, h.replies, h.pair, fun b => have x := h.bounds b; ⟨x.1, ⟨x.2.1.1, hb _ x.2.1.2.1, x.2.1.2.2⟩, x.2.2⟩,
      h.link, h.distinct, h.single, fun _ => rfl, h.rest, h.place, fun l => ?_⟩
    have x := h.held l
    exact ⟨x.1, x.2.1, x.2.2.1, rfl, x.2.2.2.2⟩
  · exact h


/-- A port is taken home: HPC1 where the pair's place is home, HPC2 where it always is. -/
theorem onPort_home {y x : Place} {p : PortId} {g : Port → Port} (hp : F → p = .one → y = .home) (hx : F → p = .two → x = y)
    (hb : (s.port p).bounded → (g (s.port p)).bounded) (hg : (g (s.port p)).state.place = .home)
    (hd : L → p = .two → (g (s.port p)).state = .disabled) (h : Keeps B K F L c₀ q₀ r₀ (some (y, x)) s) : Keeps B K F L c₀ q₀ r₀ (some (y, y)) (s.onPort p g) :=
  match p with
  | .one => ⟨h.store, h.queue, h.replies, h.pair, fun b => have x := h.bounds b; ⟨x.1, ⟨hb x.2.1.1, x.2.1.2⟩, x.2.2⟩, h.link, h.distinct,
      h.single, h.two, h.rest, fun f => ⟨(h.place f).1, hg.trans (hp f rfl).symm⟩, h.held⟩
  | .two => ⟨h.store, h.queue, h.replies, h.pair, fun b => have x := h.bounds b; ⟨x.1, ⟨x.2.1.1, hb x.2.1.2.1, x.2.1.2.2⟩, x.2.2⟩, h.link,
      h.distinct, h.single, fun _ => hg, h.rest, fun f => ⟨(h.place f).1, (h.place f).2.trans (hx f rfl)⟩,
      fun l => have x := h.held l; ⟨x.1, x.2.1, x.2.2.1, hd l rfl, x.2.2.2.2⟩⟩

theorem enterIdleWith_keeps (cause : Option DoneCause) (restart : Bool) {told : State → State} (ht : ∀ pl s, Keeps B K F L c₀ q₀ r₀ pl s → Keeps B K F L c₀ q₀ r₀ pl (told s))
    {y x : Place} {p : PortId} (hp : F → p = .one → y = .home) (hx : F → p = .two → x = y) (hd : L → p = .two → False)
    (h : Keeps B K F L c₀ q₀ r₀ (some (y, x)) s) :
    Keeps B K F L c₀ q₀ r₀ none (enterIdleWith cause restart told p s) := by
  unfold enterIdleWith
  dsimp only
  apply portChanged_keeps; apply keeps_none (x := y); apply shedAtIdle_keeps; apply clearWiring_keeps; apply ht
  refine onPort_home hp hx ?_ (by simp [Port.toIdle]) (fun l e => (hd l e).elim) (stopSeq_keeps _ _ h)
  simp [Port.toIdle, Voice.close]
  omega
/-- A port in a local state is at home. -/
theorem home_of {p : PortId} (hl : F → (s.port p).state.place = .home) (h : Keeps B K F L c₀ q₀ r₀ none s) : F → p = .one → s.pac.place = .home := by
  intro f e; subst e; exact Eq.trans (Eq.symm (h.place f)) (hl f)
theorem enterIdleWith_local (cause : Option DoneCause) (restart : Bool) {told : State → State} (ht : ∀ pl s, Keeps B K F L c₀ q₀ r₀ pl s → Keeps B K F L c₀ q₀ r₀ pl (told s))
    {p : PortId} (hl : F → (s.port p).state.place = .home) (hd : L → p = .two → False) (h : Keeps B K F L c₀ q₀ r₀ none s) :
    Keeps B K F L c₀ q₀ r₀ none (enterIdleWith cause restart told p s) :=
  enterIdleWith_keeps cause restart ht (home_of hl h) (fun _ _ => rfl) hd (keeps_some h fun _ => rfl)

@[simp] theorem enterIdle_keeps (p : PortId) (hl : F → (s.port p).state.place = .home) (hd : L → p = .two → False) (h : Keeps B K F L c₀ q₀ r₀ none s) : Keeps B K F L c₀ q₀ r₀ none (enterIdle p s) :=
  enterIdleWith_local _ _ (fun _ _ h => h) hl hd h

@[simp] theorem enterDisabled_keeps (cause : DisableCause) (p : PortId) (hl : F → (s.port p).state.place = .home) (h : Keeps B K F L c₀ q₀ r₀ none s) :
    Keeps B K F L c₀ q₀ r₀ none (enterDisabled cause p s) := by
  unfold enterDisabled
  dsimp only
  apply portChanged_keeps; apply keeps_none (x := s.pac.place); apply clearWiring_keeps
  refine onPort_home (home_of hl h) (fun _ _ => rfl) ?_ (by simp [Port.toDisabled]) (fun _ _ => rfl) (stopSeq_keeps _ _ (keeps_some h fun _ => rfl))
  simp [Port.toDisabled, Voice.close]
  omega

@[simp] theorem place_local {st : PortState} (h : st.isLocal = true) : st.place = .home := by
  cases st <;> first | rfl | cases h
@[simp] theorem place_hangsUp {st : PortState} (h : st.hangsUp = true) : st.place = .home := by
  cases st <;> first | rfl | cases h
@[simp] theorem place_watched {st : PortState} (h : st.watched = true) : st.place = .home := by
  cases st <;> first | rfl | cases h
/-- HPC2 is DISABLED in LIFELINE stage, so that a port in another state is not it. -/
theorem not_two {p : PortId} {st : PortState} (h : Keeps B K F L c₀ q₀ r₀ pl s) (e : (s.port p).state = st) (hn : st ≠ .disabled) : L → p = .two → False := by
  intro l hp; subst hp; exact hn (e.symm.trans (h.held l).2.2.2.1)
theorem not_two_of {p : PortId} {f : PortState → Bool} (h : Keeps B K F L c₀ q₀ r₀ pl s) (e : f (s.port p).state = true) (hn : f .disabled = false) : L → p = .two → False := by
  intro l hp; subst hp
  rw [show (s.port .two).state = .disabled from (h.held l).2.2.2.1, hn] at e; cases e
/-- A port in a local state takes another one, after what leaves every place as it is. -/
theorem toHome {p : PortId} (hl : F → (s.port p).state.place = .home) (h : Keeps B K F L c₀ q₀ r₀ none s) {t : State}
    (ht : ∀ pl, Keeps B K F L c₀ q₀ r₀ pl s → Keeps B K F L c₀ q₀ r₀ pl t) {g : Port → Port} (hb : (t.port p).bounded → (g (t.port p)).bounded)
    (hg : (g (t.port p)).state.place = .home) (hd : L → p = .two → False) : Keeps B K F L c₀ q₀ r₀ none (t.onPort p g) :=
  keeps_none (onPort_home (home_of hl h) (fun _ _ => rfl) hb hg (fun l e => (hd l e).elim) (ht _ (keeps_some h fun _ => rfl)))

/-- A port 2 that is taken to IDLE in LIFELINE stage is DISABLED at once (R94). -/
theorem enterIdleWith_lifeline (cause : Option DoneCause) (restart : Bool) (h : Keeps B K F L c₀ q₀ r₀ pl s) (l : L) :
    (enterIdleWith cause restart id .two s).inLifeline := by
  have e : (s.port .two).state = .disabled := (h.held l).2.2.2.1
  have h1 := (stopSeq_keeps cause .two h).held l
  unfold enterIdleWith
  dsimp only
  rw [e]
  generalize stopSeq cause .two s = t at h1
  have e2 : ∀ u : State, clearWiring .two .disabled u = u := fun u => by unfold clearWiring; rfl
  have e3 : ∀ g : Port → Port, shedAtIdle .two (t.onPort .two g) = (t.onPort .two g).onPort .two fun q => { q with state := .disabled, cause := some .power } := by
    intro g
    unfold shedAtIdle
    rw [if_pos]
    have : t.psv.stage = .lifeline := h1.1
    simp [this]
  rw [e2, show ∀ u : State, id u = u from fun _ => rfl, e3]
  unfold portChanged
  dsimp only
  rw [if_pos (by rfl)]
  exact ⟨h1.1, h1.2.1, h1.2.2.1, rfl, h1.2.2.2.2⟩

@[simp] theorem portStage_keeps (h : Keeps B K F False c₀ q₀ r₀ none s) :
    Keeps B K F False c₀ q₀ r₀ none (portStage s) := by
  have h2 : F → (s.port .two).state.place = .home := h.two
  unfold portStage
  (try dsimp only)
  (repeat' split) <;> simp_all (maxDischargeDepth := 40)


@[simp] theorem joinWaits_keeps (p : PortId) (load : Nat) (h : Keeps B K F L c₀ q₀ r₀ none s) :
    Keeps B K F L c₀ q₀ r₀ none (joinWaits p load s) := by
  unfold joinWaits
  (try dsimp only)
  (repeat' split) <;> simp_all (maxDischargeDepth := 40)

@[simp] theorem countSkip_keeps (p : PortId) (h : Keeps B K F L c₀ q₀ r₀ none s) :
    Keeps B K F L c₀ q₀ r₀ none (countSkip p s) := by
  unfold countSkip
  (try dsimp only)
  (repeat' split) <;> simp_all (maxDischargeDepth := 40)

@[simp] theorem beginSegment_keeps (p : PortId) (h : Keeps B K F L c₀ q₀ r₀ none s) :
    Keeps B K F L c₀ q₀ r₀ none (beginSegment p s).2 := by
  unfold beginSegment
  (try dsimp only)
  (repeat' split) <;> simp_all (maxDischargeDepth := 40)

@[simp] theorem toldOfEnd_keeps (p : PortId) (h : Keeps B K F L c₀ q₀ r₀ none s) :
    Keeps B K F L c₀ q₀ r₀ none (toldOfEnd p s) := by
  unfold toldOfEnd
  dsimp only
  have h1 := clearMarkers_keeps p h
  split
  · rename_i hr
    exact enterIdle_keeps p (fun _ => by rw [hr]; rfl) (not_two h1 hr (by decide)) h1
  · exact h1


@[simp] theorem endProgram_keeps (cause : DoneCause) (p : PortId) (r : SeqRun) (h : Keeps B K F L c₀ q₀ r₀ none s) :
    Keeps B K F L c₀ q₀ r₀ none (endProgram cause p r s).2 := by
  unfold endProgram
  (try dsimp only)
  (repeat' split) <;> simp_all (maxDischargeDepth := 40)

@[simp] theorem nextSegment_keeps (p : PortId) (r : SeqRun) (h : Keeps B K F L c₀ q₀ r₀ none s) :
    Keeps B K F L c₀ q₀ r₀ none (nextSegment p r s).2 := by
  unfold nextSegment
  (try dsimp only)
  (repeat' split) <;> simp_all (maxDischargeDepth := 40)

@[simp] theorem segmentTail_keeps (p : PortId) (r : SeqRun) (h : Keeps B K F L c₀ q₀ r₀ none s) :
    Keeps B K F L c₀ q₀ r₀ none (segmentTail p r s).2 := by
  unfold segmentTail
  (try dsimp only)
  (repeat' split) <;> simp_all (maxDischargeDepth := 40)

@[simp] theorem segmentEnds_keeps (cutShort : Bool) (p : PortId) (h : Keeps B K F L c₀ q₀ r₀ none s) :
    Keeps B K F L c₀ q₀ r₀ none (segmentEnds cutShort p s).2 := by
  unfold segmentEnds
  (try dsimp only)
  (repeat' split) <;> simp_all (maxDischargeDepth := 40)

@[simp] theorem runSegments_keeps (n : Nat) (p : PortId) (h : Keeps B K F L c₀ q₀ r₀ none s) : Keeps B K F L c₀ q₀ r₀ none (runSegments n p s) := by
  induction n generalizing s with
  | zero => exact onSeq_keeps h
  | succ n ih =>
    have h1 := beginSegment_keeps p h
    unfold runSegments
    split
    · rename_i e; rw [e] at h1; exact h1
    · rename_i e; rw [e] at h1
      have h2 := segmentEnds_keeps true p h1
      split
      · rename_i e; rw [e] at h2; exact h2
      · rename_i e; rw [e] at h2; exact ih h2

theorem runOn_keeps (p : PortId) (x : Bool × State) (h : Keeps B K F L c₀ q₀ r₀ none x.2) : Keeps B K F L c₀ q₀ r₀ none (runOn p x) := by
  unfold runOn; split
  · exact runSegments_keeps _ _ h
  · exact h
@[simp] theorem takeSegmentEnd_keeps (cutShort : Bool) (p : PortId) (h : Keeps B K F L c₀ q₀ r₀ none s) : Keeps B K F L c₀ q₀ r₀ none (takeSegmentEnd cutShort p s) :=
  runOn_keeps p _ (segmentEnds_keeps _ _ h)

@[simp] theorem startProgram_keeps (p : PortId) (n : Nat) (h : Keeps B K F L c₀ q₀ r₀ none s) :
    Keeps B K F L c₀ q₀ r₀ none (startProgram p n s) := by
  unfold startProgram
  (try dsimp only)
  (repeat' split) <;> simp_all (maxDischargeDepth := 40)

@[simp] theorem startTone_keeps (p : PortId) (n : Nat) (h : Keeps B K F L c₀ q₀ r₀ none s) :
    Keeps B K F L c₀ q₀ r₀ none (startTone p n s) := by
  unfold startTone
  (try dsimp only)
  (repeat' split) <;> simp_all (maxDischargeDepth := 40)

@[simp] theorem startDialTone_keeps (p : PortId) (h : Keeps B K F L c₀ q₀ r₀ none s) :
    Keeps B K F L c₀ q₀ r₀ none (startDialTone p s) := by
  unfold startDialTone
  (try dsimp only)
  (repeat' split) <;> simp_all (maxDischargeDepth := 40)

@[simp] theorem startAutoTone_keeps (p : PortId) (h : Keeps B K F L c₀ q₀ r₀ none s) :
    Keeps B K F L c₀ q₀ r₀ none (startAutoTone p s) := by
  unfold startAutoTone
  (try dsimp only)
  (repeat' split) <;> simp_all (maxDischargeDepth := 40)

@[simp] theorem skipWaiter_keeps (p : PortId) (h : Keeps B K F L c₀ q₀ r₀ none s) :
    Keeps B K F L c₀ q₀ r₀ none (skipWaiter p s) := by
  unfold skipWaiter
  (try dsimp only)
  (repeat' split) <;> simp_all (maxDischargeDepth := 40)

@[simp] theorem cutBurst_keeps (p : PortId) (h : Keeps B K F L c₀ q₀ r₀ none s) :
    Keeps B K F L c₀ q₀ r₀ none (cutBurst p s) := by
  unfold cutBurst
  (try dsimp only)
  (repeat' split) <;> simp_all (maxDischargeDepth := 40)

@[simp] theorem cutExcess_keeps (n : Nat) (h : Keeps B K F L c₀ q₀ r₀ none s) : Keeps B K F L c₀ q₀ r₀ none (cutExcess n s) := by
  induction n generalizing s with
  | zero => exact h
  | succ n ih => unfold cutExcess; (repeat' split) <;> simp_all

theorem foldl_keeps {α : Type} {f : State → α → State} (hf : ∀ s a, Keeps B K F L c₀ q₀ r₀ none s → Keeps B K F L c₀ q₀ r₀ none (f s a)) (xs : List α) (h : Keeps B K F L c₀ q₀ r₀ none s) :
    Keeps B K F L c₀ q₀ r₀ none (xs.foldl f s) := by
  induction xs generalizing s with
  | nil => exact h
  | cons x xs ih => exact ih (hf _ _ h)
@[simp] theorem skipExcess_keeps (waits : List RingEntry) (h : Keeps B K F L c₀ q₀ r₀ none s) : Keeps B K F L c₀ q₀ r₀ none (skipExcess waits s) := by
  unfold skipExcess
  refine foldl_keeps (fun s a h => ?_) _ h
  split
  · exact skipWaiter_keeps _ h
  · exact h

@[simp] theorem offAtZero_keeps (h : Keeps B K F L c₀ q₀ r₀ none s) :
    Keeps B K F L c₀ q₀ r₀ none (offAtZero s) := by
  unfold offAtZero
  (try dsimp only)
  (repeat' split) <;> simp_all (maxDischargeDepth := 40)

@[simp] theorem supplyStage_keeps (h : Keeps B K F L c₀ q₀ r₀ none s) :
    Keeps B K F L c₀ q₀ r₀ none (supplyStage s) := by
  unfold supplyStage
  (try dsimp only)
  (repeat' split) <;> simp_all (maxDischargeDepth := 40)

@[simp] theorem supplyFaults_keeps (kind : SupplyFaultKind) (h : Keeps B K F L c₀ q₀ r₀ none s) : Keeps B K F L c₀ q₀ r₀ none (supplyFaults kind s) := by
  unfold supplyFaults
  dsimp only
  have h2 : Keeps B K F L c₀ q₀ r₀ none (List.foldl (fun (s : State) (e : RingEntry) => cutBurst e.port s) (s.onRsc fun r =>
    { r with state := .faultRetry, idleEnd := none, chargeEnd := none, retryEnd := some (s.after supplyRetryMs) }) s.rsc.bursts) :=
    foldl_keeps (fun s e h => cutBurst_keeps _ h) _ (by apply onRsc_keeps h; simp)
  generalize List.foldl (fun (s : State) (e : RingEntry) => cutBurst e.port s) _ _ = t at *
  split
  · apply notice_keeps; apply onRsc_keeps h2; simp_all; omega
  · apply notice_keeps; apply report_keeps
    refine foldl_keeps (fun s e h => skipWaiter_keeps _ h) _ ?_
    exact keeps_of h2 rfl rfl rfl id (fun b => ⟨b.1, b.2.1, by simp, b.2.2.2⟩) (fun _ => id) id id rfl rfl ⟨rfl, id⟩ fun _ => id

theorem holdLifeline_keeps (ht : s.pac.test.state ≠ .held) (h : Keeps B K F L c₀ q₀ r₀ none s) : Keeps B K F L c₀ q₀ r₀ none (holdLifeline s) := by
  unfold holdLifeline; split
  · exact h
  · apply onPac_keeps h
    · simp_all
    · exact eq_true ⟨rfl, id⟩
    · exact eq_true fun _ => id
    · exact eq_true fun _ => id


@[simp] theorem copperActivates_keeps (reason : AbortReason) (hr : F → s.pac.relay.move = none ∧ s.pac.relay.pos = .copper) (h : Keeps B K F L c₀ q₀ r₀ none s) :
    Keeps B K F L c₀ q₀ r₀ none (copperActivates reason s) := by
  unfold copperActivates; split
  · exact h
  · apply abortTest_keeps
    · exact fun s ht h => holdLifeline_keeps ht h
    · exact move_keeps h id id (fun _ => id) (fun f => by simp [hr f]) (fun f => by simp [hr f]) fun _ => id


@[simp] theorem copperIdles_keeps (h : Keeps B K F L c₀ q₀ r₀ none s) :
    Keeps B K F L c₀ q₀ r₀ none (copperIdles s) := by
  unfold copperIdles
  split
  · rename_i ha
    have hr := fun f => (Pac.copperAtRest_def _).mp (h.rest f) ha
    have h1 : Keeps B K F L c₀ q₀ r₀ none ((s.onPac fun p =>
        { p with copperActive := false, lifeline := { state := .free, since := s.uptime } }).onPort .one fun q => { q with state := .copperIdle }) :=
      move_keeps h (by simp; intros; simp_all) id (fun _ => id) (by simp) (fun f => by simp [hr f]) fun _ => id
    have h2 := reexamine_keeps (stepUpCheck_keeps (keeps_some h1 (x := .copperIdle) (fun f => by simp [State.onPac, State.onPort, hr f])))
    have h3 := keeps_none h2
    dsimp only
    split
    · rename_i hd
      refine keeps_absurd h3 (startLocalMove_keeps _ fun f => ?_) fun hs => by rw [hs.2.2.1.2.1] at hd; cases hd
      cases hc : (reexamine _).pac.copperActive
      · rfl
      · have e := h3.rest f hc
        rw [(h2.place f).1] at e; cases e
    · exact tryReturnLocal_keeps h3
  · exact h


theorem endLocal_keeps (h : Keeps B K F L c₀ q₀ r₀ (some (.moving, .home)) s) :
    Keeps B K F L c₀ q₀ r₀ none (endLocal s) := by
  unfold endLocal
  dsimp only
  have h1 := stopSeq_keeps (some .port) .one h
  apply portChanged_keeps; apply clearWiring_keeps; apply keeps_none (x := .moving)
  refine ⟨h1.store, h1.queue, h1.replies, h1.pair, fun b => have x := h1.bounds b; ⟨x.1, ⟨?_, x.2.1.2⟩, x.2.2⟩, h1.link, h1.distinct, h1.single, h1.two, h1.rest, fun f => ⟨(h1.place f).1, rfl⟩, h1.held⟩
  have := x.2.1.1
  simp [Port.toSwitching, Voice.close, State.onPort] at *
  omega

@[simp] theorem copperCauseAtRest_keeps (reason : CopperReason) (h : Keeps B K F L c₀ q₀ r₀ none s) :
    Keeps B K F L c₀ q₀ r₀ none (copperCauseAtRest reason s) := by
  unfold copperCauseAtRest
  (try dsimp only)
  (repeat' split) <;> simp_all (maxDischargeDepth := 40)

@[simp] theorem copperCause_keeps (reason : CopperReason) (h : Keeps B K F L c₀ q₀ r₀ none s) :
    Keeps B K F L c₀ q₀ r₀ none (copperCause reason s) := by
  unfold copperCause
  split
  · rename_i m hm
    split
    · refine keeps_none (startCopperMove_keeps reason (fun _ => .inr rfl) (fun k => ?_) (keeps_some h fun _ => by simp [hm]))
      have := (h.link k).2
      simp_all
    · apply onPac_keeps h
      · simp
      · simp [hm]
      · simp [hm]
      · simp [hm]
  · rename_i hm
    split
    · rename_i hp
      have hd : K → s.pac.relay.deferred = false := fun k => by
        have := (h.link k).2
        simp_all
      exact endLocal_keeps (startCopperMove_keeps reason (fun _ => .inl rfl) hd (keeps_some h fun _ => by simp [hm, hp]))
    · exact copperCauseAtRest_keeps _ h


theorem arriveCopper_keeps (m : RelayMove) (hm : s.pac.relay.move = some m) (h : Keeps B K F L c₀ q₀ r₀ none s) :
    Keeps B K F L c₀ q₀ r₀ none (arriveCopper m s) := by
  have hc : F → s.pac.copperActive = false := by
    intro f
    cases ha : s.pac.copperActive
    · rfl
    · have := (Pac.copperAtRest_def _).mp (h.rest f) ha
      simp [hm] at this
  have h1 : Keeps B K F L c₀ q₀ r₀ none ((s.onPac fun p =>
      { p with copperOffHook := false, relay := { p.relay with pos := .copper, move := none, reason := m.reason } }).onPort .one
        fun q => { q with state := .copperIdle, loopSince := s.clock }) :=
    move_keeps h id id (fun _ x => ⟨x.1, fun _ => ⟨rfl, rfl⟩⟩) (by simp) (fun f => by simp [hc f]) (by simp; intros; simp_all)
  have h2 := stepUpCheck_keeps (notice_keeps (.lifelinePosition .copper m.reason none)
    (keeps_some h1 (x := .copperIdle) (fun f => by simp [State.onPac, State.onPort, hc f])))
  have h3 := keeps_none h2
  unfold arriveCopper
  dsimp only
  split
  · refine copperActivates_keeps _ (fun f => ?_) h3
    have := (h2.place f).1
    generalize stepUpCheck _ = t at *
    rw [Pac.place_def] at this
    cases hx : t.pac.relay.move <;> cases hy : t.pac.relay.pos <;> simp_all
  · exact tryReturnLocal_keeps h3


theorem arriveLocal_keeps (m : RelayMove) (hm : s.pac.relay.move = some m) (h : Keeps B K F False c₀ q₀ r₀ none s) :
    Keeps B K F False c₀ q₀ r₀ none (arriveLocal m s) := by
  have hc : F → s.pac.copperActive = false := by
    intro f
    cases ha : s.pac.copperActive
    · rfl
    · have := (Pac.copperAtRest_def _).mp (h.rest f) ha
      simp [hm] at this
  unfold arriveLocal enterIdle
  dsimp only
  have h1 := keeps_some h (x := .moving) (fun _ => by simp [hm])
  refine enterIdleWith_keeps (y := .home) (x := .moving) _ _ (fun _ _ h => h) (fun _ _ => rfl) (fun _ e => nomatch e) (fun _ e => nomatch e) (notice_keeps _ ?_)
  exact ⟨h1.store, h1.queue, h1.replies, h1.pair, h1.bounds,
    fun k => ⟨(h1.link k).1, fun e => nomatch hm.symm.trans ((h1.link k).2 e).1⟩, h1.distinct, h1.single, h1.two,
    fun f => by simp [State.onPac, hc f], fun f => ⟨by simp [State.onPac], (h1.place f).2⟩, False.elim⟩


@[simp] theorem completeMove_keeps (h : Keeps B K F L c₀ q₀ r₀ none s) :
    Keeps B K F L c₀ q₀ r₀ none (completeMove s) := by
  unfold completeMove
  split
  · exact h
  · rename_i m hm
    split
    · exact arriveCopper_keeps _ (by assumption) h
    · rename_i ht
      exact keeps_absurd h (arriveLocal_keeps _ (by assumption)) fun hs => ht (hs.2.2.1.2.2.2 m hm)


@[simp] theorem watchCheck_keeps (h : Keeps B K F L c₀ q₀ r₀ none s) :
    Keeps B K F L c₀ q₀ r₀ none (watchCheck s) := by
  unfold watchCheck
  (try dsimp only)
  (repeat' split) <;> simp_all (maxDischargeDepth := 40)

@[simp] theorem pairStage_keeps (h : Keeps B K F L c₀ q₀ r₀ none s) :
    Keeps B K F L c₀ q₀ r₀ none (pairStage s) := by
  unfold pairStage
  (try dsimp only)
  (repeat' split) <;> simp_all (maxDischargeDepth := 40)

@[simp] theorem stageFaults_keeps (h : Keeps B K F L c₀ q₀ r₀ none s) :
    Keeps B K F L c₀ q₀ r₀ none (stageFaults s) := by
  unfold stageFaults
  (try dsimp only)
  (repeat' split) <;> simp_all (maxDischargeDepth := 40)

@[simp] theorem enterStage_keeps (stage : HoldStage) (cause : StageCause) (h : Keeps B K F False c₀ q₀ r₀ none s) :
    Keeps B K F False (c₀.1, stage) q₀ r₀ none (enterStage stage cause s) := by
  have h1 : ∀ f : Psv → Psv, (f s.psv).stage = stage → Keeps B K F False (c₀.1, stage) q₀ r₀ none (s.onPsv f) := fun f e =>
    ⟨by
      have e1 : s.sst = c₀.1 := congrArg Prod.fst h.store
      show (s.sst, (f s.psv).stage) = _
      rw [e1, e], h.queue, h.replies, h.pair, h.bounds, h.link, h.distinct, h.single, h.two, h.rest, h.place, False.elim⟩
  unfold enterStage
  dsimp only
  exact stageFaults_keeps (notice_keeps _ (testStage_keeps (pairStage_keeps (portStage_keeps (supplyStage_keeps (linkStage_keeps (h1 _ rfl)))))))



theorem descend_keeps (n : Nat) (h : Keeps B K F False c₀ q₀ r₀ none s) : Staged B K F False c₀ q₀ r₀ (descend n s) := by
  induction n generalizing s c₀ with
  | zero => exact ⟨_, h⟩
  | succ n ih =>
    unfold descend
    split
    · exact ⟨_, h⟩
    · rename_i st cause _
      obtain ⟨g, k⟩ := ih (enterStage_keeps st cause (wakeCause_keeps .stage none h))
      exact ⟨g, k⟩



@[simp] theorem enterDormant_keeps (h : Keeps B K F L c₀ q₀ r₀ none s) :
    Keeps B K F L c₀ q₀ r₀ none (enterDormant s) := by
  unfold enterDormant
  (try dsimp only)
  (repeat' split) <;> simp_all (maxDischargeDepth := 40)

@[simp] theorem cutoffCheck_keeps (h : Keeps B K F L c₀ q₀ r₀ none s) :
    Keeps B K F L c₀ q₀ r₀ none (cutoffCheck s) := by
  unfold cutoffCheck
  (try dsimp only)
  (repeat' split) <;> simp_all (maxDischargeDepth := 40)

theorem descend_rests (n : Nat) (hs : s.psv.stage = .lifeline ∨ s.psv.stage = .mains) : descend n s = s := by
  cases n with
  | zero => rfl
  | succ n =>
    have : s.descent = none := by unfold State.descent; rcases hs with hs | hs <;> rw [hs]
    unfold descend; rw [this]

theorem stageCheck_free (h : Keeps B K F False c₀ q₀ r₀ none s) : Staged B K F False c₀ q₀ r₀ (stageCheck s) := by
  obtain ⟨g, h⟩ := descend_keeps 2 h
  exact ⟨g, cutoffCheck_keeps h⟩
theorem stageCheck_rests (hs : s.psv.stage = .lifeline ∨ s.psv.stage = .mains) (h : Keeps B K F L c₀ q₀ r₀ none s) : Keeps B K F L c₀ q₀ r₀ none (stageCheck s) := by
  unfold stageCheck
  rw [descend_rests _ hs]
  exact cutoffCheck_keeps h

theorem stageCheck_keeps (h : Keeps B K F L c₀ q₀ r₀ none s) : Staged B K F L c₀ q₀ r₀ (stageCheck s) :=
  staged_held (stageCheck_free (keeps_free h)) fun l => (stageCheck_rests (.inl (h.held l).1) h).held l



/-- Mains declared absent leaves LIFELINE stage as it is; mains declared present ends it. -/
theorem declareMains_keeps (present : Bool) (h : Keeps B K F L c₀ q₀ r₀ none s) :
    ∃ g, Keeps B K F (L ∧ g = .lifeline) (c₀.1, g) q₀ r₀ none (declareMains present s) := by
  have h1 : Keeps B K F L c₀ q₀ r₀ none (wakeCause .mains none (s.onPsv fun p => { p with mainsDeclared := present, debounceEnd := none })) :=
    wakeCause_keeps _ _ (onPsv_keeps h (eq_true rfl))
  unfold declareMains
  dsimp only
  generalize wakeCause .mains none _ = t at h1
  have hg : t.psv.stage = c₀.2 := congrArg Prod.snd h1.store
  split
  · have hm : ∀ u, Keeps B K F False (c₀.1, .mains) q₀ r₀ none u →
        ∃ g, Keeps B K F (L ∧ g = .lifeline) (c₀.1, g) q₀ r₀ none (watchCheck (stageCheck u)) := fun u k =>
      ⟨.mains, keeps_weaken (fun x => nomatch x.2) (watchCheck_keeps (stageCheck_rests (.inr (congrArg Prod.snd k.store)) k))⟩
    split
    · rename_i e
      have e2 : c₀ = (c₀.1, .mains) := Prod.ext rfl (hg.symm.trans e)
      exact hm _ (e2 ▸ keeps_free h1)
    · exact hm _ (enterStage_keeps _ _ (keeps_free h1))
  · split
    · rename_i e
      obtain ⟨g, k⟩ := stageCheck_free (enterStage_keeps .battery .mainsAbsent (keeps_free h1))
      refine ⟨g, keeps_inert_of (watchCheck_keeps k) fun l => ?_⟩
      have := (h1.held l.1).1
      rw [e] at this; cases this
    · obtain ⟨g, k⟩ := stageCheck_keeps h1
      exact ⟨g, keeps_weaken And.left (watchCheck_keeps k)⟩

theorem stage1Expires_keeps (h : Keeps B K F L c₀ q₀ r₀ none s) : Staged B K F L c₀ q₀ r₀ (stage1Expires s) := by
  unfold stage1Expires
  split
  · rename_i e
    obtain ⟨g, k⟩ := stageCheck_free (enterStage_keeps .conserve .stage1Time (wakeCause_keeps .stage none
      (onPsv_keeps (keeps_free h) (f := fun p => { p with stage1End := none }) (eq_true rfl))))
    refine ⟨g, keeps_inert_of k fun l => ?_⟩
    have := (h.held l).1
    rw [e] at this; cases this
  · exact ⟨_, h⟩




theorem takeReading_keeps (mv : Nat) (h : Keeps B K F L c₀ q₀ r₀ none s) : Staged B K F L c₀ q₀ r₀ (takeReading mv s) := by
  unfold takeReading
  dsimp only
  obtain ⟨g, k⟩ := stageCheck_keeps (onPsv_keeps h (f := fun p =>
    { p with
      batteryInput := mv
      battery := mv
      belowConserve := below mv s.sst.contents.power.conserve p.belowConserve
      belowLifeline := below mv s.sst.contents.power.lifeline p.belowLifeline
      belowCutoff := below mv s.sst.contents.power.cutoff p.belowCutoff }) (eq_true rfl))
  exact ⟨g, watchCheck_keeps k⟩


@[simp] theorem linkLoaded_keeps (h : Keeps B K F L c₀ q₀ r₀ none s) : Keeps B K F L c₀ q₀ r₀ none (linkLoaded s) := by
  have h1 : Keeps B K F L c₀ q₀ r₀ none (s.onLks fun k =>
      { k with
        ladder := s.sst.contents.link.ladder, params := s.sst.contents.link.params
        rung := floorOf s.sst.contents.link.ladder, enabled := s.sst.contents.control.autostart }) := by
    apply onLks_keeps h <;> simp
  unfold linkLoaded
  dsimp only
  split
  · exact keeps_absurd h1 (beginAttempt_keeps _) fun hs => by simp_all [State.inLifeline]
  · exact h1


@[simp] theorem portsLoaded_keeps (h : Keeps B K F L c₀ q₀ r₀ none s) : Keeps B K F L c₀ q₀ r₀ none (portsLoaded s) := by
  have h1 : Keeps B K F L c₀ q₀ r₀ none ((s.onPort .one fun q => { q with copy := some s.sst.contents.ports.one }).onPort .two
      fun q => { q with copy := some s.sst.contents.ports.two }) := by
    simp [h]
  unfold portsLoaded
  exact keeps_held h (fun h => enterIdle_keeps _ h.two (fun l => l.elim) (keeps_free h1)) fun l _ => enterIdleWith_lifeline _ _ h1 l


@[simp] theorem powerLoaded_keeps (h : Keeps B K F L c₀ q₀ r₀ none s) :
    Keeps B K F L c₀ q₀ r₀ none (powerLoaded s) := by
  unfold powerLoaded
  (try dsimp only)
  (repeat' split) <;> simp_all (maxDischargeDepth := 40)

@[simp] theorem portLoaded_keeps (h : Keeps B K F L c₀ q₀ r₀ none s) :
    Keeps B K F L c₀ q₀ r₀ none (portLoaded s) := by
  unfold portLoaded
  (try dsimp only)
  (repeat' split) <;> simp_all (maxDischargeDepth := 40)

@[simp] theorem startReport_keeps (h : Keeps B K F L c₀ q₀ r₀ none s) :
    Keeps B K F L c₀ q₀ r₀ none (startReport s) := by
  unfold startReport
  (try dsimp only)
  (repeat' split) <;> simp_all (maxDischargeDepth := 40)

@[simp] theorem reportBad_keeps (b : Bool) (h : Keeps B K F L c₀ q₀ r₀ none s) : Keeps B K F L c₀ q₀ r₀ none (reportBad b s) := by
  unfold reportBad
  have := foldl_keeps (f := fun s x => report .settingsBad .sst .major [d32 x.2] s) (fun s a h => report_keeps _ _ _ _ h)
    (s.sst.info.toList.zipIdx.filter (fun x => !x.1.good)) h
  dsimp only
  split
  · exact report_keeps _ _ _ _ this
  · exact this

@[simp] theorem startFaults_keeps (h : Keeps B K F L c₀ q₀ r₀ none s) :
    Keeps B K F L c₀ q₀ r₀ none (startFaults s) := by
  unfold startFaults
  (try dsimp only)
  (repeat' split) <;> simp_all (maxDischargeDepth := 40)

@[simp] theorem startStage_keeps (h : Keeps B K F L c₀ q₀ r₀ none s) :
    Keeps B K F L c₀ q₀ r₀ none (startStage s) := by
  unfold startStage
  (try dsimp only)
  (repeat' split) <;> simp_all (maxDischargeDepth := 40)

@[simp] theorem linkLines_keeps (h : Keeps B K F L c₀ q₀ r₀ none s) :
    Keeps B K F L c₀ q₀ r₀ none (linkLines s) := by
  unfold linkLines
  (try dsimp only)
  (repeat' split) <;> simp_all (maxDischargeDepth := 40)

@[simp] theorem linkAutostart_keeps (h : Keeps B K F L c₀ q₀ r₀ none s) : Keeps B K F L c₀ q₀ r₀ none (linkAutostart s) := by
  have h1 : Keeps B K F L c₀ q₀ r₀ none (s.onLks fun k => { k with enabled := true }) := by
    apply onLks_keeps h <;> simp
  unfold linkAutostart
  dsimp only
  split
  · split
    · exact h1
    · exact keeps_absurd h1 (beginAttempt_keeps _) fun hs => by simp_all [State.inLifeline]
  · exact h


@[simp] theorem pairLines_keeps (h : Keeps B K F L c₀ q₀ r₀ none s) :
    Keeps B K F L c₀ q₀ r₀ none (pairLines s) := by
  unfold pairLines
  (try dsimp only)
  (repeat' split) <;> simp_all (maxDischargeDepth := 40)

@[simp] theorem supplyLines_keeps (h : Keeps B K F L c₀ q₀ r₀ none s) : Keeps B K F L c₀ q₀ r₀ none (supplyLines s) := by
  unfold supplyLines
  dsimp only
  apply clearFault_keeps
  apply onRsc_keeps
  · exact foldl_keeps (fun s e h => ringEdge_keeps h) _ h
  · simp

@[simp] theorem portLines_keeps (p : PortId) (h : Keeps B K F L c₀ q₀ r₀ none s) : Keeps B K F L c₀ q₀ r₀ none (portLines p s) := by
  have h1 : ∀ L pl, Keeps B K F L c₀ q₀ r₀ pl s → Keeps B K F L c₀ q₀ r₀ pl (stopSeq none p (s.onPort p Port.emptied)) := by
    intro L pl h
    apply stopSeq_keeps; apply onPort_keeps h
    · simp [Port.emptied]; omega
    · simp [Port.emptied]
    · simp [Port.emptied]
  have h2 : ∀ L pl, Keeps B K F L c₀ q₀ r₀ pl s → Keeps B K F L c₀ q₀ r₀ pl ((stopSeq none p (s.onPort p Port.emptied)).onPort p
      fun q => { q with history := [], toneEnd := none, tone := none }) := by
    intro L pl h
    apply onPort_keeps (h1 L pl h)
    · simp; intros; simp_all
    · simp
    · simp
  unfold portLines
  dsimp only
  split
  · rename_i hl
    have hl : F → (s.port p).state.place = .home := fun _ => place_local hl
    have hk : ∀ L, (L → p = .two → False) → Keeps B K F L c₀ q₀ r₀ none s → Keeps B K F L c₀ q₀ r₀ none (enterIdleWith none true id p
        ((stopSeq none p (s.onPort p Port.emptied)).onPort p fun q => { q with history := [], toneEnd := none, tone := none })) :=
      fun L hd h => enterIdleWith_keeps none true (fun _ _ h => h) (y := s.pac.place) (x := s.pac.place) (home_of hl h) (fun _ _ => rfl) hd
        (h2 L _ (keeps_some h fun _ => rfl))
    cases p with
    | one => exact hk L (fun _ e => nomatch e) h
    | two => exact keeps_held h (hk False (fun l => l.elim)) fun l _ => enterIdleWith_lifeline _ _ (h2 L _ h) l
  · exact h1 L _ h


@[simp] theorem linesReset_keeps (h : Keeps B K F L c₀ q₀ r₀ none s) :
    Keeps B K F L c₀ q₀ r₀ none (linesReset s) := by
  unfold linesReset
  (try dsimp only)
  (repeat' split) <;> simp_all (maxDischargeDepth := 40)

@[simp] theorem portAutonomous_keeps (p : PortId) (h : Keeps B K F L c₀ q₀ r₀ none s) : Keeps B K F L c₀ q₀ r₀ none (portAutonomous p s) := by
  unfold portAutonomous
  split
  · rename_i hs
    apply portChanged_keeps; apply startAutoTone_keeps
    refine toHome (fun _ => by rw [hs]; rfl) h (fun _ h => h) ?_ rfl (not_two h hs (by decide))
    simp [Port.toOffhook, Voice.close]; omega
  · exact startAutoTone_keeps _ h
  · exact h


@[simp] theorem enterAutonomous_keeps (h : Keeps B K F L c₀ q₀ r₀ none s) :
    Keeps B K F L c₀ q₀ r₀ none (enterAutonomous s) := by
  unfold enterAutonomous
  (try dsimp only)
  (repeat' split) <;> simp_all (maxDischargeDepth := 40)

@[simp] theorem portResumes_keeps (p : PortId) (h : Keeps B K F L c₀ q₀ r₀ none s) :
    Keeps B K F L c₀ q₀ r₀ none (portResumes p s) := by
  unfold portResumes
  (try dsimp only)
  (repeat' split) <;> simp_all (maxDischargeDepth := 40)

@[simp] theorem endAutonomous_keeps (h : Keeps B K F L c₀ q₀ r₀ none s) :
    Keeps B K F L c₀ q₀ r₀ none (endAutonomous s) := by
  unfold endAutonomous
  (try dsimp only)
  (repeat' split) <;> simp_all (maxDischargeDepth := 40)

@[simp] theorem sleepRequest_keeps (h : Keeps B K F L c₀ q₀ r₀ none s) :
    Keeps B K F L c₀ q₀ r₀ none (sleepRequest s).2 := by
  unfold sleepRequest
  (try dsimp only)
  (repeat' split) <;> simp_all (maxDischargeDepth := 40)

@[simp] theorem noticeMaskRequest_keeps (kinds : Nat) (h : Keeps B K F L c₀ q₀ r₀ none s) :
    Keeps B K F L c₀ q₀ r₀ none (noticeMaskRequest kinds s).2 := by
  unfold noticeMaskRequest
  (try dsimp only)
  (repeat' split) <;> simp_all (maxDischargeDepth := 40)

@[simp] theorem receiverGap_keeps (h : Keeps B K F L c₀ q₀ r₀ none s) :
    Keeps B K F L c₀ q₀ r₀ none (receiverGap s) := by
  unfold receiverGap
  (try dsimp only)
  (repeat' split) <;> simp_all (maxDischargeDepth := 40)

@[simp] theorem enterQuiescent_keeps (h : Keeps B K F L c₀ q₀ r₀ none s) :
    Keeps B K F L c₀ q₀ r₀ none (enterQuiescent s) := by
  unfold enterQuiescent
  (try dsimp only)
  (repeat' split) <;> simp_all (maxDischargeDepth := 40)

@[simp] theorem selectCopper_keeps (h : Keeps B K F L c₀ q₀ r₀ none s) :
    Keeps B K F L c₀ q₀ r₀ none (selectCopper s).2 := by
  unfold selectCopper
  (try dsimp only)
  (repeat' split) <;> simp_all (maxDischargeDepth := 40)

@[simp] theorem selectLocal_keeps (h : Keeps B K F L c₀ q₀ r₀ none s) : Keeps B K F L c₀ q₀ r₀ none (selectLocal s).2 := by
  refine keeps_inert h (fun h => ?_) fun hs => ?_
  · unfold selectLocal
    repeat' split
    all_goals first
      | exact h
      | exact startLocalMove_keeps _ (fun _ => by simp_all) h
      | (dsimp only; apply onPac_keeps h <;> simp_all)
  · unfold selectLocal
    rw [hs.1]; rfl


@[simp] theorem lifelineSelectRequest_keeps (pos : Nat) (h : Keeps B K F L c₀ q₀ r₀ none s) :
    Keeps B K F L c₀ q₀ r₀ none (lifelineSelectRequest pos s).2 := by
  unfold lifelineSelectRequest
  (try dsimp only)
  (repeat' split) <;> simp_all (maxDischargeDepth := 40)

@[simp] theorem copperEvent_keeps (e : PortEvent) (h : Keeps B K F L c₀ q₀ r₀ none s) :
    Keeps B K F L c₀ q₀ r₀ none (copperEvent e s) := by
  unfold copperEvent
  (try dsimp only)
  (repeat' split) <;> simp_all (maxDischargeDepth := 40)

theorem copperOffhook_keeps (hr : F → s.pac.relay.move = none ∧ s.pac.relay.pos = .copper) (h : Keeps B K F L c₀ q₀ r₀ none s) :
    Keeps B K F L c₀ q₀ r₀ none (copperOffhook s) := by
  unfold copperOffhook
  dsimp only
  have h1 : Keeps B K F L c₀ q₀ r₀ none (copperEvent .offhook (s.onPac fun p => { p with copperOffHook := true })) := by
    apply copperEvent_keeps; apply onPac_keeps h
    · simp
    · exact eq_true ⟨rfl, id⟩
    · exact eq_true fun _ => id
    · exact eq_true fun _ => id
  split
  · exact copperActivates_keeps _ hr h1
  · exact copperActivates_keeps _ hr (wakeCause_keeps _ _ h1)
/-- The recognition comes only with the relay at rest in COPPER. -/
theorem copperOffhook_due (h : Keeps B K F L c₀ q₀ r₀ none s) : Keeps B K F L c₀ q₀ r₀ none (onExpiry s.copperOffHookDue copperOffhook s) := by
  unfold onExpiry State.copperOffHookDue
  split
  · exact h
  · rename_i hd
    split at hd
    · exact copperOffhook_keeps (fun _ => by simp_all [State.restsIn, State.reach]) (reach_keeps h _)
    · cases hd

@[simp] theorem copperOnhook_keeps (h : Keeps B K F L c₀ q₀ r₀ none s) :
    Keeps B K F L c₀ q₀ r₀ none (copperOnhook s) := by
  unfold copperOnhook
  (try dsimp only)
  (repeat' split) <;> simp_all (maxDischargeDepth := 40)

@[simp] theorem exchangeRing_keeps (started : Bool) (h : Keeps B K F L c₀ q₀ r₀ none s) :
    Keeps B K F L c₀ q₀ r₀ none (exchangeRing started s) := by
  unfold exchangeRing
  (try dsimp only)
  (repeat' split) <;> simp_all (maxDischargeDepth := 40)

@[simp] theorem sessionStarts_keeps (h : Keeps B K F L c₀ q₀ r₀ none s) : Keeps B K F L c₀ q₀ r₀ none (sessionStarts s) := by
  have h1 : Keeps B K F L c₀ q₀ r₀ none (wakeCause .exchangeRing none (exchangeRing true (s.onPac fun p => { p with ringSession := true }))) := by
    apply wakeCause_keeps; apply exchangeRing_keeps; apply onPac_keeps h
    · simp
    · exact eq_true ⟨rfl, id⟩
    · exact eq_true fun _ => id
    · exact eq_true fun _ => id
  unfold sessionStarts
  dsimp only
  generalize wakeCause .exchangeRing none _ = t at h1
  split
  · exact copperActivates_keeps _ (fun _ => by simp_all [State.restsIn]) h1
  · exact abortTest_keeps _ (fun _ _ h => h) h1

@[simp] theorem burstStart_keeps (h : Keeps B K F L c₀ q₀ r₀ none s) :
    Keeps B K F L c₀ q₀ r₀ none (burstStart s) := by
  unfold burstStart
  (try dsimp only)
  (repeat' split) <;> simp_all (maxDischargeDepth := 40)

@[simp] theorem burstEnd_keeps (h : Keeps B K F L c₀ q₀ r₀ none s) :
    Keeps B K F L c₀ q₀ r₀ none (burstEnd s) := by
  unfold burstEnd
  (try dsimp only)
  (repeat' split) <;> simp_all (maxDischargeDepth := 40)

@[simp] theorem sessionEnds_keeps (h : Keeps B K F L c₀ q₀ r₀ none s) :
    Keeps B K F L c₀ q₀ r₀ none (sessionEnds s) := by
  unfold sessionEnds
  (try dsimp only)
  (repeat' split) <;> simp_all (maxDischargeDepth := 40)

@[simp] theorem startHold_keeps (h : Keeps B K F L c₀ q₀ r₀ none s) :
    Keeps B K F L c₀ q₀ r₀ none (startHold s) := by
  unfold startHold
  (try dsimp only)
  (repeat' split) <;> simp_all (maxDischargeDepth := 40)

@[simp] theorem setHigh_keeps (high : Bool) (h : Keeps B K F L c₀ q₀ r₀ none s) :
    Keeps B K F L c₀ q₀ r₀ none (setHigh high s) := by
  unfold setHigh
  (try dsimp only)
  (repeat' split) <;> simp_all (maxDischargeDepth := 40)

@[simp] theorem hazard_keeps (peakMv : Nat) (h : Keeps B K F L c₀ q₀ r₀ none s) : Keeps B K F L c₀ q₀ r₀ none (hazard peakMv s) := by
  have h1 : Keeps B K F L c₀ q₀ r₀ none (abortTest .hazard id (startHold (setHigh true (wakeCause .hazard none s)))) :=
    abortTest_keeps _ (fun _ _ h => h) (startHold_keeps (setHigh_keeps _ (wakeCause_keeps _ _ h)))
  unfold hazard
  dsimp only
  apply report_keeps
  split
  · exact linkHazard_keeps h1
  · exact h1

@[simp] theorem hazardVoltageFall_keeps (h : Keeps B K F L c₀ q₀ r₀ none s) :
    Keeps B K F L c₀ q₀ r₀ none (hazardVoltageFall s) := by
  unfold hazardVoltageFall
  (try dsimp only)
  (repeat' split) <;> simp_all (maxDischargeDepth := 40)

@[simp] theorem holdEnds_keeps (h : Keeps B K F L c₀ q₀ r₀ none s) :
    Keeps B K F L c₀ q₀ r₀ none (holdEnds s) := by
  unfold holdEnds
  (try dsimp only)
  (repeat' split) <;> simp_all (maxDischargeDepth := 40)

@[simp] theorem pairUnavailable_keeps (h : Keeps B K F L c₀ q₀ r₀ none s) :
    Keeps B K F L c₀ q₀ r₀ none (pairUnavailable s) := by
  unfold pairUnavailable
  (try dsimp only)
  (repeat' split) <;> simp_all (maxDischargeDepth := 40)

@[simp] theorem loopCurrentChange_keeps (p : PortId) (present : Bool) (h : Keeps B K F L c₀ q₀ r₀ none s) :
    Keeps B K F L c₀ q₀ r₀ none (loopCurrentChange p present s) := by
  unfold loopCurrentChange
  (try dsimp only)
  (repeat' split) <;> simp_all (maxDischargeDepth := 40)

@[simp] theorem linkEnableRequest_keeps (h : Keeps B K F L c₀ q₀ r₀ none s) : Keeps B K F L c₀ q₀ r₀ none (linkEnableRequest s).2 := by
  refine keeps_inert h (fun h => ?_) fun hs => ?_
  · unfold linkEnableRequest
    (try dsimp only)
    (repeat' split) <;> simp_all (maxDischargeDepth := 40)
  · unfold linkEnableRequest
    rw [hs.1]; rfl


@[simp] theorem disableLink_keeps (h : Keeps B K F L c₀ q₀ r₀ none s) : Keeps B K F L c₀ q₀ r₀ none (disableLink s) := by
  refine keeps_inert h (fun h => ?_) fun hs => ?_
  · unfold disableLink
    (try dsimp only)
    (repeat' split) <;> simp_all (maxDischargeDepth := 40)
  · unfold disableLink
    rw [hs.2.1.1]


@[simp] theorem linkDisableRequest_keeps (h : Keeps B K F L c₀ q₀ r₀ none s) :
    Keeps B K F L c₀ q₀ r₀ none (linkDisableRequest s).2 := by
  unfold linkDisableRequest
  (try dsimp only)
  (repeat' split) <;> simp_all (maxDischargeDepth := 40)

@[simp] theorem retrain_keeps (h : Keeps B K F L c₀ q₀ r₀ none s) : Keeps B K F L c₀ q₀ r₀ none (retrain s) := by
  refine keeps_inert h (fun h => ?_) fun hs => ?_
  · unfold retrain
    (try dsimp only)
    (repeat' split) <;> simp_all (maxDischargeDepth := 40)
  · unfold retrain
    rw [hs.2.1.1]


@[simp] theorem linkRetrainRequest_keeps (h : Keeps B K F L c₀ q₀ r₀ none s) :
    Keeps B K F L c₀ q₀ r₀ none (linkRetrainRequest s).2 := by
  unfold linkRetrainRequest
  (try dsimp only)
  (repeat' split) <;> simp_all (maxDischargeDepth := 40)

@[simp] theorem newRung_keeps (r : Nat) (h : Keeps B K F L c₀ q₀ r₀ none s) : Keeps B K F L c₀ q₀ r₀ none (newRung r s) := by
  have h1 : Keeps B K F L c₀ q₀ r₀ none ((trialEnd s).onLks fun k => { k with rung := r }) := by
    apply onLks_keeps (trialEnd_keeps h) <;> simp
  unfold newRung
  dsimp only
  refine keeps_inert h1 (fun h1 => ?_) fun hs => ?_
  · split
    · exact rerunAttempt_keeps h1
    · exact beginAttempt_keeps _ (abandonAttempt_keeps h1)
    · exact dropByReason_keeps _ _ h1
    · exact h1
  · rw [hs.2.1.1]


@[simp] theorem linkRungSetRequest_keeps (r : Nat) (h : Keeps B K F L c₀ q₀ r₀ none s) :
    Keeps B K F L c₀ q₀ r₀ none (linkRungSetRequest r s).2 := by
  unfold linkRungSetRequest
  (try dsimp only)
  (repeat' split) <;> simp_all (maxDischargeDepth := 40)

@[simp] theorem linkHistoryRequest_keeps (a : Nat × Nat) (h : Keeps B K F L c₀ q₀ r₀ none s) :
    Keeps B K F L c₀ q₀ r₀ none (linkHistoryRequest a s).2 := by
  unfold linkHistoryRequest
  (try dsimp only)
  (repeat' split) <;> simp_all (maxDischargeDepth := 40)

/-- The link is OFF in LIFELINE stage: what it does in another state does not come up there. -/
theorem inLinkState_keeps (st : LinkState) (hn : st ≠ .off) {f : State → State}
    (hf : ∀ s, s.lks.state = st → Keeps B K F False c₀ q₀ r₀ none s → Keeps B K F False c₀ q₀ r₀ none (f s)) (h : Keeps B K F L c₀ q₀ r₀ none s) :
    Keeps B K F L c₀ q₀ r₀ none (inLinkState st f s) := by
  refine keeps_inert h (fun h => ?_) fun hs => ?_
  · unfold inLinkState; split
    · exact hf _ (by assumption) h
    · exact h
  · unfold inLinkState
    rw [if_neg (by rw [hs.2.1.1]; exact fun e => hn e.symm)]


@[simp] theorem attainedReport_keeps (a : Attained) (hs : K → s.lks.state ≠ .off) (h : Keeps B K F False c₀ q₀ r₀ none s) :
    Keeps B K F False c₀ q₀ r₀ none (attainedReport a s) := by
  unfold attainedReport
  (try dsimp only)
  (repeat' split) <;> simp_all (maxDischargeDepth := 40)

@[simp] theorem signalLost_keeps (h : Keeps B K F L c₀ q₀ r₀ none s) : Keeps B K F L c₀ q₀ r₀ none (signalLost s) := by
  have h1 : ∀ f : Lks → Option Nat, Keeps B K F L c₀ q₀ r₀ none (s.onLks fun k => { k with signalLost := true }) := by
    intro f; apply onLks_keeps h <;> simp
  unfold signalLost
  split
  · exact h
  · dsimp only
    have h1 : Keeps B K F L c₀ q₀ r₀ none (s.onLks fun k => { k with signalLost := true }) := by apply onLks_keeps h <;> simp
    refine keeps_inert h1 (fun h1 => ?_) fun hs => ?_
    · split
      · rename_i hc
        apply onLks_keeps h1
        · simp
        · exact eq_true fun _ _ o => nomatch hc.symm.trans o
        · simp
      · exact endReleasing_keeps h1
      · exact h1
    · rw [show s.lks.state = .off from hs.2.1.1]


@[simp] theorem signalPresent_keeps (h : Keeps B K F L c₀ q₀ r₀ none s) :
    Keeps B K F L c₀ q₀ r₀ none (signalPresent s) := by
  unfold signalPresent
  (try dsimp only)
  (repeat' split) <;> simp_all (maxDischargeDepth := 40)

@[simp] theorem upstreamCell_keeps (c : PayloadCell) (h : Keeps B K F L c₀ q₀ r₀ none s) : Keeps B K F L c₀ q₀ r₀ none (upstreamCell c s) := by
  unfold upstreamCell; split
  · apply onLks_keeps h
    · simp_all [Lks.bounded] <;> omega
    · simp
    · simp
  · exact h


@[simp] theorem downstreamCell_keeps (c : PayloadCell) (h : Keeps B K F L c₀ q₀ r₀ none s) : Keeps B K F L c₀ q₀ r₀ none (downstreamCell c s) := by
  unfold downstreamCell; split
  · apply onLks_keeps h
    · split <;> simp_all [Lks.bounded] <;> omega
    · split <;> simp
    · split <;> simp
  · exact h


@[simp] theorem upstreamCellSent_keeps (h : Keeps B K F L c₀ q₀ r₀ none s) : Keeps B K F L c₀ q₀ r₀ none (upstreamCellSent s) := by
  unfold upstreamCellSent; split
  · exact h
  · apply onLks_keeps h
    · simp_all [Lks.bounded] <;> omega
    · simp
    · simp


@[simp] theorem downstreamCellHanded_keeps (h : Keeps B K F L c₀ q₀ r₀ none s) : Keeps B K F L c₀ q₀ r₀ none (downstreamCellHanded s) := by
  unfold downstreamCellHanded; split
  · exact h
  · apply onLks_keeps h
    · simp_all [Lks.bounded] <;> omega
    · simp
    · simp


@[simp] theorem loopedCell_keeps (h : Keeps B K F L c₀ q₀ r₀ none s) :
    Keeps B K F L c₀ q₀ r₀ none (loopedCell s) := by
  unfold loopedCell
  (try dsimp only)
  (repeat' split) <;> simp_all (maxDischargeDepth := 40)

@[simp] theorem barrierExpires_keeps (rung : Nat) (h : Keeps B K F L c₀ q₀ r₀ none s) :
    Keeps B K F L c₀ q₀ r₀ none (barrierExpires rung s) := by
  unfold barrierExpires
  (try dsimp only)
  (repeat' split) <;> simp_all (maxDischargeDepth := 40)

@[simp] theorem seqOk_keeps (p : PortId) (h : Keeps B K F L c₀ q₀ r₀ none s) :
    Keeps B K F L c₀ q₀ r₀ none (seqOk p s).2 := by
  unfold seqOk
  (try dsimp only)
  (repeat' split) <;> simp_all (maxDischargeDepth := 40)

@[simp] theorem toneOk_keeps (d : ToneDisposition) (p : PortId) (h : Keeps B K F L c₀ q₀ r₀ none s) :
    Keeps B K F L c₀ q₀ r₀ none (toneOk d p s).2 := by
  unfold toneOk
  (try dsimp only)
  (repeat' split) <;> simp_all (maxDischargeDepth := 40)

@[simp] theorem toneOn_keeps (program : Nat) (queueFlag : Nat) (p : PortId) (h : Keeps B K F L c₀ q₀ r₀ none s) :
    Keeps B K F L c₀ q₀ r₀ none (toneOn program queueFlag p s).2 := by
  unfold toneOn
  (try dsimp only)
  (repeat' split) <;> simp_all (maxDischargeDepth := 40)

@[simp] theorem portToneRequest_keeps (a : Nat × Nat × Nat) (h : Keeps B K F L c₀ q₀ r₀ none s) : Keeps B K F L c₀ q₀ r₀ none (portToneRequest a s).2 :=
  onNamedPort_keeps _ (fun _ _ h => toneOn_keeps _ _ _ h) h

@[simp] theorem setPhase_keeps (phase : SeqPhase) (p : PortId) (h : Keeps B K F L c₀ q₀ r₀ none s) :
    Keeps B K F L c₀ q₀ r₀ none (setPhase phase p s) := by
  unfold setPhase
  (try dsimp only)
  (repeat' split) <;> simp_all (maxDischargeDepth := 40)

@[simp] theorem pauseOn_keeps (p : PortId) (h : Keeps B K F L c₀ q₀ r₀ none s) :
    Keeps B K F L c₀ q₀ r₀ none (pauseOn p s).2 := by
  unfold pauseOn
  (try dsimp only)
  (repeat' split) <;> simp_all (maxDischargeDepth := 40)

@[simp] theorem resumeOn_keeps (p : PortId) (h : Keeps B K F L c₀ q₀ r₀ none s) : Keeps B K F L c₀ q₀ r₀ none (resumeOn p s).2 := by
  unfold resumeOn; split
  · exact h
  · split
    · exact runSegments_keeps _ _ (setPhase_keeps _ _ h)
    · exact runOn_keeps _ _ (segmentTail_keeps _ _ h)
    · exact setPhase_keeps _ _ h
    · exact h

@[simp] theorem stopOn_keeps (p : PortId) (h : Keeps B K F L c₀ q₀ r₀ none s) :
    Keeps B K F L c₀ q₀ r₀ none (stopOn p s).2 := by
  unfold stopOn
  (try dsimp only)
  (repeat' split) <;> simp_all (maxDischargeDepth := 40)

@[simp] theorem ringSupplyResetRequest_keeps (h : Keeps B K F L c₀ q₀ r₀ none s) :
    Keeps B K F L c₀ q₀ r₀ none (ringSupplyResetRequest s).2 := by
  unfold ringSupplyResetRequest
  (try dsimp only)
  (repeat' split) <;> simp_all (maxDischargeDepth := 40)

@[simp] theorem segmentRunsOut_keeps (p : PortId) (h : Keeps B K F L c₀ q₀ r₀ none s) :
    Keeps B K F L c₀ q₀ r₀ none (segmentRunsOut p s) := by
  unfold segmentRunsOut
  (try dsimp only)
  (repeat' split) <;> simp_all (maxDischargeDepth := 40)

@[simp] theorem supplyReady_keeps (h : Keeps B K F L c₀ q₀ r₀ none s) :
    Keeps B K F L c₀ q₀ r₀ none (supplyReady s) := by
  unfold supplyReady
  (try dsimp only)
  (repeat' split) <;> simp_all (maxDischargeDepth := 40)

@[simp] theorem supplyRetries_keeps (h : Keeps B K F L c₀ q₀ r₀ none s) :
    Keeps B K F L c₀ q₀ r₀ none (supplyRetries s) := by
  unfold supplyRetries
  (try dsimp only)
  (repeat' split) <;> simp_all (maxDischargeDepth := 40)

theorem insertFrame_length (r : Seq16) (f : VoiceFrame) (xs : List VoiceFrame) : (insertFrame r f xs).length = xs.length + 1 := by
  induction xs with
  | nil => rfl
  | cons x xs ih => unfold insertFrame; split <;> simp [ih]
theorem take_bounded (b : Bool) (f : VoiceFrame) (v : Voice) (h : v.bounded) : (v.take b f).bounded := by
  unfold Voice.take Voice.bounded at *
  dsimp only
  repeat' split
  all_goals try exact h
  unfold Voice.accept
  split <;> simp [insertFrame_length] <;> omega
@[simp] theorem voiceFrame_keeps (body : List Byte) (h : Keeps B K F L c₀ q₀ r₀ none s) : Keeps B K F L c₀ q₀ r₀ none (voiceFrame body s) := by
  unfold voiceFrame; split
  · apply onMpt_keeps h; simp [Mpt.bounded]
  · apply onPort_keeps h
    · simp only [Port.bounded, eq_iff_iff, iff_true]
      exact fun h => ⟨h.1, h.2.1, take_bounded _ _ _ h.2.2⟩
    · simp
    · simp


theorem fill_queue (v : Voice) : v.fill.queue = v.queue ∧ v.fill.capture = v.capture := ⟨rfl, rfl⟩
theorem underrun_queue (v : Voice) : v.underrun.queue = v.queue ∧ v.underrun.capture = v.capture := by
  unfold Voice.underrun; dsimp only; split <;> exact ⟨rfl, rfl⟩
theorem playSlot_bounded (v : Voice) (h : v.bounded) : v.playSlot.bounded := by
  unfold Voice.playSlot
  split
  · simp only [Voice.bounded, underrun_queue]; exact h
  · rename_i hq
    dsimp only
    split
    · unfold Voice.bounded at *; rw [hq] at h; simp at *; omega
    · exact h
theorem playout_bounded (d : Nat) (v : Voice) (h : v.bounded) : (v.playout d).bounded := by
  unfold Voice.playout
  split
  · exact playSlot_bounded v h
  · split
    · exact h
    · split
      · exact playSlot_bounded _ h
      · exact h
  · exact h
theorem produce_bounded (a : Samples) (n : Nat) (v : Voice) (h : v.bounded) : (v.produce a n).bounded := by
  unfold Voice.produce Voice.bounded at *
  simp only [List.length_append, List.length_singleton]
  unfold captureMax at *
  split <;> simp <;> omega
@[simp] theorem frameTick_keeps (p : PortId) (audio : Samples) (h : Keeps B K F L c₀ q₀ r₀ none s) : Keeps B K F L c₀ q₀ r₀ none (frameTick p audio s) := by
  unfold frameTick
  refine onExpiry_keeps (fun s h => ?_) h
  apply onPort_keeps h
  · simp only [Port.bounded, eq_iff_iff, iff_true]
    exact fun h => ⟨h.1, h.2.1, produce_bounded _ _ _ (playout_bounded _ _ h.2.2)⟩
  · simp
  · simp


@[simp] theorem portEvent_keeps (p : PortId) (e : PortEvent) (h : Keeps B K F L c₀ q₀ r₀ pl s) :
    Keeps B K F L c₀ q₀ r₀ pl (portEvent p e s) := by
  unfold portEvent
  (try dsimp only)
  (repeat' split) <;> simp_all (maxDischargeDepth := 40)

@[simp] theorem enableOn_keeps (p : PortId) (h : Keeps B K F L c₀ q₀ r₀ none s) : Keeps B K F L c₀ q₀ r₀ none (enableOn p s).2 := by
  unfold enableOn
  dsimp only
  split
  · rename_i hs
    split
    · exact h
    · rename_i hn
      refine enterIdle_keeps _ (fun _ => by rw [hs]; rfl) (fun l e => hn ?_) h
      simp [e, (h.held l).1]
  · rename_i hs
    split
    · exact enterIdle_keeps _ (fun _ => by rw [hs]; rfl) (not_two h hs (by decide)) h
    · exact h
  · split <;> exact h


@[simp] theorem disableOn_keeps (p : PortId) (h : Keeps B K F L c₀ q₀ r₀ none s) :
    Keeps B K F L c₀ q₀ r₀ none (disableOn p s).2 := by
  unfold disableOn
  (try dsimp only)
  (repeat' split) <;> simp_all (maxDischargeDepth := 40)

@[simp] theorem ringOn_keeps (program : Nat) (p : PortId) (h : Keeps B K F L c₀ q₀ r₀ none s) : Keeps B K F L c₀ q₀ r₀ none (ringOn program p s).2 := by
  unfold ringOn
  split
  · exact h
  · split
    · exact h
    · rename_i hs
      simp only [bne_iff_ne, ne_eq, Decidable.not_not] at hs
      split
      · exact h
      · exact startProgram_keeps _ _ (toHome (fun _ => by rw [hs]; rfl) h (fun _ h => h) id rfl (not_two h hs (by decide)))


@[simp] theorem connectOn_keeps (p : PortId) (h : Keeps B K F L c₀ q₀ r₀ none s) : Keeps B K F L c₀ q₀ r₀ none (connectOn p s).2 := by
  unfold connectOn; split
  · rename_i hs
    refine toHome (fun _ => by rw [hs]; rfl) h (fun _ h => stopSeq_keeps _ _ h) ?_ rfl (not_two h hs (by decide))
    unfold Port.toConnected Port.abandonDigit Port.bounded Voice.bounded
    split <;> exact fun h => ⟨h.1, h.2.1, by simp [Voice.opened, Voice.close], h.2.2.2⟩
  · exact h
  · exact h


@[simp] theorem restartReceiver_keeps (p : PortId) (h : Keeps B K F L c₀ q₀ r₀ none s) :
    Keeps B K F L c₀ q₀ r₀ none (restartReceiver p s) := by
  unfold restartReceiver
  (try dsimp only)
  (repeat' split) <;> simp_all (maxDischargeDepth := 40)

@[simp] theorem startReleaseTone_keeps (p : PortId) (h : Keeps B K F L c₀ q₀ r₀ none s) :
    Keeps B K F L c₀ q₀ r₀ none (startReleaseTone p s) := by
  unfold startReleaseTone
  (try dsimp only)
  (repeat' split) <;> simp_all (maxDischargeDepth := 40)

@[simp] theorem releaseOn_keeps (p : PortId) (h : Keeps B K F L c₀ q₀ r₀ none s) : Keeps B K F L c₀ q₀ r₀ none (releaseOn p s).2 := by
  unfold releaseOn
  split
  · exact restartReceiver_keeps _ (startReleaseTone_keeps _ h)
  · rename_i hs
    apply portChanged_keeps; apply startReleaseTone_keeps
    refine toHome (fun _ => by rw [hs]; rfl) h (fun _ h => h) ?_ rfl (not_two h hs (by decide))
    simp [Port.toOffhook, Voice.close]; omega
  · rename_i hs
    exact enterIdle_keeps _ (fun _ => by rw [hs]; rfl) (not_two h hs (by decide)) h
  · exact h


@[simp] theorem digitsOn_keeps (count : Nat) (p : PortId) (h : Keeps B K F L c₀ q₀ r₀ none s) : Keeps B K F L c₀ q₀ r₀ none (digitsOn count p s).2 := by
  unfold digitsOn; split
  · exact h
  · have h1 : Keeps B K F L c₀ q₀ r₀ none (s.onPort p fun q => { q with digits := (s.port p).digits.drop count }) := by
      apply onPort_keeps h
      · simp only [Port.bounded, List.length_drop, eq_iff_iff, iff_true]
        exact fun h => ⟨by omega, h.2⟩
      · simp
      · simp
    dsimp only
    split
    · exact h1
    · exact clearFault_keeps _ _ h1


@[simp] theorem statusOn_keeps (p : PortId) (h : Keeps B K F L c₀ q₀ r₀ none s) :
    Keeps B K F L c₀ q₀ r₀ none (statusOn p s).2 := by
  unfold statusOn
  (try dsimp only)
  (repeat' split) <;> simp_all (maxDischargeDepth := 40)

@[simp] theorem closeLoop_keeps (p : PortId) (h : Keeps B K F L c₀ q₀ r₀ none s) :
    Keeps B K F L c₀ q₀ r₀ none (closeLoop p s) := by
  unfold closeLoop
  (try dsimp only)
  (repeat' split) <;> simp_all (maxDischargeDepth := 40)

@[simp] theorem breakEndsAt_keeps (ms : Nat) (q : Port) (h : Keeps B K F L c₀ q₀ r₀ none s) :
    Keeps B K F L c₀ q₀ r₀ none (breakEndsAt ms q s) := by
  unfold breakEndsAt
  (try dsimp only)
  (repeat' split) <;> simp_all (maxDischargeDepth := 40)

@[simp] theorem offhookTone_keeps (p : PortId) (h : Keeps B K F L c₀ q₀ r₀ none s) :
    Keeps B K F L c₀ q₀ r₀ none (offhookTone p s) := by
  unfold offhookTone
  (try dsimp only)
  (repeat' split) <;> simp_all (maxDischargeDepth := 40)

@[simp] theorem offhookInIdle_keeps (p : PortId) (hl : F → (s.port p).state.place = .home) (hd : L → p = .two → False) (h : Keeps B K F L c₀ q₀ r₀ none s) :
    Keeps B K F L c₀ q₀ r₀ none (offhookInIdle p s) := by
  unfold offhookInIdle
  apply offhookTone_keeps; apply portEvent_keeps
  refine toHome hl h (fun _ h => h) ?_ rfl hd
  simp [Port.toOffhook, Voice.close]; omega

@[simp] theorem ringTrip_keeps (p : PortId) (hl : F → (s.port p).state.place = .home) (hd : L → p = .two → False) (h : Keeps B K F L c₀ q₀ r₀ none s) :
    Keeps B K F L c₀ q₀ r₀ none (ringTrip p s) := by
  have h1 : Keeps B K F L c₀ q₀ r₀ none ((stopSeq (some .port) p s).onPort p (Port.toOffhook s.clock)) := by
    refine toHome hl h (fun _ h => stopSeq_keeps _ _ h) ?_ rfl hd
    simp [Port.toOffhook, Voice.close]; omega
  unfold ringTrip
  dsimp only
  split
  · exact startAutoTone_keeps _ (portEvent_keeps _ _ h1)
  · exact portEvent_keeps _ _ h1

theorem offhookWakes_keeps (p : PortId) (hl : F → (s.port p).state.place = .home) (hd : L → p = .two → False) (h : Keeps B K F L c₀ q₀ r₀ none s) :
    Keeps B K F L c₀ q₀ r₀ none (offhookWakes p s) := by
  have h1 := wakeCause_keeps .offHook (some p) h
  unfold offhookWakes
  dsimp only
  split
  · apply onPort_keeps h1 <;> simp
  · refine offhookInIdle_keeps p (fun f => ?_) hd h1
    cases p <;> exact hl f

@[simp] theorem offhookRecognised_keeps (p : PortId) (h : Keeps B K F L c₀ q₀ r₀ none s) :
    Keeps B K F L c₀ q₀ r₀ none (offhookRecognised p s) := by
  have h1 : Keeps B K F L c₀ q₀ r₀ none (s.onPort p fun q => { q with offHook := true }) := by
    apply onPort_keeps h <;> simp
  have hs : ∀ st, (s.port p).state = st → st.place = .home → ((s.onPort p fun q => { q with offHook := true }).port p).state.place = .home := by
    intro st e hl; subst e; cases p <;> exact hl
  unfold offhookRecognised
  dsimp only
  split
  · exact offhookWakes_keeps p (fun _ => hs _ (by assumption) rfl) (not_two h (by assumption) (by decide)) h1
  · exact ringTrip_keeps p (fun _ => hs _ (by assumption) rfl) (not_two h (by assumption) (by decide)) h1
  · exact h1

@[simp] theorem dialling_keeps (p : PortId) (h : Keeps B K F L c₀ q₀ r₀ none s) :
    Keeps B K F L c₀ q₀ r₀ none (dialling p s) := by
  unfold dialling
  (try dsimp only)
  (repeat' split) <;> simp_all (maxDischargeDepth := 40)

@[simp] theorem storeDigit_keeps (digit : Fin 16) (method : DigitMethod) (p : PortId) (h : Keeps B K F L c₀ q₀ r₀ none s) : Keeps B K F L c₀ q₀ r₀ none (storeDigit digit method p s) := by
  unfold storeDigit
  dsimp only
  split
  · have h1 : ∀ d (n : Port → PortCounts), Keeps B K F L c₀ q₀ r₀ none (s.onPort p fun q => { q with digits := q.digits ++ [d], counts := n q }) := by
      intro d n; apply onPort_keeps h
      · simp only [Port.bounded, List.length_append, List.length_singleton, eq_iff_iff, iff_true]
        exact fun h => ⟨by omega, h.2⟩
      · simp
      · simp
    split
    · exact portEvent_keeps _ _ (h1 _ fun q => { q.counts with stored := up16 q.counts.stored })
    · exact h1 _ fun q => { q.counts with stored := up16 q.counts.stored }
  · apply report_keeps; apply onPort_keeps h <;> simp

@[simp] theorem collectDigit_keeps (digit : Fin 16) (method : DigitMethod) (p : PortId) (h : Keeps B K F L c₀ q₀ r₀ none s) :
    Keeps B K F L c₀ q₀ r₀ none (collectDigit digit method p s) := by
  unfold collectDigit
  (try dsimp only)
  (repeat' split) <;> simp_all (maxDischargeDepth := 40)

@[simp] theorem pulseDigitEnds_keeps (count : Nat) (p : PortId) (h : Keeps B K F L c₀ q₀ r₀ none s) :
    Keeps B K F L c₀ q₀ r₀ none (pulseDigitEnds count p s) := by
  unfold pulseDigitEnds
  (try dsimp only)
  (repeat' split) <;> simp_all (maxDischargeDepth := 40)

@[simp] theorem dialPulse_keeps (p : PortId) (h : Keeps B K F L c₀ q₀ r₀ none s) :
    Keeps B K F L c₀ q₀ r₀ none (dialPulse p s) := by
  unfold dialPulse
  (try dsimp only)
  (repeat' split) <;> simp_all (maxDischargeDepth := 40)

@[simp] theorem interDigitEnds_keeps (p : PortId) (h : Keeps B K F L c₀ q₀ r₀ none s) :
    Keeps B K F L c₀ q₀ r₀ none (interDigitEnds p s) := by
  unfold interDigitEnds
  (try dsimp only)
  (repeat' split) <;> simp_all (maxDischargeDepth := 40)

@[simp] theorem toneDigit_keeps (p : PortId) (digit : Fin 16) (gapMs : Nat) (h : Keeps B K F L c₀ q₀ r₀ none s) :
    Keeps B K F L c₀ q₀ r₀ none (toneDigit p digit gapMs s) := by
  unfold toneDigit
  (try dsimp only)
  (repeat' split) <;> simp_all (maxDischargeDepth := 40)

@[simp] theorem toneDigitEnd_keeps (p : PortId) (h : Keeps B K F L c₀ q₀ r₀ none s) : Keeps B K F L c₀ q₀ r₀ none (toneDigitEnd p s) := by
  unfold toneDigitEnd; apply onPort_keeps h <;> split <;> simp

@[simp] theorem flash_keeps (p : PortId) (h : Keeps B K F L c₀ q₀ r₀ none s) : Keeps B K F L c₀ q₀ r₀ none (flash p s) := by
  unfold flash; apply portEvent_keeps; apply onPort_keeps h <;> unfold Port.abandonDigit <;> split <;> simp

@[simp] theorem glitch_keeps (p : PortId) (h : Keeps B K F L c₀ q₀ r₀ none s) :
    Keeps B K F L c₀ q₀ r₀ none (glitch p s) := by
  unfold glitch
  (try dsimp only)
  (repeat' split) <;> simp_all (maxDischargeDepth := 40)

@[simp] theorem takeBreak_keeps (class_ : BreakClass) (p : PortId) (h : Keeps B K F L c₀ q₀ r₀ none s) : Keeps B K F L c₀ q₀ r₀ none (takeBreak class_ p s) := by
  unfold takeBreak; split
  · exact glitch_keeps _ h
  · exact dialPulse_keeps _ h
  · apply onPort_keeps h <;> unfold Port.abandonDigit <;> split <;> simp
  · exact flash_keeps _ h
  · exact flash_keeps _ h
  · exact h

@[simp] theorem hangUp_keeps (p : PortId) (hl : F → (s.port p).state.place = .home) (hd : L → p = .two → False) (h : Keeps B K F L c₀ q₀ r₀ none s) : Keeps B K F L c₀ q₀ r₀ none (hangUp p s) :=
  enterIdleWith_local _ _ (fun _ _ h => portEvent_keeps _ _ h) hl hd h
/-- The hang-up comes only in the states that hang up. -/
theorem hangUp_due (p : PortId) (h : Keeps B K F L c₀ q₀ r₀ none s) : Keeps B K F L c₀ q₀ r₀ none (onExpiry (s.port p).hangUpDue (hangUp p) s) := by
  unfold onExpiry Port.hangUpDue
  split
  · exact h
  · rename_i hd
    split at hd
    · rename_i hc
      have e : ∀ t, ((s.reach t).port p).state.hangsUp = true := by
        intro t; cases p <;> simp_all [State.reach, State.port]
      exact hangUp_keeps _ (fun _ => place_hangsUp (e _)) (not_two_of h (Bool.and_eq_true_iff.mp hc).1 rfl) (reach_keeps h _)
    · cases hd

@[simp] theorem breakEnd_keeps (p : PortId) (lengthMs : Nat) (h : Keeps B K F L c₀ q₀ r₀ none s) : Keeps B K F L c₀ q₀ r₀ none (breakEnd p lengthMs s) := by
  unfold breakEnd
  dsimp only
  split
  · split
    · rename_i hc
      have h1 := breakEndsAt_keeps (s.port p).settings.hangUpMs (s.port p) h
      have e : ((breakEndsAt (s.port p).settings.hangUpMs (s.port p) s).port p).state.hangsUp = true := by
        simp only [Bool.and_eq_true] at hc
        unfold breakEndsAt
        split
        · exact hc.2
        · cases p <;> exact hc.2
      exact closeLoop_keeps _ (breakEndsAt_keeps _ _ (hangUp_keeps _ (fun _ => place_hangsUp e) (not_two_of h1 e rfl) h1))
    · exact takeBreak_keeps _ _ (closeLoop_keeps _ (breakEndsAt_keeps _ _ h))
  · exact closeLoop_keeps _ h

theorem enterHowler_keeps (p : PortId) (hl : F → (s.port p).state.place = .home) (hd : L → p = .two → False) (h : Keeps B K F L c₀ q₀ r₀ none s) :
    Keeps B K F L c₀ q₀ r₀ none (enterHowler p s) := by
  unfold enterHowler
  apply startTone_keeps
  refine toHome hl h (fun _ h => stopSeq_keeps _ _ h) ?_ rfl hd
  simp [Port.toHowler]
/-- The receiver-off-hook time ends only in OFFHOOK. -/
theorem enterHowler_due (p : PortId) (h : Keeps B K F L c₀ q₀ r₀ none s) : Keeps B K F L c₀ q₀ r₀ none (onExpiry (s.port p).receiverDue (enterHowler p) s) := by
  unfold onExpiry Port.receiverDue
  split
  · exact h
  · rename_i hd
    split at hd
    · have e : ∀ t, ((s.reach t).port p).state = .offhook := by
        intro t; cases p <;> simp_all [State.reach, State.port]
      exact enterHowler_keeps _ (fun _ => by rw [e]; rfl) (not_two h (by assumption) (by decide)) (reach_keeps h _)
    · cases hd

theorem enterLockout_keeps (p : PortId) (hl : F → (s.port p).state.place = .home) (hd : L → p = .two → False) (h : Keeps B K F L c₀ q₀ r₀ none s) :
    Keeps B K F L c₀ q₀ r₀ none (enterLockout p s) := by
  unfold enterLockout
  refine toHome hl h (fun _ h => stopSeq_keeps _ _ h) ?_ rfl hd
  simp
/-- HOWLER ends only in its own state. -/
theorem enterLockout_due (p : PortId) (h : Keeps B K F L c₀ q₀ r₀ none s) : Keeps B K F L c₀ q₀ r₀ none (onExpiry (s.port p).howlerDue (enterLockout p) s) := by
  unfold onExpiry Port.howlerDue
  split
  · exact h
  · rename_i hd
    split at hd
    · have e : ∀ t, ((s.reach t).port p).state = .howler := by
        intro t; cases p <;> simp_all [State.reach, State.port]
      exact enterLockout_keeps _ (fun _ => by rw [e]; rfl) (not_two h (by assumption) (by decide)) (reach_keeps h _)
    · cases hd

@[simp] theorem latchOrRetry_keeps (kind : WiringFault) (p : PortId) (h : Keeps B K F L c₀ q₀ r₀ none s) :
    Keeps B K F L c₀ q₀ r₀ none (latchOrRetry kind p s) := by
  unfold latchOrRetry
  (try dsimp only)
  (repeat' split) <;> simp_all (maxDischargeDepth := 40)

@[simp] theorem enterFault_keeps (kind : WiringFault) (p : PortId) (hl : F → (s.port p).state.place = .home) (hd : L → p = .two → False) (h : Keeps B K F L c₀ q₀ r₀ none s) : Keeps B K F L c₀ q₀ r₀ none (enterFault kind p s) := by
  unfold enterFault
  dsimp only
  apply portChanged_keeps; apply latchOrRetry_keeps; apply report_keeps
  refine toHome hl h (fun _ h => stopSeq_keeps _ _ h) ?_ rfl hd
  simp only [Port.bounded, Port.toFault, Voice.close, Voice.bounded]
  refine fun h => ⟨h.1, ?_, by simp, h.2.2.2⟩
  split
  · simp
  · omega

@[simp] theorem lineFault_keeps (p : PortId) (kind : WiringFault) (h : Keeps B K F L c₀ q₀ r₀ none s) : Keeps B K F L c₀ q₀ r₀ none (lineFault p kind s) := by
  unfold lineFault
  dsimp only
  split
  · exact h
  · split
    · simp [h]
    · split
      · rename_i hw
        exact enterFault_keeps _ _ (fun _ => place_watched hw) (not_two_of h hw rfl) h
      · exact h


@[simp] theorem tryRecover_keeps (p : PortId) (h : Keeps B K F L c₀ q₀ r₀ none s) : Keeps B K F L c₀ q₀ r₀ none (tryRecover p s) := by
  unfold tryRecover
  dsimp only
  split
  · exact h
  · split
    · rename_i hc
      simp only [Bool.and_eq_true, decide_eq_true_eq] at hc
      exact enterIdleWith_local _ _ (fun _ _ h => portEvent_keeps _ _ h) (fun _ => by rw [hc.1]; rfl) (not_two h hc.1 (by decide)) h
    · exact h


@[simp] theorem lineFaultGone_keeps (p : PortId) (h : Keeps B K F L c₀ q₀ r₀ none s) :
    Keeps B K F L c₀ q₀ r₀ none (lineFaultGone p s) := by
  unfold lineFaultGone
  (try dsimp only)
  (repeat' split) <;> simp_all (maxDischargeDepth := 40)

@[simp] theorem retryRunsOut_keeps (p : PortId) (h : Keeps B K F L c₀ q₀ r₀ none s) :
    Keeps B K F L c₀ q₀ r₀ none (retryRunsOut p s) := by
  unfold retryRunsOut
  (try dsimp only)
  (repeat' split) <;> simp_all (maxDischargeDepth := 40)

@[simp] theorem testRequestRequest_keeps (a : Nat × Nat × Nat) (h : Keeps B K F L c₀ q₀ r₀ none s) :
    Keeps B K F L c₀ q₀ r₀ none (testRequestRequest a s).2 := by
  unfold testRequestRequest
  (try dsimp only)
  (repeat' split) <;> simp_all (maxDischargeDepth := 40)

@[simp] theorem testCancelRequest_keeps (job : Nat) (h : Keeps B K F L c₀ q₀ r₀ none s) :
    Keeps B K F L c₀ q₀ r₀ none (testCancelRequest job s).2 := by
  unfold testCancelRequest
  (try dsimp only)
  (repeat' split) <;> simp_all (maxDischargeDepth := 40)

@[simp] theorem testResultRequest_keeps (kind : Nat) (h : Keeps B K F L c₀ q₀ r₀ none s) :
    Keeps B K F L c₀ q₀ r₀ none (testResultRequest kind s).2 := by
  unfold testResultRequest
  (try dsimp only)
  (repeat' split) <;> simp_all (maxDischargeDepth := 40)

@[simp] theorem measurePeriod_keeps (samples : List Int) (h : Keeps B K F L c₀ q₀ r₀ none s) : Keeps B K F L c₀ q₀ r₀ none (measurePeriod samples s) := by
  have h1 : ∀ r, Keeps B K F L c₀ q₀ r₀ none (s.onLtu fun l => { l with run := r }) := by
    intro r; apply onLtu_keeps h <;> simp
  unfold measurePeriod
  dsimp only
  split
  · split
    · exact h1 _
    · split
      · exact h1 _
      · exact finishTest_keeps _ _ _ _ _ (h1 _)
  · exact h

@[simp] theorem takeSamples_keeps (samples : List Int) (h : Keeps B K F L c₀ q₀ r₀ none s) : Keeps B K F L c₀ q₀ r₀ none (takeSamples samples s) :=
  onExpiry_keeps (fun _ h => measurePeriod_keeps _ h) h

theorem acknowledge_distinct (p : FaultRecord → Bool) {log : List FaultRecord} (h : log.Pairwise FaultRecord.apart) :
    (log.map fun r => if p r then { r with acked := true } else r).Pairwise FaultRecord.apart := by
  refine List.Pairwise.map _ (fun a b h => ?_) h
  have : ∀ r : FaultRecord, ∃ b, (if p r then { r with acked := true } else r) = { r with acked := b } := by
    intro r; split
    · exact ⟨true, rfl⟩
    · exact ⟨r.acked, rfl⟩
  obtain ⟨x, ex⟩ := this a
  obtain ⟨y, ey⟩ := this b
  rw [ex, ey]
  exact h
@[simp] theorem faultAckRequest_keeps (a : Nat × Nat) (h : Keeps B K F L c₀ q₀ r₀ none s) : Keeps B K F L c₀ q₀ r₀ none (faultAckRequest a s).2 := by
  have h1 : ∀ p, Keeps B K F L c₀ q₀ r₀ none (s.onFlg (Flg.acknowledge p)) := by
    intro p; apply onFlg_keeps h
    · simp [Flg.acknowledge]
    · exact eq_true (acknowledge_distinct p)
  unfold faultAckRequest
  dsimp only
  split
  · split
    · exact h1 _
    · exact h
  · exact h1 _
  · exact h

@[simp] theorem faultPurgeRequest_keeps (h : Keeps B K F L c₀ q₀ r₀ none s) : Keeps B K F L c₀ q₀ r₀ none (faultPurgeRequest s).2 := by
  have := List.length_filter_le FaultRecord.active s.flg.log
  unfold faultPurgeRequest
  dsimp only
  apply onFlg_keeps h
  · simp only [Flg.bounded, eq_iff_iff, iff_true]; omega
  · exact eq_true fun hd => List.Pairwise.sublist List.filter_sublist hd

@[simp] theorem clearCounts_keeps (h : Keeps B K F L c₀ q₀ r₀ none s) :
    Keeps B K F L c₀ q₀ r₀ none (clearCounts s) := by
  unfold clearCounts
  (try dsimp only)
  (repeat' split) <;> simp_all (maxDischargeDepth := 40)

@[simp] theorem respond_keeps (r : MaintResponse) (h : Keeps B K F L c₀ q₀ r₀ none s) :
    Keeps B K F L c₀ q₀ r₀ none (respond r s) := by
  unfold respond
  (try dsimp only)
  (repeat' split) <;> simp_all (maxDischargeDepth := 40)

@[simp] theorem remoteEvent_keeps (e : RemoteEvent) (h : Keeps B K F L c₀ q₀ r₀ none s) :
    Keeps B K F L c₀ q₀ r₀ none (remoteEvent e s) := by
  unfold remoteEvent
  (try dsimp only)
  (repeat' split) <;> simp_all (maxDischargeDepth := 40)

theorem maintenance_keeps (kind : MaintKind) (ref : Byte) {serve : State → (MaintStatus × MaintData) × State}
    (hs : ∀ s, Keeps B K F L c₀ q₀ r₀ none s → Keeps B K F L c₀ q₀ r₀ none (serve s).2) (h : Keeps B K F L c₀ q₀ r₀ none s) : Keeps B K F L c₀ q₀ r₀ none (maintenance kind ref serve s) := by
  unfold maintenance
  dsimp only
  split
  · split
    · apply respond_keeps; apply onMcr_keeps h; simp
    · apply respond_keeps; apply hs; apply onMcr_keeps h; simp
  · exact h

@[simp] theorem serveSummary_keeps (h : Keeps B K F L c₀ q₀ r₀ none s) :
    Keeps B K F L c₀ q₀ r₀ none (serveSummary s).2 := by
  unfold serveSummary
  (try dsimp only)
  (repeat' split) <;> simp_all (maxDischargeDepth := 40)

@[simp] theorem serveResult_keeps (kind : Byte) (h : Keeps B K F L c₀ q₀ r₀ none s) :
    Keeps B K F L c₀ q₀ r₀ none (serveResult kind s).2 := by
  unfold serveResult
  (try dsimp only)
  (repeat' split) <;> simp_all (maxDischargeDepth := 40)

@[simp] theorem reportAttempt_keeps (kind : MaintKind) (h : Keeps B K F L c₀ q₀ r₀ none s) :
    Keeps B K F L c₀ q₀ r₀ none (reportAttempt kind s) := by
  unfold reportAttempt
  (try dsimp only)
  (repeat' split) <;> simp_all (maxDischargeDepth := 40)

@[simp] theorem countAttempt_keeps (h : Keeps B K F L c₀ q₀ r₀ none s) :
    Keeps B K F L c₀ q₀ r₀ none (countAttempt s) := by
  unfold countAttempt
  (try dsimp only)
  (repeat' split) <;> simp_all (maxDischargeDepth := 40)

@[simp] theorem wrongAttempt_keeps (kind : MaintKind) (h : Keeps B K F L c₀ q₀ r₀ none s) : Keeps B K F L c₀ q₀ r₀ none (wrongAttempt kind s) := by
  have h1 := countAttempt_keeps h
  unfold wrongAttempt
  dsimp only
  split
  · apply reportAttempt_keeps; apply onMcr_keeps h1; simp_all; omega
  · apply remoteEvent_keeps; apply reportAttempt_keeps; apply onMcr_keeps h1; simp

theorem privileged_keeps (kind : MaintKind) (code : AccessCode) (argsOk : Bool) {carry : State → (MaintStatus × MaintData) × State}
    (hs : ∀ s, Keeps B K F L c₀ q₀ r₀ none s → Keeps B K F L c₀ q₀ r₀ none (carry s).2) (h : Keeps B K F L c₀ q₀ r₀ none s) : Keeps B K F L c₀ q₀ r₀ none (privileged kind code argsOk carry s).2 := by
  have h1 : Keeps B K F L c₀ q₀ r₀ none (s.onMcr fun m => { m with refusedLocked := up16 m.refusedLocked }) := by
    apply onMcr_keeps h; simp
  unfold privileged
  dsimp only
  split
  · dsimp only; apply onMcr_keeps h; simp
  · split
    · split
      · exact h1
      · exact reportAttempt_keeps _ (countAttempt_keeps h1)
    · split
      · exact wrongAttempt_keeps _ h
      · split
        · exact h
        · exact hs _ h

@[simp] theorem startRemoteTest_keeps (kind : Byte) (repeats : Byte) (h : Keeps B K F L c₀ q₀ r₀ none s) :
    Keeps B K F L c₀ q₀ r₀ none (startRemoteTest kind repeats s).2 := by
  unfold startRemoteTest
  (try dsimp only)
  (repeat' split) <;> simp_all (maxDischargeDepth := 40)

@[simp] theorem startLoopback_keeps (minutes : Nat) (h : Keeps B K F L c₀ q₀ r₀ none s) :
    Keeps B K F L c₀ q₀ r₀ none (startLoopback minutes s).2 := by
  unfold startLoopback
  (try dsimp only)
  (repeat' split) <;> simp_all (maxDischargeDepth := 40)

@[simp] theorem stopLoopback_keeps (h : Keeps B K F L c₀ q₀ r₀ none s) :
    Keeps B K F L c₀ q₀ r₀ none (stopLoopback s).2 := by
  unfold stopLoopback
  (try dsimp only)
  (repeat' split) <;> simp_all (maxDischargeDepth := 40)

@[simp] theorem acknowledged_keeps (ref : Byte) (h : Keeps B K F L c₀ q₀ r₀ none s) :
    Keeps B K F L c₀ q₀ r₀ none (acknowledged ref s) := by
  unfold acknowledged
  (try dsimp only)
  (repeat' split) <;> simp_all (maxDischargeDepth := 40)

@[simp] theorem setWatch_keeps (mask : Conditions) (pattern : Conditions) (h : Keeps B K F L c₀ q₀ r₀ none s) :
    Keeps B K F L c₀ q₀ r₀ none (setWatch mask pattern s) := by
  unfold setWatch
  (try dsimp only)
  (repeat' split) <;> simp_all (maxDischargeDepth := 40)

@[simp] theorem supplyWatchRequest_keeps (a : Nat × Nat) (h : Keeps B K F L c₀ q₀ r₀ none s) :
    Keeps B K F L c₀ q₀ r₀ none (supplyWatchRequest a s).2 := by
  unfold supplyWatchRequest
  (try dsimp only)
  (repeat' split) <;> simp_all (maxDischargeDepth := 40)

@[simp] theorem mainsInputChange_keeps (present : Bool) (h : Keeps B K F L c₀ q₀ r₀ none s) :
    Keeps B K F L c₀ q₀ r₀ none (mainsInputChange present s) := by
  unfold mainsInputChange
  (try dsimp only)
  (repeat' split) <;> simp_all (maxDischargeDepth := 40)

theorem batteryReading_keeps (mv : Nat) (h : Keeps B K F L c₀ q₀ r₀ none s) : Staged B K F L c₀ q₀ r₀ (batteryReading mv s) :=
  takeReading_keeps _ (onPsv_keeps (reach_keeps h _) (by simp))


@[simp] theorem enclosureInputChange_keeps (isOpen : Bool) (h : Keeps B K F L c₀ q₀ r₀ none s) :
    Keeps B K F L c₀ q₀ r₀ none (enclosureInputChange isOpen s) := by
  unfold enclosureInputChange
  (try dsimp only)
  (repeat' split) <;> simp_all (maxDischargeDepth := 40)

@[simp] theorem enclosureChanges_keeps (h : Keeps B K F L c₀ q₀ r₀ none s) :
    Keeps B K F L c₀ q₀ r₀ none (enclosureChanges s) := by
  unfold enclosureChanges
  (try dsimp only)
  (repeat' split) <;> simp_all (maxDischargeDepth := 40)

@[simp] theorem settingGetRequest_keeps (a : BlockArg) (h : Keeps B K F L c₀ q₀ r₀ none s) :
    Keeps B K F L c₀ q₀ r₀ none (settingGetRequest a s).2 := by
  unfold settingGetRequest
  (try dsimp only)
  (repeat' split) <;> simp_all (maxDischargeDepth := 40)

theorem powerPut_keeps (h : Keeps B K F L c₀ q₀ r₀ none s) : Staged B K F L c₀ q₀ r₀ (powerPut s) := by
  unfold powerPut
  split
  · exact ⟨_, h⟩
  · dsimp only
    split
    · exact stage1Expires_keeps (onPsv_keeps h (by simp))
    · exact ⟨_, onPsv_keeps h (by simp)⟩


@[simp] theorem controlPut_keeps (old : ControlSettings) (h : Keeps B K F L c₀ q₀ r₀ none s) :
    Keeps B K F L c₀ q₀ r₀ none (controlPut old s) := by
  unfold controlPut
  (try dsimp only)
  (repeat' split) <;> simp_all (maxDischargeDepth := 40)

@[simp] theorem rerunAttempt_stopped (h : Keeps B K F L c₀ q₀ r₀ none s) : Keeps B K F L c₀ q₀ r₀ none (rerunAttempt s) := by
  refine keeps_inert h rerunAttempt_keeps fun hs => ?_
  unfold rerunAttempt
  simp [hs.2.1.1]
theorem putEffect_keeps (b : BlockId) (old : Settings) (h : Keeps B K F L c₀ q₀ r₀ none s) : Staged B K F L c₀ q₀ r₀ (putEffect b old s) := by
  unfold putEffect
  split
  · exact ⟨_, rerunAttempt_stopped h⟩
  · split
    · exact ⟨_, h⟩
    · exact powerPut_keeps h
  · split
    · exact ⟨_, h⟩
    · exact ⟨_, endLoopback_keeps _ h⟩
  · exact ⟨_, controlPut_keeps _ h⟩
  · exact ⟨_, h⟩



@[simp] theorem takeHeldOffHook_keeps (p : PortId) (h : Keeps B K F L c₀ q₀ r₀ none s) :
    Keeps B K F L c₀ q₀ r₀ none (takeHeldOffHook p s) := by
  have h1 : Keeps B K F L c₀ q₀ r₀ none (s.onPort p fun q => { q with heldOffHook := false }) := by
    apply onPort_keeps h <;> simp
  unfold takeHeldOffHook
  dsimp only
  split
  · split
    · rename_i hs; exact offhookWakes_keeps p (fun _ => by rw [hs]; rfl) (not_two h1 hs (by decide)) h1
    · rename_i hs; exact ringTrip_keeps p (fun _ => by rw [hs]; rfl) (not_two h1 hs (by decide)) h1
    · exact h1
  · exact h

@[simp] theorem becomeActive_keeps (w : Wake) (h : Keeps B K F L c₀ q₀ r₀ none s) :
    Keeps B K F L c₀ q₀ r₀ none (becomeActive w s) := by
  unfold becomeActive
  (try dsimp only)
  (repeat' split) <;> simp_all (maxDischargeDepth := 40)

/-! ## The commands -/

/-- The part keeps its invariants, whatever its settings and replies. -/
def State.Good (B K F L : Prop) (q₀ : List Instr) (s : State) : Prop := ∃ c₀ r₀, Keeps B K F L c₀ q₀ r₀ none s

theorem Good.weaken {L' : Prop} (hl : L' → L) (h : Good B K F L q₀ s) : Good B K F L' q₀ s := by
  obtain ⟨c, r, h⟩ := h
  exact ⟨c, r, h.store, h.queue, h.replies, h.pair, h.bounds, h.link, h.distinct, h.single, h.two, h.rest, h.place, fun l => h.held (hl l)⟩
theorem Keeps.good (h : Keeps B K F L c₀ q₀ r₀ none s) : Good B K F L q₀ s := ⟨c₀, r₀, h⟩

theorem onSst_keeps (h : Keeps B K F L c₀ q₀ r₀ none s) (f : Sst → Sst) : Keeps B K F L (f c₀.1, c₀.2) q₀ r₀ none (s.onSst f) :=
  ⟨congrArg (fun x : Sst × HoldStage => (f x.1, x.2)) h.store, h.queue, h.replies, h.pair, h.bounds, h.link, h.distinct, h.single, h.two, h.rest, h.place, h.held⟩


/-- What changes the settings keeps everything else. -/
def State.Fine (B K F L : Prop) (q₀ : List Instr) (r₀ : List Reply) (s : State) : Prop := ∃ c₀, Keeps B K F L c₀ q₀ r₀ none s

theorem Staged.fine (h : Staged B K F L c₀ q₀ r₀ s) : Fine B K F L q₀ r₀ s := by
  obtain ⟨g, h⟩ := h
  exact ⟨_, h⟩

theorem failedEntry_fine (i : SaveItem) (h : Keeps B K F L c₀ q₀ r₀ none s) : Fine B K F L q₀ r₀ (failedEntry i s) := by
  unfold failedEntry
  dsimp only
  split
  · exact ⟨_, onSst_keeps (choose_keeps h 2) _⟩
  · exact ⟨_, choose_keeps h 2⟩

theorem blockWritten_fine (good : Bool) (b : BlockId) (h : Keeps B K F L c₀ q₀ r₀ none s) : Fine B K F L q₀ r₀ (blockWritten good b s) := by
  unfold blockWritten
  split
  · exact ⟨_, onSst_keeps h _⟩
  · obtain ⟨c, hc⟩ := failedEntry_fine (.block b) h
    exact ⟨_, report_keeps _ _ _ _ hc⟩

theorem locksWritten_fine (good : Bool) (l : Bool × Bool) (h : Keeps B K F L c₀ q₀ r₀ none s) : Fine B K F L q₀ r₀ (locksWritten good l s) := by
  unfold locksWritten
  split
  · exact ⟨_, onSst_keeps h _⟩
  · exact failedEntry_fine _ h

theorem saveEnds_fine (rs : List (BlockId × Bool)) (g : Bool) (h : Keeps B K F L c₀ q₀ r₀ none s) : Fine B K F L q₀ r₀ (saveEnds rs g s) := by
  have h1 := fun n => notice_keeps n (onSst_keeps h fun t => { t with store := .idle })
  unfold saveEnds
  dsimp only
  repeat' split
  all_goals first
    | exact ⟨_, h1 _⟩
    | exact ⟨_, clearFault_keeps _ _ (h1 _)⟩
    | exact ⟨_, clearFault_keeps _ _ (clearFault_keeps _ _ (h1 _))⟩

theorem saveWriteDone_fine (good : Bool) (h : Keeps B K F L c₀ q₀ r₀ none s) : Fine B K F L q₀ r₀ (saveWriteDone good s) := by
  unfold saveWriteDone
  split
  · split
    · obtain ⟨c, hc⟩ := blockWritten_fine good _ h
      exact ⟨_, onSst_keeps hc _⟩
    · obtain ⟨c, hc⟩ := locksWritten_fine good _ h
      exact saveEnds_fine _ _ hc
  · exact ⟨_, h⟩

theorem settingPut_fine (a : PutArg) (h : Keeps B K F L c₀ q₀ r₀ none s) : Fine B K F L q₀ r₀ (settingPutRequest a s).2 := by
  unfold settingPutRequest
  split
  · exact ⟨_, h⟩
  · dsimp only
    repeat' split
    all_goals first
      | exact ⟨_, h⟩
      | exact Staged.fine (putEffect_keeps _ _ (onSst_keeps h _))

theorem settingsSave_fine (h : Keeps B K F L c₀ q₀ r₀ none s) : Fine B K F L q₀ r₀ (settingsSaveRequest s).2 := by
  unfold settingsSaveRequest
  repeat' split
  all_goals first
    | exact ⟨_, h⟩
    | exact ⟨_, onSst_keeps h _⟩

theorem settingsLock_fine (n : Nat) (h : Keeps B K F L c₀ q₀ r₀ none s) : Fine B K F L q₀ r₀ (settingsLockRequest n s).2 := by
  unfold settingsLockRequest
  dsimp only
  split
  · exact ⟨_, h⟩
  · dsimp only
    exact ⟨_, onSst_keeps h _⟩

theorem finishLoading_fine (u : BitVec 10) (h : Keeps B K F L c₀ q₀ r₀ none s) : Fine B K F L q₀ r₀ (finishLoading u s) := by
  unfold finishLoading
  dsimp only
  have h1 := portLoaded_keeps (powerLoaded_keeps (portsLoaded_keeps (linkLoaded_keeps (onSst_keeps h (Sst.load u)))))
  exact ⟨_, cutoffCheck_keeps (startFaults_keeps (reportBad_keeps _ (startStage_keeps (startReport_keeps h1))))⟩

/-! ### Starts -/

theorem port_start_bounded (st : PortState) (d : Option DisableCause) (b : Bool) : (Port.start st d b).bounded := by
  simp [Port.start, Port.bounded, Voice.bounded, Voice.start]

theorem startBlocks_good (reason : StartReason) {flg : Flg} (hf : flg.bounded) (hd : flg.distinct) (m : Bool) (b : Nat) (e : Bool)
    (h : s.pending = q₀) : Good B K F (stageAtStart m b = .lifeline) q₀ (startBlocks reason flg m b e s) := by
  refine ⟨_, _, rfl, h, rfl, fun _ => ?_, fun _ => ?_, fun _ => ⟨fun _ => ⟨⟨rfl, ⟨rfl, rfl, rfl, rfl⟩, rfl, rfl, rfl⟩, rfl⟩, fun e => nomatch e⟩, fun _ => hd, fun _ => List.Pairwise.nil, fun _ => rfl, (fun _ h => nomatch h), fun _ => rfl,
    fun l => ⟨l, ⟨rfl, ⟨rfl, rfl, rfl, rfl⟩, rfl, rfl, rfl⟩, ⟨rfl, rfl, fun _ => rfl, fun _ h => nomatch h⟩, rfl, rfl⟩⟩
  · simp [startBlocks, Pac.start, Pac.exclusive]
  · refine ⟨⟨by simp [startBlocks, Mpt.start, Mpt.bounded], hf, by simp [startBlocks, Lks.start, Lks.bounded, Payload.start]⟩,
      ⟨port_start_bounded _ _ _, port_start_bounded _ _ _, by simp [startBlocks, Ltu.start, Ltu.bounded]⟩, ?_, ?_⟩
    · simp [startBlocks, Rsc.start]
    · simp [startBlocks, Mcr.start]

theorem fullReset_good (reason : StartReason) (h : Good B K F L q₀ s) :
    Good B K F (L ∧ (fullReset reason s).psv.stage = .lifeline) q₀ (fullReset reason s) := by
  obtain ⟨c, r, h⟩ := h
  unfold fullReset; split
  · exact Good.weaken And.left (Keeps.good h)
  · exact Good.weaken And.right (startBlocks_good _ (flg := s.flg.fullReset) (by simp [Flg.fullReset]) List.Pairwise.nil _ _ _ h.queue)


theorem checked_bounded (r : Retention) (a b : Bool) : (Flg.checked r a b).bounded := by
  unfold Flg.bounded Flg.checked
  dsimp only
  split <;> simp [faultMax]

theorem checked_distinct (r : Retention) (a b : Bool) : (Flg.checked r a b).distinct := by
  unfold Flg.distinct Flg.checked
  dsimp only
  split <;> simp

theorem checkedStart_good (reason : StartReason) (m : Bool) (v : Nat) (e a b : Bool) (h : Good B K F L q₀ s) :
    Good B K F ((checkedStart reason m v e a b s).psv.stage = .lifeline) q₀ (checkedStart reason m v e a b s) := by
  obtain ⟨_, _, h⟩ := h
  exact startBlocks_good _ (checked_bounded _ _ _) (checked_distinct _ _ _) _ _ _ h.queue


theorem losePower_good (h : Good B K F L q₀ s) : Good B K F ((losePower s).psv.stage = .lifeline) q₀ (losePower s) := by
  obtain ⟨_, _, h⟩ := h
  obtain ⟨c, r, k⟩ := startBlocks_good s.sst.reason
    (flg := { s.flg.fullReset with retention := { s.flg.retention with recordGood := s.flg.retention.recordGood && !s.flg.writing } })
    (by simp [Flg.fullReset]) List.Pairwise.nil s.psv.mainsInput s.psv.batteryInput s.psv.enclosureInputOpen h.queue
  exact ⟨c, r, k.store, k.queue, k.replies, k.pair, k.bounds, k.link, k.distinct, k.single, k.two, k.rest, k.place, k.held⟩


theorem stopPart_good (h : Good B K F L q₀ s) : Good B K F L q₀ (stopPart s) := by
  obtain ⟨c, r, h⟩ := h
  have h1 : Keeps B K F L c q₀ [] (some (s.pac.place, s.pac.place)) (freeTest (s.onMpt fun m =>
      { m with rx := .hunt, replies := [], sending := none, notices := [], held := [] })) :=
    freeTest_keeps ⟨h.store, h.queue, rfl, h.pair, fun b => ⟨⟨by simp [Mpt.bounded], (h.bounds b).1.2⟩, (h.bounds b).2⟩, h.link, h.distinct, h.single,
      h.two, h.rest, fun f => ⟨rfl, h.place f⟩, h.held⟩
  unfold stopPart
  dsimp only
  generalize freeTest _ = t at h1
  split
  · rename_i hr
    refine ⟨_, _, onPsv_keeps (onSst_keeps (c₀ := c) (r₀ := []) ?_ _) (by simp)⟩
    simp only [State.restsIn, Bool.and_eq_true, decide_eq_true_eq, Option.isNone_iff_eq_none] at hr
    have hp : s.pac.place = if s.pac.copperActive then .copperActive else .copperIdle := by simp [hr]
    have hq : F → t.pac.relay.move = none ∧ t.pac.relay.pos = .copper := by
      intro f
      have ht := (h1.place f).1
      rw [hp] at ht
      rw [Pac.place_def] at ht
      cases hx : t.pac.relay.move <;> cases hy : t.pac.relay.pos <;> cases hz : s.pac.copperActive <;> simp_all
    have h2 := keeps_none h1
    refine ⟨h2.store, h2.queue, h2.replies, h2.pair, h2.bounds, fun k => ⟨(h2.link k).1, fun e => nomatch e⟩, h2.distinct, h2.single, h2.two, fun f => ?_, fun f => ?_, fun l => ?_⟩
    · simp [State.onPac]
    · have := h2.place f
      simp_all [State.placed, State.onPac]
    · have x := h2.held l
      exact ⟨x.1, x.2.1, by simp [State.onPac, x.2.2.1.1], x.2.2.2⟩
  · rename_i hr
    refine ⟨_, _, onPsv_keeps (onSst_keeps (c₀ := c) (r₀ := []) ?_ _) (by simp)⟩
    have hc : F → t.pac.copperActive = false := by
      intro f
      cases hx : t.pac.copperActive
      · rfl
      · have e := h1.rest f hx
        rw [(h1.place f).1, Pac.place_def] at e
        simp only [State.restsIn] at hr
        cases hx : s.pac.relay.move <;> cases hy : s.pac.relay.pos <;> simp_all
    refine move_keeps h1 id ?_ (fun _ x => ⟨x.1, fun e => nomatch e⟩) (fun f => by simp [hc f]) (fun f => by simp [hc f]) (fun _ x => by simp [x.1])
    simp [Port.toSwitching, Voice.close]
    omega


/-! ### Frames -/

theorem Good.keeps {f : State → State} (hf : ∀ c₀ r₀ s, Keeps B K F L c₀ q₀ r₀ none s → Keeps B K F L c₀ q₀ r₀ none (f s)) (h : Good B K F L q₀ s) : Good B K F L q₀ (f s) := by
  obtain ⟨c, r, h⟩ := h
  exact ⟨c, r, hf _ _ _ h⟩

theorem pump_good (h : Good B K F L q₀ s) : Good B K F L q₀ (pump s) := by
  obtain ⟨c, r, h⟩ := h
  unfold pump; split
  · exact ⟨c, r, h⟩
  · split
    · rename_i x xs hr
      refine ⟨c, xs, h.store, h.queue, rfl, h.pair, fun b => ⟨⟨?_, (h.bounds b).1.2⟩, (h.bounds b).2⟩, h.link, h.distinct, h.single, h.two, h.rest, h.place, h.held⟩
      have := (h.bounds b).1.1.1
      have h3 := (h.bounds b).1.1
      simp only [State.onMpt, Mpt.bounded] at *
      rw [hr] at h3
      simp at h3
      omega
    · split
      · refine ⟨c, r, ?_⟩
        apply onMpt_keeps
        · apply onPort_keeps h
          · simp; omega
          · simp
          · simp
        · simp [Mpt.bounded]
      · split
        · exact ⟨c, r, h⟩
        · refine ⟨c, r, onMpt_keeps h (eq_true ?_)⟩
          unfold Mpt.sendNotice Mpt.bounded; split
          · exact ⟨id, rfl⟩
          · refine ⟨fun hb => ?_, ?_⟩ <;> split <;> simp_all
            omega

theorem takeRequest_good {α : Type} (code : Byte) (always : Bool) (decode : List Byte → Option α)
    {body : α → State → Answer × State} (hb : ∀ a s c₀ r₀, Keeps B K F L c₀ q₀ r₀ none s → Fine B K F L q₀ r₀ (body a s).2) (tag : Byte)
    (args : List Byte) (h : Good B K F L q₀ s) : Good B K F L q₀ (takeRequest code always decode body tag args s) := by
  obtain ⟨c, r, h⟩ := h
  have reply : ∀ {t : State} {c₀ r₀} (tag code a), Keeps B K F L c₀ q₀ r₀ none t → r₀.length ≤ 1 → Good B K F L q₀ (queueReply tag code a t) := by
    intro t c₀ r₀ tag code a h hl
    refine ⟨_, _, h.store, h.queue, rfl, h.pair, fun b => ⟨⟨?_, (h.bounds b).1.2⟩, (h.bounds b).2⟩, h.link, h.distinct, h.single, h.two, h.rest, h.place, h.held⟩
    have := (h.bounds b).1.1.2
    have hr := h.replies
    simp only [queueReply, State.onMpt, Mpt.bounded, List.length_append, List.length_singleton, hr, replyMax]
    exact ⟨by omega, this⟩
  have hr := h.replies
  unfold takeRequest
  split
  · refine ⟨c, r, ?_⟩
    apply onMpt_keeps h; simp [Mpt.bounded]
  · exact reply _ _ _ h (by subst hr; simp_all)
  · split
    · exact reply _ _ _ h (by subst hr; simp_all)
    · split
      · exact reply _ _ _ h (by subst hr; simp_all)
      · obtain ⟨c', h'⟩ := hb _ s _ _ h
        exact reply _ _ _ h' (by subst hr; simp_all)

theorem takeFrame_good {take : State → State} (ht : ∀ s, Good B K F L q₀ s → Good B K F L q₀ (take s)) (h : Good B K F L q₀ s) : Good B K F L q₀ (takeFrame take s) := by
  unfold takeFrame
  apply pump_good
  apply Good.keeps (fun _ _ _ h => endAutonomous_keeps h)
  apply ht
  exact Good.keeps (fun _ _ _ h => restartSilence_keeps h) h

theorem arriveFrame_good (c : Instr) {take : State → State} (ht : ∀ s, Good B K F L q₀ s → Good B K F L q₀ (take s)) (h : Good B K F L q₀ s) : Good B K F L q₀ (arriveFrame c take s) := by
  have h1 : Good B K F L q₀ (wakeCause .hostFrame none (s.onMpt fun m => { m with rx := .hunt, rxLast := s.clock })) := by
    apply Good.keeps (fun _ _ _ h => wakeCause_keeps _ _ h)
    apply Good.keeps (f := fun s => s.onMpt fun m => { m with rx := .hunt, rxLast := s.clock }) _ h
    intro _ _ _ h; apply onMpt_keeps h; simp [Mpt.bounded]
  unfold arriveFrame
  dsimp only
  split
  · apply Good.keeps (f := fun s => s.onMpt fun m => { m with held := m.held ++ [c] }) _ h1
    intro _ _ _ h; apply onMpt_keeps h; simp [Mpt.bounded]
  · exact takeFrame_good ht h1

theorem finish_good {f : State} {t : State} (h : Good B K F L q₀ f) (e : finish f = .next t) : Good B K F L q₀ t := by
  injection e with e; subst e; exact pump_good h

theorem whenAlive_good {f : State → State} (hf : ∀ s, Good B K F L q₀ s → Good B K F L q₀ (f s)) (h : Good B K F L q₀ s) : Good B K F L q₀ (whenAlive f s) := by
  unfold whenAlive; split
  · exact hf _ h
  · exact h

theorem frame_good {t : State} (c : Instr) {take : State → State} (ht : ∀ s, Good B K F L q₀ s → Good B K F L q₀ (take s)) (h : Good B K F L q₀ s)
    (e : frame c take s = .next t) : Good B K F L q₀ t :=
  finish_good (whenAlive_good (fun _ h => arriveFrame_good c ht h) h) e

theorem event_good {t : State} {f : State → State} (hf : ∀ s, Good B K F L q₀ s → Good B K F L q₀ (f s)) (h : Good B K F L q₀ s)
    (e : event f s = .next t) : Good B K F L q₀ t :=
  finish_good (whenAlive_good hf h) e

/-- An event that may change the holdover stage. -/
theorem finish_staged {f t : State} (h : Good B K F (L ∧ f.psv.stage = .lifeline) q₀ f) (e : finish f = .next t) :
    Good B K F (L ∧ t.psv.stage = .lifeline) q₀ t := by
  injection e with e
  subst e
  rw [pump_psv]
  exact pump_good h
theorem event_staged {t : State} {f : State → State} (hf : ∀ s, Good B K F L q₀ s → Good B K F (L ∧ (f s).psv.stage = .lifeline) q₀ (f s))
    (h : Good B K F L q₀ s) (e : event f s = .next t) : Good B K F (L ∧ t.psv.stage = .lifeline) q₀ t := by
  refine finish_staged ?_ e
  unfold whenAlive
  split
  · exact hf _ h
  · exact Good.weaken And.left h
theorem Staged.good (h : Staged B K F L c₀ q₀ r₀ s) : Good B K F L q₀ s := by
  obtain ⟨g, h⟩ := h
  exact ⟨_, _, h⟩
theorem declareMains_good (present : Bool) (h : Good B K F L q₀ s) :
    Good B K F (L ∧ (declareMains present s).psv.stage = .lifeline) q₀ (declareMains present s) := by
  obtain ⟨c, r, h⟩ := h
  obtain ⟨g, k⟩ := declareMains_keeps present h
  exact ⟨_, _, keeps_weaken (fun l => ⟨l.1, (congrArg Prod.snd k.store).symm.trans l.2⟩) k⟩

theorem event_keeps {t : State} {f : State → State} (hf : ∀ c₀ r₀ s, Keeps B K F L c₀ q₀ r₀ none s → Keeps B K F L c₀ q₀ r₀ none (f s)) (h : Good B K F L q₀ s)
    (e : event f s = .next t) : Good B K F L q₀ t :=
  event_good (fun _ h => Good.keeps hf h) h e

theorem clearRetained_keeps (h : Keeps B K F L c₀ q₀ r₀ none s) : Keeps B K F L c₀ q₀ r₀ none (s.onFlg Flg.clearRetained) := by
  apply onFlg_keeps h <;> simp [Flg.clearRetained]

/-! ### Commands that are one operation each -/

theorem partReset_keeps (n : Nat) (h : Keeps B K F L c₀ q₀ r₀ none s) : Keeps B K F L c₀ q₀ r₀ none (partReset n s).2 := by
  unfold partReset; split <;> first | exact h | exact linesReset_keeps h

theorem settled_keeps (h : Keeps B K F L c₀ q₀ r₀ none s) : Keeps B K F L c₀ q₀ r₀ none (onExpiry (s.ltu.run.bind (·.settleEnd)) (fun s => s.onLtu (Ltu.measure s.clock)) s) := by
  refine onExpiry_keeps (fun s h => ?_) h
  apply onLtu_keeps h
  · simp only [Ltu.measure, Ltu.bounded]; cases hq : s.ltu.queue <;> simp
  · simp only [Ltu.measure, Ltu.single]
    cases hq : s.ltu.queue <;> simp
    exact fun a b => ⟨a, b⟩
  · refine eq_true fun _ hq => ?_
    unfold Ltu.measure
    rw [hq]


theorem countDiscard_queues (bytes : List Byte) (m : Mpt) : (countDiscard bytes m).replies = m.replies ∧ (countDiscard bytes m).notices = m.notices := by
  unfold countDiscard
  repeat' split
  all_goals first | exact ⟨rfl, rfl⟩ | (dsimp only; repeat' split) <;> exact ⟨rfl, rfl⟩

theorem frameDiscard_keeps (bytes : List Byte) (h : Keeps B K F L c₀ q₀ r₀ none s) : Keeps B K F L c₀ q₀ r₀ none (s.onMpt fun m => { countDiscard bytes m with rx := .hunt, rxLast := s.clock }) := by
  apply onMpt_keeps h
  simp [countDiscard_queues]

theorem lineError_keeps (h : Keeps B K F L c₀ q₀ r₀ none s) : Keeps B K F L c₀ q₀ r₀ none (s.onMpt (Mpt.lineError s.clock)) := by
  apply onMpt_keeps h
  unfold Mpt.lineError
  repeat' split
  all_goals simp

theorem loadingDone_good (u : BitVec 10) (h : Good B K F L q₀ s) : Good B K F L q₀ (if s.loading then finishLoading u s else s) := by
  obtain ⟨c, r, h⟩ := h
  split
  · obtain ⟨c, h⟩ := finishLoading_fine u h; exact ⟨c, r, h⟩
  · exact ⟨c, r, h⟩

theorem retainedWriteDone_good (h : Good B K F L q₀ s) : Good B K F L q₀ (retainedWriteDone s) := by
  unfold retainedWriteDone
  dsimp only
  have : Good B K F L q₀ (s.onFlg fun f => { f with writing := false }) := Good.keeps (f := fun s => s.onFlg fun f => { f with writing := false }) (fun _ _ _ h => by apply onFlg_keeps h <;> simp) h
  repeat' split
  all_goals first | exact h | exact stopPart_good this | exact this

theorem faultHistory_keeps (p : PortId) (h : Keeps B K F L c₀ q₀ r₀ none s) : Keeps B K F L c₀ q₀ r₀ none (onExpiry (s.port p).historyEnd (State.onPort p fun q => { q with history := q.history.tail }) s) := by
  refine onExpiry_keeps (fun s h => ?_) h
  apply onPort_keeps h
  · simp; intros; simp_all; omega
  · simp
  · simp


theorem transmitterFree_good (h : Good B K F L q₀ s) :
    Good B K F (L ∧ (transmitterFree s).psv.stage = .lifeline) q₀ (transmitterFree s) := by
  have h1 : Good B K F L q₀ (s.onMpt fun m => { m with sending := none }) := Good.keeps (f := fun s => s.onMpt fun m => { m with sending := none }) (fun _ _ _ h => by apply onMpt_keeps h; simp) h
  unfold transmitterFree
  split
  · exact Good.weaken And.left h
  · dsimp only
    split
    · unfold afterReply
      split
      · exact Good.weaken And.left h1
      · split
        · exact Good.weaken And.left (Good.keeps (fun _ _ _ h => enterQuiescent_keeps h) h1)
        · exact Good.weaken And.left h1
      · exact fullReset_good _ h1
    · exact Good.weaken And.left h1


end Sys2Proof.Machine
end

