-- ==== Sys2Proof/WellFormed.lean ====
section
/-! DEFINITION. Which commands can occur: the ranges the manual gives to what a command carries. The meanings do not
rest on them. -/

namespace Sys2Proof

/-- The body of a good frame holds at most 240 bytes; a request's begins with its code (R189, R201). -/
def argsFit (args : List Byte) : Bool := args.length ≤ 239
def bodyFits (body : List Byte) : Bool := body.length ≤ 240

/-- The request codes of the catalogue (11 section 11.7). -/
def catalogueCodes : List Byte :=
  [0x01, 0x02, 0x03, 0x04, 0x05, 0x10, 0x11, 0x12, 0x13, 0x20, 0x21, 0x22, 0x23, 0x24, 0x25, 0x28, 0x30, 0x31, 0x32,
   0x33, 0x34, 0x35, 0x36, 0x37, 0x38, 0x39, 0x3A, 0x3C, 0x40, 0x41, 0x42, 0x48, 0x49, 0x4A, 0x4B, 0x4C, 0x50, 0x51,
   0x58, 0x59]

/-- The body is empty or begins with a code the catalogue does not hold (R192). -/
def codeUnknown (body : List Byte) : Bool :=
  match body with
  | [] => true
  | code :: _ => !catalogueCodes.contains code

/-- A battery measurement lies in 0 to 20 000 mV (R174). -/
def batteryFits (mv : Nat) : Bool := mv ≤ 20000

/-- A line report: its errored blocks were received, the margin lies in 0 to 500 (R46). -/
def LineReport.fits (r : LineReport) : Bool :=
  r.unguarded + r.guarded ≤ r.blocks && (r.blocks < 4294967296 && r.margin ≤ 500)

/-- One sample of every value of a kind, of which there are one to six (R132, R138). -/
def samplesFit (samples : List Int) : Bool :=
  (1 ≤ samples.length && samples.length ≤ 6) && samples.all (fun x => -2147483648 ≤ x && x < 2147483648)

/-- The command can occur. -/
def Instr.wellFormed : Instr → Bool
  | .heartbeat _ a | .getStatus _ a | .partReset _ a | .sleep _ a | .noticeMask _ a
  | .settingGet _ a | .settingPut _ a | .settingsSave _ a | .settingsLock _ a
  | .linkEnable _ a | .linkDisable _ a | .linkRetrain _ a | .linkRungSet _ a | .linkStatus _ a | .linkHistory _ a
  | .lifelineSelect _ a | .portEnable _ a | .portDisable _ a | .portRing _ a | .portConnect _ a | .portRelease _ a
  | .portTone _ a | .portDigitsRead _ a | .portStatus _ a | .seqPause _ a | .seqResume _ a | .seqStop _ a
  | .ringSupplyReset _ a | .testRequest _ a | .testCancel _ a | .testResult _ a
  | .faultRead _ a | .faultAck _ a | .faultPurge _ a | .retainedRead _ a | .retainedClear _ a
  | .remoteStatus _ a | .remoteCountsClear _ a | .powerStatus _ a | .supplyWatchSet _ a => argsFit a
  | .unknownRequestCode _ b => bodyFits b && codeUnknown b
  | .voiceDown _ b => bodyFits b
  | .frameDiscard bytes => 2 ≤ bytes.length && bytes.length ≤ 246
  | .powerOn _ mv _ _ _ => batteryFits mv
  | .batteryReading mv | .thresholdMet mv => batteryFits mv
  | .dormantWake mv _ _ => batteryFits mv
  | .attained down up margin => down < 65536 && (up < 65536 && margin < 65536)
  | .hazard peakMv => 120000 < peakMv && peakMv < 4294967296
  | .lineReport r | .intervalClose r | .consecutiveSevereLimit r | .stepUpClockFull r => r.fits
  | .impulseEvent durationMs _ => 1 ≤ durationMs && durationMs ≤ 65535
  | .breakEnd _ lengthMs => 1 ≤ lengthMs
  | .measurePeriodEnd xs | .repeatComplete xs => samplesFit xs
  | _ => true

end Sys2Proof
end

