-- ==== Sys2Proof/Tests/Slice0.lean ====
section
/-! SUPPORT. Tests: terms that WellFormed refuses, single steps on small states, and for every obligation with
hypotheses a state and operands that meet them. -/

namespace Sys2Proof.Tests

open Sys2Proof Sys2Proof.Machine

/-! ## Small states -/

/-- Three rungs: 1 and 3 FULL, 6 REDUCED, the floor. -/
def ladder : List RungRecord :=
  [⟨1, 16000, 1600, 60, 0, 0, .full⟩, ⟨3, 8000, 800, 60, 0, 0, .full⟩, ⟨6, 2000, 400, 30, 0, 0, .reduced⟩]

/-- The part after reset, its settings loaded, every block GOOD, the link OFF on rung 3. -/
def base : State :=
  { State.reset with
    sst :=
      { State.reset.sst with
        store := .idle
        contents := { Settings.unloaded with link := { ladder := ladder, params := LinkParams.builtIn } }
        info := Vector.ofFn fun n : Fin 9 => { gen := 4, dirty := false, locked := n = 0, good := true } }
    lks := { Lks.start with ladder := ladder, rung := 3 } }

/-- What a command leaves. -/
def after (c : Instr) (s : State) : State := match exec c s with | .next t => t | _ => s

def onLink (f : Lks → Lks) : State := base.onLks f
def linkIn (st : LinkState) : State := onLink fun k => { k with state := st }
def portIn (st : PortState) : State := base.onPort .two fun q => { q with state := st }
def stageIn (st : HoldStage) : State := base.onPsv fun p => { p with stage := st }

/-- CARRYING, the pair held by the link, an interval begun. -/
def carrying : State :=
  let s := linkIn .carrying
  let t := beginInterval { s with pac := { s.pac with link := { state := .held, since := 0 } } }
  t.onLks fun k => { k with carryingSince := some 0, reportAt := 1000 }

/-- A test of one repeat. -/
def entry (job : Nat) (kind : TestKind) (origin : Origin) (phase : TestPhase) : TestEntry :=
  { job := job, kind := kind, origin := origin, repeats := 1, disruptive := true, arrival := 0, phase := phase }

/-- A quiet-noise test holds the pair. -/
def testing (run : TestRun) (phase : TestPhase) : State :=
  { base with
    ltu := { base.ltu with queue := [entry 1 .quietNoise .host phase], nextJob := 2, run := some run }
    pac :=
      { base.pac with
        test := { state := .held, since := 0 }, testRelayClosed := true
        testInfo := some { job := 1, origin := .host, disruptive := true } } }

/-- A sequencer of port 2 that runs a program. -/
def seqIn (phase : SeqPhase) (program segment : Nat) (repeats : Option Nat) : State :=
  base.onSeq .two fun q =>
    { q with
      run := some
        { phase := phase, program := program, segment := segment, endAt := 10, left := 0, repeats := repeats, pass := 1
          pending := none, burst := false } }

def relayIn (r : Relay) : State := base.onPac fun p => { p with relay := r }
def atCopper : Relay := { pos := .copper, move := none, reason := .start, deferred := false }
def atLocal : Relay := { atCopper with pos := .localPort }
def moving (target : RelayPos) : Relay :=
  { atCopper with move := some { target := target, doneAt := 30, reason := .host, carriesOut := false } }

def heldBy (st : LinkState) : State :=
  { linkIn st with pac := { base.pac with link := { state := .held, since := 0 } } }
def trialOf (watch : Option Nat) : Trial := { former := 3, target := 1, watchEnd := watch }
def report0 (unguarded margin : Nat) (lost : Bool) : LineReport := ⟨4000, unguarded, 0, margin, lost⟩
def interval0 : Interval := (carrying.lks.interval).getD
  ⟨0, 0, 0, 0, 0, 0, 0, 0, 0, 0, 0, 0, 0, 0, 0, none⟩

def portWith (st : PortState) (f : Port → Port) : State := (portIn st).onPort .two f

def queueOf (n : Nat) : State :=
  base.onLtu fun l => { l with queue := (List.range n).map fun i => entry (i + 1) .insulation .remote .queued }

def record (n : Nat) (sev : Severity) (cleared : Option Nat) (acked : Bool) : FaultRecord :=
  { seq := BitVec.ofNat 16 n, code := .linkDown, source := .lks, severity := sev, firstAt := 0, lastAt := 0, count := 1
    detail := [], clearedAt := cleared, acked := acked }
def logOf (log : List FaultRecord) : State := base.onFlg fun f => { f with log := log }

def waitingTest : State :=
  { base with
    ltu := { base.ltu with queue := [entry 1 .quietNoise .host .claiming] }
    pac := { base.pac with test := { state := .waiting, since := 0 }, waitEnd := some 300000 } }
def absent (s : State) : State := s.onPac fun p => { p with absenceFrom := some 0, absenceTaken := false }
def absentLocal : State :=
  (absent (relayIn atLocal)).onPort .one fun q => { q with state := .idle }

/-! ## WellFormed refuses -/

theorem test_wellFormed_accepts :
    (Instr.heartbeat 1 []).wellFormed = true ∧ (Instr.batteryReading 20000).wellFormed = true
      ∧ (Instr.lineReport ⟨4000, 24, 3, 500, false⟩).wellFormed = true := by decide
theorem test_wellFormed_args : (Instr.faultPurge 1 (List.replicate 240 0)).wellFormed = false := by decide +kernel
theorem test_wellFormed_body : (Instr.voiceDown 1 (List.replicate 241 0)).wellFormed = false := by decide +kernel
theorem test_wellFormed_unknown :
    (Instr.unknownRequestCode 1 [0x59]).wellFormed = false ∧ (Instr.unknownRequestCode 1 [0x5A]).wellFormed = true
      ∧ (Instr.unknownRequestCode 1 []).wellFormed = true := by decide
theorem test_wellFormed_discard : (Instr.frameDiscard [0x00]).wellFormed = false := by decide
theorem test_wellFormed_battery :
    (Instr.batteryReading 20001).wellFormed = false ∧ (Instr.powerOn true 20001 false true true).wellFormed = false
      ∧ (Instr.dormantWake 20001 true true).wellFormed = false ∧ (Instr.thresholdMet 20001).wellFormed = false := by
  decide
theorem test_wellFormed_attained : (Instr.attained 65536 0 0).wellFormed = false := by decide
theorem test_wellFormed_hazard : (Instr.hazard 120000).wellFormed = false := by decide
theorem test_wellFormed_report :
    (Instr.lineReport ⟨10, 6, 5, 60, false⟩).wellFormed = false
      ∧ (Instr.intervalClose ⟨10, 0, 0, 501, false⟩).wellFormed = false := by decide
theorem test_wellFormed_impulse :
    (Instr.impulseEvent 0 false).wellFormed = false ∧ (Instr.impulseEvent 65536 true).wellFormed = false := by decide
theorem test_wellFormed_break : (Instr.breakEnd .one 0).wellFormed = false := by decide
theorem test_wellFormed_samples :
    (Instr.measurePeriodEnd []).wellFormed = false ∧ (Instr.repeatComplete [2147483648]).wellFormed = false := by decide

/-! ## The decoder: no row of the table gives bits -/

theorem test_decode_none : decodeTableWord 8 1 = none := by decide

/-! ## Single steps -/

/-- The example of R190. -/
theorem test_crc : crc [0x31, 0x32, 0x33, 0x34, 0x35, 0x36, 0x37, 0x38, 0x39] = 0x29B1#16 := by decide +kernel

theorem test_heartbeat :
    (after (.heartbeat 7 []) base).mpt.sending
      = some (.reply { tag := 7, code := 0x01, status := .ok, data := [0, 0, 0, 0, 0, 10, 0, 0, 0], after := .nothing }) := by
  decide

theorem test_request_while_loading :
    (after (.linkEnable 7 []) State.reset).mpt.sending
      = some (.reply { tag := 7, code := 0x20, status := .retry, data := [], after := .nothing }) := by decide

theorem test_link_enable :
    (after (.linkEnable 7 []) base).lks.state = .greeting
      ∧ (after (.linkEnable 7 []) base).lks.greetingEnd = some 20000
      ∧ (after (.linkEnable 7 []) base).pac.link.state = .held := by decide

theorem test_select_local :
    (after (.lifelineSelect 1 [1]) base).pac.relay.move.map (·.doneAt) = some 30
      ∧ (after (.lifelineSelect 1 [1]) base).hpc1.state = .switching := by decide

theorem test_test_request :
    (after (.testRequest 1 [3, 1, 1]) base).pac.testRelayClosed = true
      ∧ (after (.testRequest 1 [3, 1, 1]) base).ltu.run.bind (·.settleEnd) = some 50 := by decide

theorem test_mains_input : (after (.mainsInputChange false) base).psv.debounceEnd = some 2000 := by decide

theorem test_hazard :
    (after (.hazard 130000) base).pac.hazardEnd = some 30000
      ∧ (after (.hazard 130000) base).flg.retention.record.map (·.detail0) = some 130000#32 := by decide

/-- The hold does not end while the voltage is high, restarts as it falls, and then ends (R10, R11). -/
theorem test_hazard_fall :
    let high := { after (.hazard 130000) base with clock := 40000 }
    let low := after .hazardVoltageFall high
    (after .hazardHoldEnd high).pac.hazardEnd = some 30000 ∧ low.pac.hazardEnd = some 70000
      ∧ (after .hazardHoldEnd low).pac.hazardEnd = none ∧ (after .hazardHoldEnd low).clock = 70000 := by decide

/-- Off-hook is recognised when the current has flowed for the port's time (R71). -/
theorem test_offhook_time :
    let s := portWith .idle fun q => { q with loopClosed := true, loopSince := 100 }
    let t := after (.offhookRecognised .two) s
    t.clock = 100 + s.hpc2.settings.offHookMs ∧ t.hpc2.state = .offhook
      ∧ (after (.offhookRecognised .two) base).hpc2.state ≠ .offhook
      ∧ (dueEvents { s with clock := 100 + s.hpc2.settings.offHookMs } = [.offhookRecognised .two]
        ∧ dueEvents { s with clock := 99 + s.hpc2.settings.offHookMs } = []) := by decide

/-- PORT_RING is refused OFF_HOOK while the off-hook time runs; at its end it rings, and the off-hook is the ring trip
(R78, R79). -/
theorem test_ring_at_offhook :
    let at_ := fun ms =>
      { portWith .idle fun q => { q with loopClosed := true, loopSince := 100 } with
        clock := ms + base.hpc2.settings.offHookMs }
    (after (.portRing 1 [2, 0]) (at_ 99)).hpc2.state = .idle ∧ (after (.portRing 1 [2, 0]) (at_ 100)).hpc2.state = .ringing
      ∧ (after (.offhookRecognised .two) (after (.portRing 1 [2, 0]) (at_ 100))).hpc2.state = .offhook := by decide

/-- A break is a hang-up when it reaches the port's time (R72, R83), also where only its end is reported. -/
theorem test_hang_up :
    let s := portWith .offhook fun q => { q with offHook := true, loopSince := 100 }
    (after (.hangUp .two) s).clock = 100 + s.hpc2.settings.hangUpMs ∧ (after (.hangUp .two) s).hpc2.state = .idle
      ∧ (after (.breakEnd .two s.hpc2.settings.hangUpMs) s).hpc2.state = .idle
      ∧ (after (.breakEnd .two (s.hpc2.settings.hangUpMs - 1)) s).hpc2.state = .offhook := by decide

/-- The copper side by time: active after 40 ms of current, idle after 1 s without (R8). -/
theorem test_copper_side :
    let t := after .copperOffhook (base.onPort .one fun q => { q with loopClosed := true })
    (t.clock = 40 ∧ t.pac.copperActive = true ∧ t.pac.lifeline.state = .held)
      ∧ (let u := after .copperOnhook (t.onPort .one fun q => { q with loopClosed := false, loopSince := 500 })
         u.clock = 1500 ∧ u.pac.copperActive = false ∧ u.pac.lifeline.state = .free) := by decide

/-- HOWLER after 20 s, LOCKOUT after 60 s more, with the reduced feed (R70, R84). -/
theorem test_lockout :
    let t := after (.receiverOffHookTimeout .two) (portWith .offhook fun q => { q with receiverEnd := some 20000 })
    t.hpc2.state = .howler ∧ (after (.howlerTimeout .two) t).hpc2.state = .lockout
      ∧ (after (.howlerTimeout .two) t).clock = 80000 ∧ PortState.lockout.feed ≠ .full := by decide

theorem test_digit_pulses :
    (after (.pulseDigitEnd .two)
        ((portIn .offhook).onPort .two fun q =>
          { q with offHook := true, loopClosed := true, pulse := some ⟨10, 5, false⟩ })).hpc2.digits
      = [⟨0, .pulse, 0⟩] := by decide

theorem test_round_half : roundDiv .nearestEven (-24) 16 = -2 ∧ roundDiv .halfUp (-24) 16 = -1 := by decide

theorem test_seq_newer : newer 0x0000 0xFFFF = true ∧ newer 0x8000 0x0000 = false := by decide

/-! ## States and operands that meet the hypotheses of the obligations -/

def reply0 : Reply := { tag := 1, code := 0x01, status := .ok, data := [], after := .nothing }
def withReplies (rs : List Reply) : State := base.onMpt fun m => { m with replies := rs }
def sendingOf (a : AfterReply) (granted : Bool) : State :=
  { base with
    mpt := { base.mpt with sending := some (.reply { reply0 with after := a }) }
    psv := { base.psv with sleepGranted := granted } }
def quiescent : State := base.onPsv fun p => { p with mode := .quiescent }
def dormant : State := base.onPsv fun p => { p with mode := .dormant, dormantWakeAt := some 10000 }
def dark : State := { base with powered := false }
def frame0 : CaptureFrame := { seq := 0, samples := Vector.replicate 80 0, producedAt := 10 }
def captured (p : PortId) (ms : Nat) (s : State) : State :=
  s.onPort p fun q => { q with voice := { q.voice with capture := [{ frame0 with producedAt := ms }] } }
def noticed (lost : Nat) : State := base.onMpt fun m => { m with notices := [.autonomous 10 0], lost := lost }

theorem test_hyps_StepOnEmptyQueue :
    (base.pending = [] ∧ dueEvents base = [] ∧ base.powered = true) ∧ (dark.pending = [] ∧ dark.powered = false)
      ∧ dueEvents (base.onMpt fun m => { m with silenceEnd := some 0 }) = [.hostSilenceTimeout]
      ∧ dueEvents { base with mpt := { base.mpt with silenceEnd := some 0 }, pac := { base.pac with hazardEnd := some 0 } }
          = [.hostSilenceTimeout, .hazardHoldEnd] := by decide

theorem test_hyps_EveryCommandAnswersNextAndLeavesQueue : exec .lineError base = .next (after .lineError base) := rfl

theorem test_hyps_StepKeepsPairAndCapacities :
    (State.reset.pac.exclusive ∧ State.reset.bounded ∧ step State.reset = .next { State.reset with clock := 1 })
      ∧ State.reset.flg.distinct ∧ State.reset.ltu.single ∧ State.reset.followsRelay
      ∧ base.atRest ∧ (relayIn { atCopper with deferred := true }).atRest :=
  ⟨⟨by unfold Pac.exclusive; decide, by
    unfold State.bounded Mpt.bounded Flg.bounded Lks.bounded Port.bounded Voice.bounded Ltu.bounded; decide, rfl⟩,
    List.pairwise_singleton _ _, List.Pairwise.nil, by unfold State.followsRelay Pac.copperAtRest; decide,
    by unfold State.atRest Lks.stopped; decide, by unfold State.atRest Lks.stopped; decide⟩

theorem test_hyps_RequestBehindRepliesOrLoading :
    ((Instr.heartbeat 1 []).asRequest = some (1, 0x01) ∧ base.powered = true ∧ base.psv.mode = .active)
      ∧ (withReplies [reply0]).mpt.replies = [reply0] ∧ 2 ≤ (withReplies [reply0, reply0]).mpt.replies.length
      ∧ (State.reset.mpt.replies = [] ∧ State.reset.loading = true ∧ (Instr.sleep 1 []).answeredLoading = false
        ∧ (Instr.sleep 1 []).asRequest = some (1, 0x04)) := by decide

theorem test_hyps_FramesKeptInQuiescentAndLostWhenDead :
    ((Instr.voiceDown 1 []).isFrame = true ∧ quiescent.powered = true ∧ quiescent.psv.mode = .quiescent)
      ∧ (dark.powered = false ∧ Instr.lineError.reachesDeadPart = false) ∧ dormant.psv.mode = .dormant := by decide

/-- `base` takes requests: the hypotheses of HeartbeatStatusUnknownAnswered, FaultPurgeRemovesCleared,
LinkAndPowerStatusReplies, and of PartResetAndResetPin with scope 2, no save and no stop under way, or a stop. -/
theorem test_hyps_ready :
    base.ready ∧ base.alive = true ∧ 2 ≤ (2 : Byte).toNat ∧ base.sst.store.isSaving = false
      ∧ base.psv.stopping = false ∧ (base.onPsv fun p => { p with stopping := true }).psv.stopping = true := by
  unfold State.ready; decide

theorem test_hyps_MalformedRequestsAreBad : (3 : Byte) ≠ 1 ∧ (3 : Byte) ≠ 2 := by decide

theorem test_hyps_TransmitterServesAndEnds :
    ((sendingOf .nothing false).mpt.sending.isSome = true ∧ quiescent.psv.mode ≠ .active ∧ dark.powered = false)
      ∧ (base.mpt.sending = none ∧ base.alive = true ∧ base.mpt.replies = [] ∧ base.mpt.notices = []
        ∧ base.hpc1.voice.capture = [] ∧ base.hpc2.voice.capture = [])
      ∧ (withReplies [reply0]).mpt.replies = [reply0]
      ∧ ((captured .one 20 base).hpc1.voice.capture = [{ frame0 with producedAt := 20 }]
        ∧ ((captured .one 20 base).hpc2.voice.capture.head?.all fun g => 20 ≤ g.producedAt) = true)
      ∧ ((captured .two 10 (captured .one 20 base)).hpc2.voice.capture = [frame0]
        ∧ ((captured .two 10 (captured .one 20 base)).hpc1.voice.capture.head?.all fun f => 10 < f.producedAt) = true)
      ∧ (((noticed 0).mpt.autonomous = false ∧ (noticed 0).mpt.lost = 0 ∧ (noticed 0).mpt.notices = [.autonomous 10 0])
        ∧ (noticed 1).mpt.lost ≠ 0)
      ∧ (sendingOf .fullReset false).mpt.sending = some (.reply { reply0 with after := .fullReset })
      ∧ ((sendingOf .enterQuiescent true).psv.sleepGranted = true
        ∧ (sendingOf .enterQuiescent false).psv.sleepGranted = false) := by decide

theorem test_hyps_ReceiverPhasesAndCounts :
    (base.alive = true ∧ base.mpt.rx = .hunt) ∧ (after (.syncByte 0xC5) base).mpt.rx ≠ .hunt
      ∧ (2 ≤ [(0xF1 : Byte), 0x00].length ∧ 240 < (0xF1 : Byte).toNat + 256 * (0x00 : Byte).toNat)
      ∧ (let bytes : List Byte := [0x00, 0x00, 0x01, 0x07, 0x00, 0x00]
         bytes.length = 0 + 6 ∧ u16 (crc (bytes.take 4)).toNat ≠ bytes.drop 4)
      ∧ (let body : List Byte := [0x00, 0x00, 0x03, 0x07]
         let bytes := body ++ u16 (crc body).toNat
         bytes.length = 0 + 6 ∧ u16 (crc (bytes.take 4)).toNat = bytes.drop 4 ∧ bytes[2]? ≠ some 0x01
           ∧ bytes[2]? ≠ some 0x02) := by decide +kernel

theorem test_hyps_AutonomousModeBeginsAndEnds :
    (base.alive = true ∧ base.mpt.silenceEnd = none ∧ base.mpt.autonomous = false ∧ base.hpc1.autoMarker = false
        ∧ base.hpc2.autoMarker = false)
      ∧ (let s := base.onMpt fun m => { m with silenceEnd := some 10000 }
         s.alive = true ∧ s.mpt.silenceEnd = some 10000 ∧ (s.hpc1.state ≠ .offhook ∧ s.hpc1.state ≠ .connected)
           ∧ (s.hpc2.state ≠ .offhook ∧ s.hpc2.state ≠ .connected) ∧ s.pac.relay.pos = .copper ∧ s.pac.relay.move = none
           ∧ s.pac.relay.deferred = false)
      ∧ (base.onMpt fun m => { m with autonomous := true }).mpt.autonomous = true
      ∧ ((portIn .offhook).hpc2.state = .offhook ∧ (portIn .connected).hpc2.state = .connected
        ∧ (base.program 0).rings = true ∧ (base.program 1).rings = false)
      ∧ (∀ st ∈ [PortState.connected, .fault, .idle],
          let s := (relayIn atLocal).onPort .one fun q => { q with state := st }
          s.pac.relay.move = none ∧ s.pac.relay.pos = .localPort ∧ s.hpc1.state = st)
      ∧ ((relayIn (moving .localPort)).pac.relay.move.map (·.target) = some .localPort
        ∧ (relayIn (moving .copper)).pac.relay.move.map (·.target) = some .copper)
      ∧ (relayIn { atCopper with deferred := true }).pac.relay.deferred = true := by decide

/-- A log of numbers 5 and 7, and an interval 5: numbers ahead, in the log, older, and half the circle away. -/
theorem test_hyps_ReadRequestsChangeNothing :
    ((0x03 : Byte).toNat = TestKind.quietNoise.ctorIdx ∧ 4 ≤ (4 : Byte).toNat ∧ 2 ≤ (2 : Byte).toNat
        ∧ (0x08 : Byte).toNat = BlockId.control.ctorIdx ∧ BlockId.control ≠ .programs ∧ (15 : Byte).toNat ≤ 15
        ∧ 9 ≤ (9 : Byte).toNat)
      ∧ (let f := (logOf [record 5 .minor none false, record 7 .minor none false]).flg
         let ahead := fun n : Seq16 => 1 ≤ (n - 7).toNat ∧ (n - 7).toNat ≤ 32767
         let back := fun m : Seq16 => ((7 : Seq16) - m).toNat
         f.log.head? = some (record 5 .minor none false) ∧ f.log.getLast? = some (record 7 .minor none false)
           ∧ ahead 8 ∧ (¬ ahead 7 ∧ back 7 ≤ back 5) ∧ (¬ ahead 5 ∧ back 5 ≤ back 5) ∧ (¬ ahead 4 ∧ back 5 < back 4)
           ∧ (¬ ahead 32775 ∧ back 5 < back 32775))
      ∧ (let after := fun a b : Seq16 => 1 ≤ (a - b).toNat ∧ (a - b).toNat ≤ 32767
         ([{ interval0 with number := 5 }] : List Interval).head? = some { interval0 with number := 5 }
           ∧ after 5 4 ∧ ¬ after 5 5) := by decide

theorem test_hyps_NoticeMaskAndSleep :
    base.lks.state = .off ∧ base.hpc1.state.quiet = true ∧ base.hpc2.state.quiet = true ∧ base.ltu.queue = []
      ∧ base.seq1.run = none ∧ base.seq2.run = none ∧ base.rsc.state = .off ∧ base.mcr.flight = none
      ∧ base.sst.store = .idle ∧ base.mpt.notices = [] ∧ base.hpc1.voice.capture = [] ∧ base.hpc2.voice.capture = []
      ∧ carrying.lks.state ≠ .off := by decide

theorem test_hyps_WakeDelayEnds :
    (base.alive = true ∧ base.psv.wake = none)
      ∧ (let s := quiescent.onPsv fun p => { p with wake := some ⟨.hostFrame, none, 40⟩ }
         s.alive = true ∧ s.psv.wake = some ⟨.hostFrame, none, 40⟩ ∧ s.mpt.held = [] ∧ s.hpc1.heldOffHook = false
           ∧ s.hpc2.heldOffHook = false) := by decide

/-! Settings -/

def saving (item : SaveItem) : State :=
  base.onSst fun t => { t with store := .saving { item := item, rest := [], results := [], locks := (false, false) } }

/-- A put of generation 4 to POWER whose thresholds fall, and one whose thresholds do not. -/
def powerGood : List Byte := [0x18, 0x2E, 0xC0, 0x2B, 0x68, 0x29, 30, 1]
def powerBad : List Byte := [0x18, 0x2E, 0x18, 0x2E, 0x68, 0x29, 30, 1]

theorem test_hyps_SettingPutChecksAndEffect :
    base.sst.store.isSaving = false ∧ BlockId.power ≠ .ident ∧ (6 : Byte).toNat = BlockId.power.ctorIdx
      ∧ (base.sst.infoOf .power).locked = false
      ∧ (base.sst.infoOf .power).gen.toNat = (4 : Byte).toNat + 256 * (0 : Byte).toNat
      ∧ contentsComplete .power powerGood = true ∧ contentsComplete .power powerBad = true
      ∧ contentsComplete .power [] = false ∧ base.sst.contents.put .power 0 powerBad = none
      ∧ (base.sst.contents.put .power 0 powerGood).isSome = true := by decide

/-- The effects of a put: a link that waits, a timer of stage 1 that would have run out by 60 s and one that would not,
a running loopback with remote access off, auto-lifeline turned on where it is due. -/
theorem test_hyps_SettingPutChecksAndEffect_effects :
    let old := base.sst.contents
    let minute := { old with power := { old.power with stage1Min := old.power.stage1Min + 1 } }
    let timed := fun clock => { (stageIn .battery).onPsv fun p => { p with stage1End := some 9000000 } with clock := clock }
    let off := { old with control := { old.control with autoLifeline := false } }
    let due := { absentLocal with clock := 60000 }
    ((onLink fun k => { k with state := .waiting, wait := some .noPermittedRung }).lks.wait = some .noPermittedRung
        ∧ ¬ (base.lks.state = .waiting ∧ base.lks.wait = some .noPermittedRung))
      ∧ (base.psv.stage1End = none ∧ minute.power.stage1Min ≠ (timed 0).sst.contents.power.stage1Min
        ∧ (timed 0).psv.stage1End = some 9000000
        ∧ (timed 0).clock < (timed 0).psv.stage1From + (timed 0).sst.contents.power.stage1Min * 60000
        ∧ (timed 9000000).psv.stage1From + (timed 9000000).sst.contents.power.stage1Min * 60000 ≤ (timed 9000000).clock
        ∧ (timed 9000000).alive = true)
      ∧ (base.mcr.loopback = none ∧ base.sst.contents.remote.enable = false
        ∧ (base.onMcr fun m => { m with loopback := some ⟨60000, 0⟩ }).mcr.loopback = some ⟨60000, 0⟩)
      ∧ (due.loading = false ∧ due.sst.contents.control.autoLifeline = true ∧ off.control.autoLifeline = false
        ∧ old.control.autoLifeline = true
        ∧ due.pac.relay.pos = .localPort ∧ due.pac.relay.move = none ∧ due.lks.state ≠ .carrying ∧ due.hpc1.state = .idle
        ∧ due.pac.absenceFrom = some 0 ∧ 0 + 60000 ≤ due.clock ∧ ¬ 0 + 60000 ≤ absentLocal.clock) := by decide

theorem test_hyps_SettingPutChecksAndEffect_refused :
    9 ≤ (9 : Byte).toNat ∧ (4 : Byte).toNat = 4 ∧ 16 ≤ (16 : Byte).toNat
      ∧ (saving .lockRecord).sst.store.isSaving = true ∧ (base.sst.infoOf .ident).locked = true
      ∧ (base.sst.infoOf .power).gen.toNat ≠ (5 : Byte).toNat + 256 * (0 : Byte).toNat
      ∧ (seqIn .running 1 0 none).seq2.run ≠ none
      ∧ contentsComplete .programs [1, 1, 0xFF, 10, 0, 1, 0, 0, 1, 0xFF] = true := by decide

theorem test_hyps_SettingsSaveRuns :
    ((stageIn .conserve).psv.stage = .conserve ∧ (stageIn .lifeline).psv.stage = .lifeline)
      ∧ (base.psv.stage ≠ .conserve ∧ base.psv.stage ≠ .lifeline ∧ base.sst.store.isSaving = false)
      ∧ ((saving (.block .link)).alive = true
        ∧ (saving (.block .link)).sst.store
            = .saving { item := .block .link, rest := [], results := [], locks := (false, false) })
      ∧ (saving .lockRecord).sst.store.isSaving = true := by decide

/-- A save of a block and of the lock record that a FULL reset and the stop cut short (PartResetAndResetPin,
FaultAckAndRetainedRecord). -/
theorem test_hyps_PartResetAndResetPin_saving :
    ((saving .lockRecord).psv.stopping = false
        ∧ (saving .lockRecord).sst.store
            = .saving { item := .lockRecord, rest := [], results := [], locks := (false, false) })
      ∧ (saving (.block .link)).psv.stopping = false ∧ base.sst.store.isSaving = false := by decide

theorem test_hyps_SettingsLockSetsFlags :
    (0x01 : Byte) ≠ 0x02 ∧ (0x01 : Byte) ≠ 0x80 ∧ (0x01 : Byte) ≠ 0x82 := by decide

theorem test_hyps_LoadingCompletes :
    ((base.alive = true ∧ base.loading = false) ∧ (State.reset.alive = true ∧ State.reset.loading = true)
        ∧ State.reset.sst.image.locks = none ∧ (1 : BitVec 10).getLsbD 9 = false)
      ∧ (let s := (stageIn .lifeline).onPsv fun p => { p with belowCutoff := 3 }
         (s.psv.stage = .lifeline ∧ s.psv.belowCutoff = 3 ∧ s.psv.stopping = false ∧ s.loading = false)
           ∧ base.psv.stage ≠ .lifeline) := by decide

/-! The link and its quality -/

theorem test_hyps_AttemptBegins :
    (permittedFrom .conserve (ladder.take 2) (floorOf (ladder.take 2)) = none
        ∧ permittedFrom .mains ladder 3 = some 3 ∧ permittedFrom .conserve ladder 3 = some 6)
      ∧ (base.pac.test.state = .free ∧ base.pac.hazardEnd = none)
      ∧ (testing (TestRun.start .quietNoise 50) .settle).pac.test.state ≠ .free
      ∧ (after (.hazard 130000) base).pac.hazardEnd ≠ none := by decide

theorem test_hyps_AttemptFails :
    (base.alive = true ∧ base.lks.state ≠ .greeting ∧ base.lks.state ≠ .training ∧ base.lks.greetingEnd = none
        ∧ base.lks.trainingEnd = none)
      ∧ ((heldBy .greeting).pac.link.state = .held ∧ (heldBy .greeting).pac.test.state ≠ .waiting
        ∧ (heldBy .greeting).lks.state = .greeting ∧ (heldBy .training).lks.state = .training)
      ∧ ((heldBy .greeting).onLks fun k => { k with greetingEnd := some 0 }).lks.greetingEnd = some 0
      ∧ ((heldBy .training).onLks fun k => { k with trainingEnd := some 0 }).lks.trainingEnd = some 0 := by decide

theorem test_hyps_TrainingOutcomes :
    (base.lks.state ≠ .training ∧ (heldBy .training).alive = true ∧ (heldBy .training).lks.state = .training
        ∧ (heldBy .greeting).lks.state = .greeting)
      ∧ (∃ r, rungIn (heldBy .training).lks.ladder (heldBy .training).lks.rung = some r
        ∧ (r.down ≤ 8000 ∧ r.up ≤ 800 ∧ r.minMargin ≤ 60) ∧ ¬ (r.down ≤ 8000 ∧ r.up ≤ 800 ∧ r.minMargin ≤ 59))
      ∧ ((heldBy .training).lks.trial = none ∧ permittedBelow .mains ladder 3 = some 6
        ∧ permittedBelow .mains ladder 6 = none) := by
  refine ⟨by decide, ⟨_, rfl, ?_⟩, by decide⟩; decide

/-- A trial in TRAINING on its target and on the floor; the pair held in training without a trial; a link that carries
with the relay in COPPER on its account, and with the copper side active. -/
theorem test_hyps_TrainingOutcomes_trial :
    let tried := fun rung => (heldBy .training).onLks fun k => { k with rung := rung, trial := some (trialOf none) }
    let away := carrying.onPac fun p => { p with relay := { atCopper with reason := .linkDown } }
    let returns := fun u : State => u.pac.relay.pos = .copper ∧ u.pac.relay.move = none
      ∧ u.pac.relay.reason = .linkDown ∧ u.lks.state = .carrying ∧ u.pac.copperActive = false
      ∧ u.psv.stage ≠ .lifeline ∧ u.mpt.autonomous = false
    ((tried 1).lks.trial = some (trialOf none) ∧ permittedBelow (tried 1).psv.stage (tried 1).lks.ladder 1 = some 3
        ∧ permittedBelow (tried 6).psv.stage (tried 6).lks.ladder 6 = none)
      ∧ ((heldBy .training).lks.trial = none ∧ (heldBy .training).pac.link.state = .held
        ∧ (heldBy .training).pac.test.state ≠ .waiting)
      ∧ returns away ∧ ¬ returns (away.onPac fun p => { p with copperActive := true }) := by decide

/-- A trial whose target is not attained trains on the permitted rung below it, and the target is barred for 24 hours
(R25, R64). -/
theorem test_trial_not_attained :
    let t := after .notAttainable ((heldBy .training).onLks fun k => { k with rung := 1, trial := some (trialOf none) })
    t.lks.rung = 3 ∧ t.lks.trial = none ∧ t.lks.barriers[1] = some 86400000 ∧ t.lks.barriers[3] = none := by decide

theorem test_hyps_OrderlyDropThenRelease :
    (base.alive = true ∧ base.lks.state ≠ .releasing ∧ base.lks.releasingEnd = none ∧ base.lks.powerDropEnd = none)
      ∧ (onLink fun k => { k with powerDropEnd := some 120000 }).lks.powerDropEnd = some 120000
      ∧ (let s := dropOrderly .host .off none carrying
         s.alive = true ∧ s.lks.state = .releasing ∧ s.pac.link.state = .held ∧ s.pac.test.state ≠ .waiting
           ∧ s.lks.lastDrop = some .host ∧ s.lks.signalLost = false ∧ s.lks.releasingEnd = some 500) := by decide

theorem test_hyps_SignalAndBackoff :
    (base.alive = true ∧ base.lks.signalLost = false ∧ base.lks.state ≠ .carrying ∧ base.lks.state ≠ .releasing
        ∧ base.lks.lossEnd = none ∧ base.lks.backoffEnd = none)
      ∧ (carrying.lks.signalLost = false ∧ carrying.lks.state = .carrying ∧ carrying.lks.carryingSince = some 0)
      ∧ ((after .signalLost carrying).lks.signalLost = true ∧ (after .signalLost carrying).lks.lossEnd = some 2000)
      ∧ (onLink fun k => { k with state := .waiting, backoffEnd := some 15000 }).lks.backoffEnd = some 15000 := by
  decide

theorem test_hyps_LinkEnableAndDisable :
    (stageIn .lifeline).psv.stage = .lifeline
      ∧ (base.psv.stage ≠ .lifeline ∧ base.lks.state = .off ∧ base.mcr.loopback = none ∧ base.pac.test.state ≠ .waiting)
      ∧ (let s := onLink fun k => { k with state := .releasing, dest := some .off }
         s.lks.state = .releasing ∧ s.lks.dest = some .off)
      ∧ (carrying.lks.state = .carrying ∧ (carrying.lks.state ≠ .off ∧ carrying.lks.state ≠ .releasing))
      ∧ ((heldBy .waiting).lks.state = .waiting ∧ (heldBy .greeting).lks.state = .greeting
        ∧ (heldBy .training).lks.state = .training) := by decide

theorem test_hyps_LinkRetrainAndRungSet :
    ((onLink fun k => { k with state := .waiting, wait := some .pair }).lks.wait = some .pair
        ∧ (onLink fun k => { k with state := .waiting, wait := some .backoff }).lks.wait ≠ some .pair
        ∧ (onLink fun k => { k with state := .releasing, dest := some .waiting }).lks.dest ≠ some .off)
      ∧ (rungIn base.lks.ladder (0 : Byte).toNat = none ∧ (rungIn base.lks.ladder (1 : Byte).toNat).isSome = true)
      ∧ ((ladder.map (permitted .mains)) = [true, true, true]
        ∧ (ladder.map (permitted .conserve)) = [false, false, true])
      ∧ ((3 : Byte).toNat = base.lks.rung ∧ (6 : Byte).toNat ≠ base.lks.rung) := by decide

theorem test_hyps_PayloadCells :
    let c : PayloadCell := Vector.replicate 64 0
    let full := carrying.onLks fun k =>
      { k with payload := { k.payload with up := List.replicate 16 c, down := List.replicate 16 c } }
    (carrying.alive = true ∧ (carrying.lks.state = .carrying ∧ carrying.mcr.loopback = none)
        ∧ carrying.lks.payload.up.length < 16 ∧ carrying.lks.payload.down.length < 16)
      ∧ (16 ≤ full.lks.payload.up.length ∧ 16 ≤ full.lks.payload.down.length) ∧ base.lks.state ≠ .carrying
      ∧ full.lks.payload.up = c :: List.replicate 15 c ∧ full.lks.payload.down = c :: List.replicate 15 c := by
  decide +kernel

theorem test_hyps_LineReportsCountSeconds :
    let nearly := carrying.onLks fun k => { k with interval := some { interval0 with clean := 59 } }
    let bad := carrying.onLks fun k => { k with interval := some { interval0 with clean := 40, severe := 19 } }
    (base.lks.state ≠ .carrying ∧ carrying.alive = true ∧ carrying.lks.state = .carrying
        ∧ carrying.lks.interval = some interval0)
      ∧ (carrying.lks.params.severe ≤ (report0 24 60 false).unguarded
        ∧ ¬ ((report0 23 60 false).signalLost = true ∨ carrying.lks.params.severe ≤ (report0 23 60 false).unguarded))
      ∧ (rungIn carrying.lks.ladder carrying.lks.rung).map (·.minMargin) = some 60
      ∧ interval0.clean + interval0.errored + interval0.severe + 1 < 60
      ∧ (nearly.lks.interval = some { interval0 with clean := 59 } ∧ 59 + interval0.errored + interval0.severe + 1 = 60
        ∧ ¬ nearly.lks.params.quality ≤ interval0.severe)
      ∧ (bad.lks.interval = some { interval0 with clean := 40, severe := 19 } ∧ bad.lks.params.quality ≤ 19 + 1
        ∧ bad.lks.retrainEnd = none ∧ bad.hpc1.state ≠ .connected ∧ bad.hpc2.state ≠ .connected
        ∧ (bad.onPort .two fun q => { q with state := .connected }).hpc2.state = .connected
        ∧ (bad.onLks fun k => { k with retrainEnd := some 120000 }).lks.retrainEnd ≠ none)
      ∧ (carrying.onLks fun k => { k with consecutiveSevere := 9 }).lks.consecutiveSevere = 9
      ∧ (carrying.onLks fun k => { k with stepClock := 21599 }).lks.stepClock = 21599
      ∧ (carrying.onLks fun k => { k with stepClock := 21600 }).stepUpDue = some 1 ∧ carrying.stepUpDue = none := by
  decide

/-- The premises of a counted second: an errored second above the margin, and a severe one below it. -/
theorem test_hyps_LineReportsCountSeconds_sums :
    (let r := report0 1 60 false
     let i' := { interval0 with errored := 1, blocks := 4000, unguarded := 1 }
     i' = { interval0 with
            severe := i'.severe, errored := i'.errored, clean := i'.clean, lowMargin := i'.lowMargin
            blocks := min (interval0.blocks + r.blocks) 4294967295
            unguarded := min (interval0.unguarded + r.unguarded) 4294967295
            guarded := min (interval0.guarded + r.guarded) 4294967295 }
       ∧ i'.severe = interval0.severe ∧ i'.errored = interval0.errored + 1 ∧ i'.lowMargin = interval0.lowMargin)
      ∧ (let r := report0 24 59 false
         let i' := { interval0 with severe := 1, lowMargin := 1, blocks := 4000, unguarded := 24 }
         i' = { interval0 with
                severe := i'.severe, errored := i'.errored, clean := i'.clean, lowMargin := i'.lowMargin
                blocks := min (interval0.blocks + r.blocks) 4294967295
                unguarded := min (interval0.unguarded + r.unguarded) 4294967295
                guarded := min (interval0.guarded + r.guarded) 4294967295 }
           ∧ i'.severe = interval0.severe + 1 ∧ i'.lowMargin = interval0.lowMargin + 1) := by decide

/-- For the storm: the floor rung without a lower one, an INTERNAL entry that waits, a full queue, an empty one with
the pair free and with a hazard hold. -/
theorem test_hyps_LossAndQualityDrops :
    (carrying.lks.trial = none ∧ carrying.pac.link.state = .held ∧ carrying.pac.test.state ≠ .waiting)
      ∧ (let s := carrying.onLks fun k => { k with rung := 6 }
         permittedBelow s.psv.stage s.lks.ladder s.lks.rung = none)
      ∧ (¬ (stageIn .conserve).psv.stage ≠ .conserve ∧ base.psv.stage ≠ .conserve ∧ base.psv.stage ≠ .lifeline)
      ∧ (let e := entry 1 .insulation .internal .queued
         let s := base.onLtu fun l => { l with queue := [e] }
         s.ltu.queue = [] ++ e :: [] ∧ e.kind = .insulation ∧ e.origin = .internal)
      ∧ ((∀ x ∈ (queueOf 6).ltu.queue, ¬ (x.kind = .insulation ∧ x.origin = .internal))
        ∧ 6 ≤ (queueOf 6).ltu.queue.length ∧ (queueOf 5).ltu.queue.length < 6 ∧ (queueOf 5).ltu.queue ≠ [])
      ∧ (base.ltu.queue = [] ∧ base.testGrantable = true ∧ (after (.hazard 130000) base).testGrantable = false
        ∧ (after (.hazard 130000) base).ltu.queue = []) := by decide

/-- A drop in a trial's watch, without the pair and with a test that waits for it, which a free pair grants or not. -/
theorem test_hyps_LossAndQualityDrops_trial :
    let watched := carrying.onLks fun k => { k with rung := 1, trial := some (trialOf (some 900000)) }
    let waits := { watched with
      ltu := { watched.ltu with queue := [entry 1 .quietNoise .host .claiming] }
      pac := { watched.pac with test := { state := .waiting, since := 0 } } }
    let freed := fun s : State => s.onPac fun p => { p with link := { state := .free, since := 0 } }
    (watched.lks.trial = some (trialOf (some 900000)) ∧ watched.pac.link.state = .held)
      ∧ (waits.pac.test.state = .waiting ∧ waits.pac.link.state = .held ∧ (freed waits).testGrantable = true
        ∧ waits.ltu.queue = entry 1 .quietNoise .host .claiming :: [])
      ∧ (freed (waits.onPac fun p => { p with ringSession := true })).testGrantable = false := by decide

/-- A LOSS drop in a trial's watch is told with the former rung (R64, log 23). -/
theorem test_trial_lost :
    let t := after .lossTimer (carrying.onLks fun k =>
      { k with rung := 1, trial := some (trialOf (some 900000)), signalLost := true, lossEnd := some 2000 })
    t.lks.rung = 3 ∧ t.lks.state = .waiting ∧ t.lks.barriers[1] = some 86402000
      ∧ (t.flg.log.getLast?.bind fun r => r.detail[1]?) = some 3#32 := by decide

theorem test_hyps_QualityEventsAndTimers :
    let s : State := carrying.onLks fun k =>
      { k with
        ringGuard := some 200, retrainEnd := some 120000, window := [⟨0, .loss⟩], trial := some (trialOf (some 900000))
        barriers := k.barriers.set 3 (some 86400000) }
    (carrying.alive = true ∧ carrying.lks.ringGuard = none ∧ carrying.lks.retrainEnd = none ∧ carrying.lks.window = []
        ∧ base.lks.state ≠ .carrying ∧ carrying.lks.carryingSince = some 0 ∧ carrying.lks.trial = none
        ∧ carrying.lks.barriers[3] = none)
      ∧ s.lks.ringGuard = some 200 ∧ s.lks.retrainEnd = some 120000 ∧ s.lks.window = [⟨0, .loss⟩]
      ∧ s.lks.trial = some (trialOf (some 900000)) ∧ s.lks.barriers[3] = some 86400000 := by decide

/-! The pair -/

theorem test_hyps_LifelineSelectMovesRelay :
    2 ≤ (2 : Byte).toNat
      ∧ ((relayIn atCopper).pac.relay.move = none ∧ (relayIn atCopper).pac.relay.pos = .copper
        ∧ (relayIn atCopper).pac.relay.deferred = false ∧ (relayIn { atCopper with deferred := true }).pac.relay.deferred)
      ∧ ((relayIn atLocal).pac.relay.move = none ∧ (relayIn atLocal).pac.relay.pos = .localPort)
      ∧ ((relayIn (moving .localPort)).pac.relay.move
            = some { target := .localPort, doneAt := 30, reason := .host, carriesOut := false }
          ∧ (relayIn (moving .copper)).pac.relay.move.map (·.target) = some .copper)
      ∧ ((stageIn .lifeline).psv.stage = .lifeline ∧ base.psv.stage ≠ .lifeline ∧ base.mpt.autonomous = false
        ∧ (base.onMpt fun m => { m with autonomous := true }).mpt.autonomous = true)
      ∧ (base.pac.copperActive = false ∧ (base.onPac fun p => { p with copperActive := true }).pac.copperActive = true) := by
  decide

theorem test_hyps_CopperSideFollowsPhone :
    let off := base.onPort .one fun q => { q with loopClosed := true }
    let on := base.onPac fun p => { p with copperOffHook := true, copperActive := true }
    let cut := fun more => base.onLtu fun l => { l with queue := entry 1 .quietNoise .host .measure :: more }
    let held := fun more => (cut more).onPac fun p => { p with lifeline := { state := .held, since := 0 } }
    (base.alive = true ∧ (base.pac.relay.pos = .copper ∧ base.pac.relay.move = none) ∧ base.pac.copperOffHook = false)
      ∧ (off.hpc1.loopClosed = true ∧ off.pac.copperOffHook = false ∧ off.pac.copperActive = false
        ∧ off.pac.test.state ≠ .held ∧ off.pac.lifeline.state = .free)
      ∧ (let t := (testing (TestRun.start .quietNoise 50) .settle).onPort .one fun q => { q with loopClosed := true }
         t.pac.test.state = .held ∧ t.pac.lifeline.state = .free ∧ t.hpc1.loopClosed = true)
      ∧ ¬ ((relayIn atLocal).pac.relay.pos = .copper ∧ (relayIn atLocal).pac.relay.move = none)
      ∧ (on.pac.copperOffHook = true ∧ on.hpc1.loopClosed = false ∧ on.pac.copperActive = true
        ∧ on.pac.ringSession = false ∧ on.lks.state = .off ∧ on.pac.test.state ≠ .waiting ∧ on.pac.link.state ≠ .waiting
        ∧ on.pac.relay.deferred = false)
      ∧ (on.onPac fun p => { p with ringSession := true }).pac.ringSession = true
      ∧ (∀ more ∈ [[], [entry 2 .insulation .host .queued]],
          (held more).ltu.queue = entry 1 .quietNoise .host .measure :: more ∧ (held more).pac.test.state = .free
            ∧ (held more).pac.link.state ≠ .held ∧ (held more).testGrantable = false) := by decide

theorem test_hyps_ExchangeRingingSession :
    let s := (relayIn atLocal).onPac fun p => { p with ringSession := true, sessionEnd := some 8000 }
    let at_ := fun deferred => (relayIn { atCopper with deferred := deferred }).onPac fun p =>
      { p with copperActive := true, ringSession := true, sessionEnd := some 8000 }
    (base.alive = true ∧ base.pac.ringBurst = false ∧ base.pac.sessionEnd = none)
      ∧ (base.onPac fun p => { p with ringBurst := true, ringSession := true }).pac.ringBurst = true
      ∧ ((relayIn atLocal).pac.ringSession = false ∧ (relayIn atLocal).pac.relay.pos = .localPort
        ∧ (relayIn atLocal).pac.relay.move = none ∧ (relayIn atLocal).pac.test.state ≠ .held)
      ∧ (s.pac.ringSession = true ∧ s.pac.sessionEnd = some 8000 ∧ s.pac.relay.pos = .localPort ∧ s.pac.relay.move = none
        ∧ s.pac.test.state ≠ .waiting ∧ s.pac.link.state ≠ .waiting)
      ∧ (base.pac.ringSession = false ∧ base.pac.relay.pos = .copper ∧ base.pac.relay.move = none
        ∧ base.pac.copperActive = false ∧ base.pac.lifeline.state = .free ∧ base.pac.test.state ≠ .held)
      ∧ (testing (TestRun.start .quietNoise 50) .settle).pac.test.state = .held
      ∧ ((testing (TestRun.start .quietNoise 50) .settle).onPac fun p => { p with relay := atLocal }).pac.test.state = .held
      ∧ (relayIn (moving .copper)).pac.relay.move ≠ none
      ∧ (∀ d ∈ [true, false],
          (at_ d).pac.sessionEnd = some 8000 ∧ (at_ d).pac.relay.pos = .copper ∧ (at_ d).pac.relay.move = none
            ∧ (at_ d).pac.copperActive = true ∧ (at_ d).pac.copperOffHook = false ∧ (at_ d).lks.state = .off
            ∧ (at_ d).pac.test.state ≠ .waiting ∧ (at_ d).pac.link.state ≠ .waiting ∧ (at_ d).pac.relay.deferred = d) := by
  decide

theorem test_hyps_HazardHold :
    let s := base.onPac fun p => { p with hazardEnd := some 30000 }
    let waits := s.onPac fun p => { p with test := { state := .waiting, since := 0 } }
    (base.alive = true ∧ base.pac.test.state ≠ .held ∧ base.pac.hazardEnd = none ∧ base.pac.hazardHigh = false)
      ∧ ((testing (TestRun.start .quietNoise 50) .settle).pac.test.state = .held
        ∧ (s.onPac fun p => { p with hazardHigh := true }).pac.hazardHigh = true)
      ∧ (s.pac.hazardEnd = some 30000 ∧ s.pac.hazardHigh = false ∧ s.pac.test.state ≠ .waiting
        ∧ s.pac.link.state ≠ .waiting)
      ∧ (waits.pac.test.state = .waiting
        ∧ (waits.pac.link.state ≠ .held ∧ waits.pac.lifeline.state = .free ∧ waits.pac.ringSession = false)
        ∧ (waits.onPac fun p => { p with ringSession := true }).pac.ringSession = true)
      ∧ (let t := s.onPac fun p => { p with link := { state := .waiting, since := 0 } }
         t.pac.link.state = .waiting ∧ t.pac.test.state = .free) := by decide

/-- The link that a hazard finds, by its state and destination, with a permitted rung and without; and the queue whose
head it ends. -/
theorem test_hyps_HazardHold_ends :
    let hold := fun s : State => s.onPac fun p => { p with hazardEnd := some 30000 }
    let releasing := fun d => (heldBy .releasing).onLks fun k => { k with dest := some d }
    let left := fun more => hold (base.onLtu fun l => { l with queue := entry 1 .quietNoise .host .measure :: more })
    (∀ t ∈ [carrying, heldBy .greeting, heldBy .training, releasing .off, releasing .waiting],
        (hold t).pac.link.state = .held ∧ (hold t).pac.hazardEnd ≠ none ∧ (hold t).pac.test.state ≠ .held
          ∧ (hold t).lks.state ≠ .off ∧ (hold t).lks.state ≠ .waiting)
      ∧ ((releasing .off).lks.dest = some .off ∧ (releasing .waiting).lks.dest ≠ some .off ∧ carrying.lks.state = .carrying)
      ∧ (permittedFrom .mains ladder 3 = some 3
        ∧ permittedFrom .conserve (ladder.take 2) (floorOf (ladder.take 2)) = none)
      ∧ (∀ more ∈ [[], [entry 2 .insulation .host .queued]],
          (left more).ltu.queue = entry 1 .quietNoise .host .measure :: more ∧ (left more).pac.test.state = .free
            ∧ (left more).pac.link.state ≠ .held ∧ (left more).pac.hazardEnd ≠ none) := by decide

theorem test_hyps_PairTimers :
    (base.alive = true ∧ base.pac.waitEnd = none ∧ base.pac.relay.move = none)
      ∧ (waitingTest.pac.waitEnd = some 300000 ∧ waitingTest.ltu.queue = [entry 1 .quietNoise .host .claiming])
      ∧ ((relayIn (moving .copper)).pac.relay.move.map (·.target) = some .copper
        ∧ (relayIn (moving .copper)).lks.state ≠ .carrying ∧ (relayIn (moving .copper)).pac.ringSession = false
        ∧ (relayIn (moving .localPort)).pac.relay.move.map (·.target) = some .localPort)
      ∧ (base.onPac fun p => { p with absenceFrom := none }).pac.absenceFrom = none
      ∧ ((absent base).pac.absenceFrom = some 0 ∧ (absent base).pac.absenceTaken = false
        ∧ (absent base).pac.relay.pos ≠ .localPort)
      ∧ (absentLocal.sst.contents.control.autoLifeline = true ∧ absentLocal.pac.relay.pos = .localPort
        ∧ absentLocal.pac.relay.move = none ∧ absentLocal.lks.state ≠ .carrying ∧ absentLocal.hpc1.state = .idle) := by
  decide

/-- The arrival in COPPER at 30 ms: with the link CARRYING, for the host and on account of the link, with a ringing session,
and with a step-up that is due. -/
theorem test_hyps_PairTimers_arrival :
    let arriving := fun (reason : CopperReason) (s : State) =>
      s.onPac fun p =>
        { p with relay := { atCopper with move := (moving .copper).move.map fun m => { m with reason := reason } } }
    let arrived := fun (s : State) =>
      (notice (.lifelinePosition .copper .host none) (s.onPac fun p => { p with relay := atCopper })).onPort .one fun q =>
        { q with state := .copperIdle }
    let ringing := carrying.onPac fun p => { p with ringSession := true }
    let due := carrying.onLks fun k => { k with stepClock := 21600 }
    ((arriving .linkDown carrying).pac.relay.move.map (fun m => (m.target, m.reason)) = some (.copper, .linkDown)
        ∧ (arriving .host carrying).pac.relay.move.map (·.reason) = some .host)
      ∧ (carrying.lks.state = .carrying ∧ carrying.pac.copperActive = false ∧ carrying.psv.stage ≠ .lifeline
        ∧ carrying.mpt.autonomous = false ∧ carrying.pac.ringSession = false ∧ (arrived carrying).stepUpDue = none)
      ∧ (ringing.pac.ringSession = true ∧ ringing.pac.test.state ≠ .held ∧ (arrived ringing).stepUpDue = none)
      ∧ (arrived due).stepUpDue = some 1 := by decide

/-! Ports, sequencers, ring supply -/

theorem test_hyps_PortEnableDisableAndIdle :
    let bad := portWith .fault fun q => { q with latched := true, wiringBad := false }
    ((portIn .disabled).hpc2.state = .disabled ∧ (stageIn .conserve).psv.stage = .conserve
        ∧ ¬ (base.psv.stage = .conserve ∨ base.psv.stage = .lifeline))
      ∧ (bad.hpc2.state = .fault ∧ bad.hpc2.latched = true ∧ bad.hpc2.wiringBad = false)
      ∧ ((portIn .fault).hpc2.state = .fault ∧ (portIn .fault).hpc2.latched = false)
      ∧ ((portIn .idle).hpc2.state.isLocal = true ∧ (portIn .idle).hpc2.state ≠ .disabled
        ∧ (portIn .idle).hpc2.state ≠ .fault
        ∧ (stopSeq (some .port) .two (portIn .idle)).psv.stage = (portIn .idle).psv.stage)
      ∧ base.hpc1.state.isLocal = false := by decide

/-- A port that has left its call, for a state that lets a step-up be looked at and for another; the link with nothing
waiting for the end of calls, a retrain, a power drop, and both; auto-lifeline due, and not yet. -/
theorem test_hyps_PortEnableDisableAndIdle_reported :
    let held := fun retrain power => carrying.onLks fun k => { k with retrainEnd := retrain, powerDropEnd := power }
    let due := { absentLocal with clock := 60000 }
    ((portIn .idle).hpc2.state ≠ .connected ∧ (portIn .offhook).hpc2.state ≠ .connected
        ∧ (portIn .idle).hpc2.state = .idle ∧ absentLocal.hpc1.state ≠ .connected)
      ∧ (carrying.hpc1.state ≠ .connected ∧ carrying.hpc2.state ≠ .connected ∧ (portIn .connected).hpc2.state = .connected)
      ∧ ((held none none).lks.retrainEnd = none ∧ (held none none).lks.powerDropEnd = none
        ∧ (held (some 9) (some 9)).lks.retrainEnd ≠ none ∧ (held (some 9) (some 9)).lks.powerDropEnd ≠ none)
      ∧ (due.sst.contents.control.autoLifeline = true ∧ due.pac.relay.pos = .localPort ∧ due.pac.relay.move = none
        ∧ due.lks.state ≠ .carrying ∧ due.pac.absenceFrom = some 0 ∧ 0 + 60000 ≤ due.clock ∧ due.hpc1.state = .idle
        ∧ ¬ 0 + 60000 ≤ absentLocal.clock) := by decide

theorem test_hyps_PortRingConnectRelease :
    (16 ≤ (16 : Byte).toNat ∧ (15 : Byte).toNat ≤ 15)
      ∧ ((portIn .idle).hpc2.state = .idle ∧ (portIn .idle).hpc2.loopClosed = false)
      ∧ (let q := (portWith .idle fun q => { q with loopClosed := true, loopSince := 100 }).hpc2
         (q.loopClosed = true ∧ q.offHook = false ∧ 99 + q.settings.offHookMs < q.loopSince + q.settings.offHookMs)
           ∧ ¬ 100 + q.settings.offHookMs < q.loopSince + q.settings.offHookMs)
      ∧ ((portIn .offhook).hpc2.state = .offhook ∧ (portIn .offhook).seq2.run = none
        ∧ (portIn .offhook).hpc2.pulse = none)
      ∧ (portIn .connected).hpc2.state = .connected ∧ (portIn .ringing).hpc2.state = .ringing := by decide

theorem test_hyps_HookEvents :
    let fed := fun st => portWith st fun q => { q with loopClosed := true }
    let up := fun st => portWith st fun q => { q with offHook := true }
    let dial := fun d => portWith .offhook fun q => { q with offHook := true, pulse := some d }
    (base.mpt.autonomous = false ∧ base.hpc1.state.fed = false ∧ base.hpc2.loopClosed = false
        ∧ (up .idle).hpc2.offHook = true)
      ∧ (∀ st ∈ [PortState.idle, .ringing, .offhook],
          (fed st).alive = true ∧ (fed st).psv.mode = .active ∧ (fed st).hpc2.state = st ∧ st.fed = true
            ∧ (fed st).hpc2.loopClosed = true ∧ (fed st).hpc2.offHook = false)
      ∧ (let q := (fed .idle).onPsv fun p => { p with mode := .quiescent }
         q.alive = true ∧ q.psv.mode = .quiescent ∧ q.hpc2.state = .idle ∧ q.hpc2.offHook = false)
      ∧ (∀ st ∈ [PortState.idle, .ringing],
          let s := portWith st fun q => { q with heldOffHook := true }
          s.psv.mode = .active ∧ s.hpc2.heldOffHook = true ∧ s.hpc2.state = st)
      ∧ (∀ st ∈ [PortState.offhook, .connected, .howler, .lockout],
          st.hangsUp = true ∧ st.fed = true ∧ (up st).hpc2.state = st ∧ (up st).hpc2.offHook = true
            ∧ (up st).hpc2.loopClosed = false)
      ∧ (PortState.ringing.hangsUp = false ∧ PortState.ringing.fed = true)
      ∧ ((up .offhook).hpc2.pulse = none ∧ (dial ⟨10, 5, false⟩).hpc2.pulse = some ⟨10, 5, false⟩
        ∧ (dial ⟨11, 5, true⟩).hpc2.pulse = some ⟨11, 5, true⟩)
      ∧ (let c := (up .offhook).hpc2.settings
         (c.glitchMs ≤ 20 ∧ 20 ≤ c.pulseMs ∧ 110 ≤ c.pulseMs) ∧ (c.pulseMs < 111 ∧ 249 < c.flashMs) ∧ 19 < c.glitchMs
           ∧ (c.pulseMs < 250 ∧ c.flashMs ≤ 250 ∧ 999 < c.hangUpMs) ∧ c.hangUpMs ≤ 1000) := by decide

theorem test_hyps_DigitsCollectedAndRead :
    let dial := fun n => portWith .offhook fun q => { q with offHook := true, pulse := some ⟨n, 300, false⟩ }
    let d0 : DigitRecord := ⟨1, .pulse, 0⟩
    let full := portWith .offhook fun q => { q with digits := List.replicate 32 d0 }
    let call := portWith .connected fun q => { q with copy := some { PortSettings.builtIn with tonesInCall := true } }
    (base.alive = true ∧ base.hpc2.pulse = none ∧ base.hpc2.tone = none ∧ base.hpc2.dialMarker = false
        ∧ base.hpc2.digits.length < 32)
      ∧ ((dial 10).hpc2.pulse = some ⟨10, 300, false⟩ ∧ (dial 11).hpc2.pulse = some ⟨11, 300, false⟩
        ∧ (dial 10).hpc2.offHook = true ∧ (dial 10).hpc2.loopClosed = false)
      ∧ ((portIn .offhook).psv.mode = .active ∧ (portIn .offhook).hpc2.state.feed = .full
        ∧ (portIn .offhook).hpc2.toneEnd = none ∧ (portIn .offhook).hpc2.state = .offhook)
      ∧ (PortState.lockout.feed ≠ .full ∧ quiescent.psv.mode = .quiescent)
      ∧ ((portIn .idle).hpc2.state.feed = .full ∧ (portIn .idle).hpc2.state ≠ .offhook
        ∧ (portIn .idle).hpc2.state ≠ .connected)
      ∧ ((portIn .connected).hpc2.settings.tonesInCall = false ∧ call.hpc2.settings.tonesInCall = true
        ∧ call.hpc2.state.feed = .full)
      ∧ (let s := portWith .offhook fun q => { q with tone := some 5, toneEnd := some 0 }
         s.hpc2.tone ≠ none ∧ s.hpc2.toneEnd ≠ none ∧ 39 < 40)
      ∧ (32 ≤ full.hpc2.digits.length ∧ full.hpc2.digits ≠ [])
      ∧ ((0 : Byte).toNat = 0 ∧ 33 ≤ (33 : Byte).toNat ∧ (32 : Byte).toNat ≤ 32 ∧ 1 ≤ (1 : Byte).toNat) := by decide

theorem test_hyps_HowlerAndLockout :
    let s := portWith .offhook fun q => { q with receiverEnd := some 20000 }
    let t := portWith .howler fun q => { q with howlerEnd := some 60000 }
    (base.alive = true ∧ base.hpc2.receiverEnd = none ∧ base.hpc2.howlerEnd = none ∧ base.hpc2.state ≠ .offhook)
      ∧ (s.alive = true ∧ s.hpc2.receiverEnd = some 20000 ∧ s.hpc2.state = .offhook)
      ∧ (t.alive = true ∧ t.hpc2.howlerEnd = some 60000 ∧ t.hpc2.state = .howler) := by decide

theorem test_hyps_LineFaults :
    let again := portWith .fault fun q =>
      { q with fault := some .overcurrent, retryOut := true, retryEnd := some 10000, history := [0] }
    let bursting := (portIn .ringing).onRsc fun r => { r with bursts := [⟨.two, 20, 0⟩] }
    (base.alive = true ∧ base.hpc2.state.fed = false ∧ base.hpc2.state ≠ .fault ∧ base.hpc2.retryEnd = none
        ∧ base.hpc2.history = [])
      ∧ quiescent.psv.mode = .quiescent
      ∧ (bursting.rsc.bursting .two = true ∧ bursting.psv.mode = .active ∧ bursting.hpc2.state.fed = true)
      ∧ ((portIn .idle).psv.mode = .active ∧ (portIn .idle).rsc.bursting .two = false
        ∧ (portIn .idle).hpc2.state.fed = true)
      ∧ ((portIn .fault).hpc2.state = .fault ∧ (portIn .fault).hpc2.retryOut = false)
      ∧ (again.hpc2.state = .fault ∧ again.hpc2.fault = some .overcurrent ∧ again.hpc2.retryOut = true
        ∧ again.hpc2.latched = false ∧ again.hpc2.wiringBad = false ∧ again.hpc2.retryEnd = some 10000
        ∧ again.hpc2.history = [0])
      ∧ (portWith .fault fun q => { q with wiringBad := true }).hpc2.wiringBad = true := by decide

/-- Program 1 is a tone for ever, program 0 rings: the built-in programs. -/
theorem test_hyps_ToneAndSequencerRequests :
    (15 < (16 : Byte).toNat ∧ 1 < (2 : Byte).toNat ∧ (15 : Byte).toNat ≤ 15 ∧ (1 : Byte).toNat ≤ 1)
      ∧ ((portIn .offhook).hpc2.state = .offhook ∧ (portIn .connected).hpc2.state = .connected
        ∧ ¬ (base.hpc2.state = .offhook ∨ base.hpc2.state = .connected))
      ∧ ((base.program 0).rings = true ∧ (base.program 1).rings = false)
      ∧ (base.seq2.run = none ∧ (seqIn .running 1 0 none).seq2.run.map (·.phase) = some .running
        ∧ (seqIn .waitingSupply 0 0 none).seq2.run.map (·.phase) = some .waitingSupply
        ∧ (seqIn .pausing 1 0 none).seq2.run.map (·.phase) = some .pausing
        ∧ (seqIn .paused 1 0 none).seq2.run.map (·.phase) = some .paused
        ∧ (seqIn .held 1 0 none).seq2.run.map (·.phase) = some .held)
      ∧ ((seqIn .paused 1 0 none).seq2.run.map fun r => (base.segmentOf r).kind) = some (.tone 0)
      ∧ ((seqIn .paused 0 0 none).seq2.run.map fun r => (base.segmentOf r).kind) = some .ringOn
      ∧ (portIn .ringing).hpc2.state = .ringing := by decide

/-- A stop with a burst under way, and one in WAITING_SUPPLY behind a wait of port 1. -/
theorem test_hyps_ToneAndSequencerRequests_stop :
    let bursting := (seqIn .running 0 0 none).onSeq .two fun q => { q with run := q.run.map fun r => { r with burst := true } }
    let s := bursting.onRsc fun r => { r with state := .ready, bursts := [⟨.two, 20, 0⟩] }
    let w := (seqIn .waitingSupply 0 0 none).onRsc fun r => { r with waits := [⟨.one, 20, 0⟩, ⟨.two, 20, 0⟩] }
    (s.seq2.run.map (fun r => (r.burst, decide (r.phase = .waitingSupply))) = some (true, false)
        ∧ s.rsc.bursts = [] ++ ⟨.two, 20, 0⟩ :: [])
      ∧ (w.seq2.run.map (fun r => (r.burst, decide (r.phase = .waitingSupply))) = some (false, true)
        ∧ w.rsc.waits = [⟨.one, 20, 0⟩] ++ ⟨.two, 20, 0⟩ :: []
        ∧ ∀ x ∈ [(⟨.one, 20, 0⟩ : RingEntry)], x.port ≠ .two) := by decide

/-- The last segment of a ring program of one pass in RINGING, with no pending program and with one; a ring segment that is
skipped at once, and ends its program or goes on to the next. -/
theorem test_hyps_SegmentsFollowEachOther_ringing :
    let ring := fun (pending : Option Nat) =>
      ((portIn .ringing).onSeq .two fun _ => (seqIn .running 2 1 (some 1)).seq2).onSeq .two fun q =>
        { q with run := q.run.map fun r => { r with pending := pending } }
    let off := fun (repeats : Option Nat) => (seqIn .running 0 0 repeats).onRsc fun r => { r with state := .faultLatched }
    ((ring none).hpc2.state = .ringing ∧ (ring none).seq2.run.map (·.pending) = some none
        ∧ (ring (some 0)).seq2.run.map (·.pending) = some (some 0))
      ∧ (base.segmentOf (SeqRun.start 0 (base.program 0))).kind = .ringOn
      ∧ ((beginSegment .two (off none)).1 = true ∧ (segmentEnds true .two (beginSegment .two (off none)).2).1 = true)
      ∧ (beginSegment .two (seqIn .running 1 0 none)).1 = false := by decide

theorem test_hyps_SegmentsFollowEachOther :
    let at_ := fun (program segment : Nat) (repeats : Option Nat) =>
      (seqIn .running program segment repeats).seq2.run.map fun r =>
        ((base.segmentOf r).hold, decide (r.segment = (base.program program).last),
          decide ((base.program program).stop = some r.segment), r.burst)
    let held := base.onSst fun t =>
      { t with
        contents :=
          { t.contents with programs := [⟨[{ seg .silence 10 true with mark := true, hold := true }], 1, none⟩] } }
    (base.alive = true ∧ base.seq2.run = none ∧ base.rsc.bursting .two = false ∧ base.hpc2.state ≠ .ringing)
      ∧ (seqIn .held 1 0 none).seq2.run.map (fun r => decide (r.phase ≠ .running ∧ r.phase ≠ .pausing)) = some true
      ∧ at_ 2 0 (some 1) = some (false, false, true, false) ∧ at_ 2 0 (some 2) = some (false, false, true, false)
      ∧ at_ 2 1 (some 1) = some (false, true, false, false) ∧ at_ 2 1 (some 2) = some (false, true, false, false)
      ∧ at_ 1 0 none = some (false, true, false, false)
      ∧ (held.segmentOf (SeqRun.start 0 (held.program 0))).hold = true
      ∧ (base.segmentOf (SeqRun.start 1 (base.program 1))).kind ≠ .ringOn := by decide

theorem test_hyps_RingSupplyWorks :
    let with_ := fun f => base.onRsc f
    (base.alive = true ∧ base.rsc.chargeEnd = none ∧ base.rsc.idleEnd = none ∧ base.rsc.retryEnd = none
        ∧ base.rsc.history = [] ∧ base.rsc.waiting .two = false ∧ base.rsc.state ≠ .faultLatched
        ∧ base.rsc.state = .off ∧ 20 ≤ base.rsc.capacity)
      ∧ (with_ fun r => { r with state := .faultLatched }).rsc.state = .faultLatched
      ∧ (let r := (with_ fun r => { r with state := .charging, chargeEnd := some 50 }).rsc
         r.chargeEnd = some 50 ∧ r.waits = [] ∧ r.bursts = [] ∧ r.idleEnd = none ∧ r.state = .charging)
      ∧ (let r := (with_ fun r => { r with state := .ready, idleEnd := some 5000, history := [0, 0] }).rsc
         r.idleEnd = some 5000 ∧ r.state = .ready ∧ r.waits = [] ∧ 20 + loads r.bursts ≤ r.capacity
           ∧ r.history = 0 :: [0] ∧ 3 ≤ (r.history.filter (fun t => 0 ≤ t + 60000) ++ [0]).length)
      ∧ (with_ fun r => { r with state := .faultRetry, retryEnd := some 2000 }).rsc.retryEnd = some 2000
      ∧ (with_ fun r => { r with waits := [⟨.two, 20, 0⟩] }).rsc.waits = [⟨.two, 20, 0⟩]
      ∧ (with_ fun r => { r with state := .ready, bursts := [⟨.two, 20, 0⟩] }).rsc.bursts ≠ []
      ∧ (stageIn .lifeline |>.onRsc fun r => { r with capacity := capacityOf .lifeline }).rsc.capacity < 20
      ∧ ((seqIn .running 0 0 none).seq2.run.map fun r => (base.segmentOf r).kind) = some .ringOn := by decide

/-- A burst request that waits: while the supply charges, in FAULT_RETRY, and in READY behind a wait or where it does not
fit. -/
theorem test_hyps_RingSupplyWorks_waits :
    let ring := fun f => (seqIn .running 0 0 none).onRsc f
    let load := (ring id).hpc2.settings.ringLoad
    (load ≤ (ring id).rsc.capacity ∧ ((ring id).seq2.run.map fun r => ((ring id).segmentOf r).kind) = some .ringOn)
      ∧ (ring fun r => { r with state := .charging }).rsc.state = .charging
      ∧ (ring fun r => { r with state := .ready, waits := [⟨.one, 20, 0⟩] }).rsc.waits ≠ []
      ∧ (let s := ring fun r => { r with state := .ready, bursts := [⟨.one, r.capacity, 0⟩] }
         s.rsc.state = .ready ∧ s.rsc.capacity < load + loads s.rsc.bursts) := by decide

/-- A supply that bursts, and one in FAULT_RETRY that still lists a burst and a wait of port 2 behind port 1. -/
theorem test_hyps_RingSupplyWorks_cuts :
    let s := base.onRsc fun r => { r with state := .ready, bursts := [⟨.one, 20, 0⟩, ⟨.two, 20, 0⟩] }
    let t := s.onRsc fun r => { r with state := .faultRetry, waits := [⟨.two, 20, 0⟩] }
    (s.alive = true ∧ s.rsc.state = .ready ∧ s.rsc.bursts ≠ [])
      ∧ (base.onRsc fun r => { r with state := .charging, bursts := [⟨.one, 20, 0⟩] }).rsc.state = .charging
      ∧ (∀ e ∈ base.rsc.bursts, e.port ≠ .two)
      ∧ (t.rsc.bursts = [⟨.one, 20, 0⟩] ++ ⟨.two, 20, 0⟩ :: [] ∧ (∀ x ∈ [(⟨.one, 20, 0⟩ : RingEntry)], x.port ≠ .two)
        ∧ t.rsc.state ≠ .ready)
      ∧ (t.rsc.waits = [] ++ ⟨.two, 20, 0⟩ :: [] ∧ ∀ e ∈ base.rsc.waits, e.port ≠ .one) := by decide

/-- The wait list by its head and its second entry: none fits, the head alone, both; the burst that ends last and one that
leaves another; and a stage whose capacity is the present one, a higher and a lower one, the latter with the supply on. -/
theorem test_hyps_RingSupplyWorks_lists :
    let ready := fun bursts waits => base.onRsc fun r => { r with state := .ready, bursts := bursts, waits := waits }
    let fits := fun (e : RingEntry) (x : State) => e.load + loads x.rsc.bursts ≤ x.rsc.capacity
    let alone := ready [] [⟨.one, 40, 0⟩, ⟨.two, 30, 0⟩]
    let both := ready [] [⟨.one, 20, 0⟩, ⟨.two, 20, 0⟩]
    let full := ready [⟨.two, 20, 0⟩] [⟨.one, 50, 0⟩]
    let stageWith := fun (st : HoldStage) c => (stageIn st).onRsc fun r => { r with state := .ready, capacity := c }
    (base.rsc.state ≠ .ready ∧ (ready [] []).rsc.waits = [] ∧ full.rsc.state = .ready ∧ ¬ fits ⟨.one, 50, 0⟩ full)
      ∧ (alone.rsc.waits = ⟨.one, 40, 0⟩ :: [⟨.two, 30, 0⟩] ∧ fits ⟨.one, 40, 0⟩ alone
        ∧ (tryWaits alone).rsc.waits = [⟨.two, 30, 0⟩] ∧ ¬ fits ⟨.two, 30, 0⟩ (tryWaits alone))
      ∧ (fits ⟨.one, 20, 0⟩ both ∧ (tryWaits both).rsc.waits = [] ∧ (tryWaits both).rsc.bursts.length = 2)
      ∧ ((ready [⟨.two, 20, 0⟩] []).rsc.bursts = [] ++ ⟨.two, 20, 0⟩ :: []
        ∧ (endBurst .two (ready [⟨.two, 20, 0⟩] [])).rsc.idleEnd = some 5000
        ∧ (endBurst .two (ready [⟨.two, 20, 0⟩, ⟨.one, 20, 0⟩] [])).rsc.idleEnd = none)
      ∧ ((stageWith .mains 60).rsc.capacity = 60 ∧ (stageWith .mains 30).rsc.capacity < 60
        ∧ 0 < (stageWith .lifeline 30).rsc.capacity ∧ (supplyStage (stageWith .lifeline 30)).rsc.state = .off
        ∧ (supplyStage (stageWith .conserve 60)).rsc.state = .ready) := by decide

/-! Voice -/

def voiceIn (f : Voice → Voice) : State :=
  portWith .connected fun q => { q with voice := f { q.voice with state := .prefill, tickAt := some 10 } }
def vf (n : Seq16) : VoiceFrame := { seq := n, samples := Vector.replicate 80 0 }

theorem test_hyps_VoiceFramesAreChecked :
    let playing := (voiceIn fun v => { v with state := .playing, position := some 5, queue := [vf 7] }).hpc2.voice
    (base.powered = true ∧ base.psv.mode = .active ∧ rdVoice [] = none ∧ ([] : List Byte).length ≠ 163)
      ∧ (List.replicate 160 (0 : Byte)).length = 160
      ∧ (base.hpc2.state ≠ .connected ∧ (voiceIn id).hpc2.state = .connected)
      ∧ playing.reference = some 5
      ∧ (¬ (1 ≤ ((5 : Seq16) - 5).toNat ∧ ((5 : Seq16) - 5).toNat ≤ 32767)
        ∧ (1 ≤ ((32772 : Seq16) - 5).toNat ∧ ((32772 : Seq16) - 5).toNat ≤ 32767)
        ∧ ¬ ((32773 : Seq16) - 5).toNat ≤ 32767)
      ∧ ((∃ g ∈ playing.queue, g.seq = 7) ∧ ¬ ∃ g ∈ playing.queue, g.seq = 8) ∧ playing.queue.length < 8
      ∧ 8 ≤ ((voiceIn fun v => { v with queue := List.replicate 8 (vf 7) }).hpc2.voice.queue).length
      ∧ (voiceIn id).hpc2.voice.reference = none := by decide +kernel

theorem test_hyps_FrameClockTicks :
    let v := fun f => (voiceIn f).hpc2.voice
    let playing := fun (n : Nat) (q : List VoiceFrame) =>
      v fun v => { v with state := .playing, position := some 5, queue := q, underruns := n }
    (base.alive = true ∧ base.hpc2.state ≠ .connected ∧ (voiceIn id).hpc2.state = .connected
        ∧ (v id).tickAt = some 10 ∧ (v id).state = .prefill ∧ (v id).queue = [])
      ∧ (let w := v fun v => { v with queue := [vf 1, vf 2, vf 3] }
         w.queue = vf 1 :: [vf 2, vf 3] ∧ (voiceIn id).hpc2.settings.prefill ≤ w.queue.length)
      ∧ ((playing 0 [vf 6]).state = .playing ∧ (playing 0 [vf 6]).queue = vf 6 :: [] ∧ (vf 6).seq = 5 + 1
        ∧ (vf 7).seq ≠ 5 + 1 ∧ (playing 0 [vf 6]).position = some 5)
      ∧ ((playing 3 []).queue = [] ∧ (playing 3 []).underruns < 4 ∧ 4 ≤ (playing 4 []).underruns
        ∧ (playing 4 []).underruns = 4) := by decide

/-- What the phone of port 2 hears: a tone segment that runs, one that is paused, a ring segment; in a call and out of
it. -/
theorem test_hyps_FrameClockTicks_heard :
    let kindOf := fun s : State => s.seq2.run.map fun r => (r.phase, (s.segmentOf r).kind)
    kindOf (seqIn .running 1 0 none) = some (.running, .tone 0) ∧ kindOf (seqIn .paused 1 0 none) = some (.paused, .tone 0)
      ∧ kindOf (seqIn .running 0 0 none) = some (.running, .ringOn) ∧ base.seq2.run = none
      ∧ (seqIn .running 1 0 none).toPhone .two = { tone := base.sst.contents.tones[0]?, playout := .nothing }
      ∧ ((portIn .connected).hpc2.state = .connected ∧ base.hpc2.state ≠ .connected ∧ base.alive = true) := by decide

/-! Line tests -/

theorem test_hyps_TestRequestsAndCancels :
    ((3 : Byte).toNat ≤ 3 ∧ 1 ≤ (1 : Byte).toNat ∧ (16 : Byte).toNat ≤ 16 ∧ (1 : Byte).toNat ≤ 1
        ∧ ¬ (4 : Byte).toNat ≤ 3)
      ∧ (base.psv.stage ≠ .conserve ∧ base.psv.stage ≠ .lifeline ∧ (stageIn .conserve).psv.stage = .conserve)
      ∧ (let s := waitingTest
         s.ltu.queue = [] ++ entry 1 .quietNoise .host .claiming :: [] ∧ TestKind.quietNoise.ctorIdx = (3 : Byte).toNat)
      ∧ (6 ≤ (queueOf 6).ltu.queue.length ∧ (queueOf 5).ltu.queue.length < 6 ∧ (queueOf 5).ltu.queue ≠ []
        ∧ ∀ x ∈ (queueOf 6).ltu.queue, ¬ (x.kind.ctorIdx = (1 : Byte).toNat ∧ x.origin = .host))
      ∧ (base.ltu.queue = [] ∧ base.testGrantable = true ∧ (after (.hazard 130000) base).testGrantable = false
        ∧ (after (.hazard 130000) base).ltu.queue = [])
      ∧ ((1 : Byte) ≠ 0x00 ∧ ∀ e ∈ base.ltu.queue, e.job ≠ (1 : Byte).toNat)
      ∧ ((queueOf 2).ltu.queue = entry 1 .insulation .remote .queued :: [] ++ entry 2 .insulation .remote .queued :: []
        ∧ (entry 2 .insulation .remote .queued).job = (2 : Byte).toNat
        ∧ ∀ x ∈ [entry 1 .insulation .remote .queued], x.job ≠ (2 : Byte).toNat) := by decide

/-- A disruptive test that waits while LINK holds the pair, by the link's state; and the head of the queue cancelled,
alone and before another, with the pair free for it and not. -/
theorem test_hyps_TestRequestsAndCancels_releases :
    let asks := fun s : State =>
      { s with
        ltu := { s.ltu with queue := [entry 1 .quietNoise .host .claiming] }
        pac :=
          { s.pac with
            test := { state := .waiting, since := 0 }
            testInfo := some { job := 1, origin := .host, disruptive := true } } }
    let freed := fun s : State => s.onPac fun p => { p with link := { state := .free, since := 0 } }
    let cancel := fun more =>
      (testing (TestRun.start .quietNoise 50) .settle).onLtu fun l =>
        { l with queue := entry 1 .quietNoise .host .settle :: more }
    (∀ s ∈ [carrying, heldBy .releasing, heldBy .greeting, heldBy .training],
        (asks s).pac.test.state = .waiting ∧ (asks s).pac.testInfo.map (·.disruptive) = some true
          ∧ (asks s).pac.link.state = .held ∧ (asks s).hpc1.state ≠ .connected ∧ (asks s).hpc2.state ≠ .connected
          ∧ (asks s).pac.releaseAsked = false)
      ∧ ((freed (asks (heldBy .greeting))).testGrantable = true
        ∧ ((freed (asks (heldBy .greeting))).onPac fun p => { p with ringSession := true }).testGrantable = false
        ∧ base.pac.test.state ≠ .waiting)
      ∧ (∀ more ∈ [[], [entry 2 .insulation .host .queued]],
          (cancel more).ltu.queue = entry 1 .quietNoise .host .settle :: more ∧ (cancel more).pac.hazardEnd = none
            ∧ (cancel more).pac.link.state ≠ .held ∧ (cancel more).pac.lifeline.state = .free
            ∧ (cancel more).pac.ringSession = false)
      ∧ (let s := (cancel []).onPac fun p => { p with link := { state := .waiting, since := 0 } }
         s.pac.link.state = .waiting ∧ s.pac.hazardEnd = none)
      ∧ (entry 2 .insulation .host .queued).disruptive = true := by decide

/-- LINK waits and the pair is free for no other test: the end of a held test and the cancel of the head let LINK in. -/
theorem test_hyps_TestsMeasureAndEnd_link :
    let s := (testing (TestRun.start .quietNoise 50) .settle).onPac fun p => { p with link := { state := .waiting, since := 0 } }
    s.ltu.queue = [entry 1 .quietNoise .host .settle] ∧ s.ltu.run = some (TestRun.start .quietNoise 50)
      ∧ s.pac.test.state = .held ∧ s.pac.link.state = .waiting ∧ s.pac.hazardEnd = none
      ∧ (s.onPac fun p => { p with hazardEnd := some 30000 }).pac.hazardEnd ≠ none := by decide

/-- TEST_DONE stands ahead of the GREETING that the freed pair brings (R141, log 17). -/
theorem test_done_before_greeting :
    let s := (testing (TestRun.start .quietNoise 50) .settle).onPac fun p => { p with link := { state := .waiting, since := 0 } }
    let t := after (.testCancel 1 [1]) (s.onLks fun k => { k with state := .waiting, wait := some .pair })
    t.lks.state = .greeting
      ∧ t.mpt.notices.map (fun n => match n with | .testDone .. => 1 | .linkState .. => 2 | _ => 0) = [1, 2] := by decide

theorem test_hyps_TestsMeasureAndEnd :
    let start := TestRun.start .quietNoise 50
    let measuring := fun n => { start with settleEnd := none, sampleAt := some 70, taken := n }
    (base.alive = true ∧ base.ltu.run.bind (·.settleEnd) = none ∧ base.ltu.run.bind (·.sampleAt) = none)
      ∧ ((testing start .settle).ltu.run = some start ∧ start.settleEnd = some 50
        ∧ (testing start .settle).ltu.queue = entry 1 .quietNoise .host .settle :: [])
      ∧ ((testing (measuring 14) .measure).ltu.run = some (measuring 14) ∧ (measuring 14).sampleAt = some 70
        ∧ (measuring 14).taken < 15 ∧ 15 ≤ (measuring 15).taken)
      ∧ ((entry 1 .quietNoise .host .measure).repeats ≤ (measuring 15).completed + 1
        ∧ (measuring 15).completed + 1 < { entry 1 .quietNoise .host .measure with repeats := 2 }.repeats)
      ∧ ((testing start .settle).pac.test.state = .held ∧ (testing start .settle).pac.link.state ≠ .waiting)
      ∧ ((rangeOf 0).1 ≤ (rangeOf 0).2 ∧ roundDiv .nearestEven ((rangeOf 0).1 * 16 - 16) 16 < (rangeOf 0).1
        ∧ (rangeOf 0).2 < roundDiv .nearestEven ((rangeOf 0).2 * 16 + 16) 16)
      ∧ (16 * roundDiv .nearestEven 24 16 - 24 = 8 ∧ 16 * roundDiv .nearestEven 40 16 - 40 = -8) := by decide

/-! Faults and maintenance -/

theorem test_hyps_FaultsMergeEvictAndClear :
    let mine := fun r : FaultRecord => r.clearedAt = none ∧ r.code = FaultCode.linkDown ∧ r.source = Source.lks
    let major := record 1 .major none false
    let filled := fun r : FaultRecord => List.replicate 23 major ++ [r]
    ((logOf [major]).flg.log = [] ++ major :: [] ∧ mine major ∧ (record 1 .info none false).count = 1)
      ∧ ((base.flg.log.all fun x => !decide (mine x)) = true ∧ base.flg.log.length < 24)
      ∧ ((logOf (filled (record 2 .info (some 1) true))).flg.log
            = List.replicate 23 major ++ record 2 .info (some 1) true :: []
          ∧ 24 ≤ (filled major).length ∧ (record 2 .info (some 1) true).clearedAt ≠ none)
      ∧ Severity.minor.ctorIdx < Severity.major.ctorIdx ∧ ¬ Severity.major.ctorIdx < Severity.major.ctorIdx
      ∧ (Severity.minor ≠ .critical ∧ major.severity ≠ .critical) := by decide

theorem test_hyps_FaultAckAndRetainedRecord :
    ((∃ r ∈ (logOf [record 257 .major none false]).flg.log, r.seq = (0x01 : Byte) ++ (0x01 : Byte))
        ∧ ∀ r ∈ (logOf [record 257 .major none false]).flg.log, r.seq ≠ (0x01 : Byte) ++ (0x02 : Byte))
      ∧ 2 ≤ (2 : Byte).toNat ∧ (base.alive = true ∧ base.flg.writing = false)
      ∧ (let s := { base with flg := { base.flg with writing := true } }
         s.flg.writing = true ∧ s.psv.stopping = false
           ∧ (s.onPsv fun p => { p with stopping := true }).psv.stopping = true) := by decide

def remote (f : Mcr → Mcr) (enabled : Bool) : State :=
  let s := carrying.onMcr f
  { s with sst := { s.sst with contents := { s.sst.contents with remote := { code := Vector.replicate 6 1, enable := enabled } } } }
def code1 : AccessCode := Vector.replicate 6 1

theorem test_hyps_MaintenanceRequestsAnswered :
    let locked := remote (fun m => { m with lockoutEnd := some 60000 }) true
    let r : TestResult := ⟨1, .quietNoise, .remote, .complete, none, 1, 1, [], none, none, 0⟩
    let tested := fun o => (remote id true).onLtu fun l => { l with results := l.results.set 3 (some { r with origin := o }) }
    (base.alive = true ∧ base.lks.state ≠ .carrying)
      ∧ ((remote (fun m => { m with flight := some ⟨.summary, 1, 0⟩ }) true).mcr.flight ≠ none)
      ∧ ((remote id true).lks.state = .carrying ∧ (remote id true).mcr.flight = none)
      ∧ (4 ≤ (4 : Byte).toNat ∧ TestKind.quietNoise.ctorIdx = (3 : Byte).toNat)
      ∧ ((tested .remote).ltu.resultOf .quietNoise = some r ∧ r.origin ≠ .host
        ∧ ((tested .host).ltu.resultOf .quietNoise).map (·.origin) = some .host ∧ base.ltu.resultOf .quietNoise = none)
      ∧ ((remote id false).remoteEnabled = false ∧ (remote id true).remoteEnabled = true)
      ∧ (locked.mcr.lockoutEnd ≠ none ∧ (remote id true).mcr.lockoutEnd = none)
      ∧ (code1 = (remote id true).sst.contents.remote.code
        ∧ (Vector.replicate 6 2 : AccessCode) ≠ (remote id true).sst.contents.remote.code)
      ∧ (([] : List Nat).filter (fun t => 0 ≤ t + 30000) ++ [0]).length < 3
      ∧ 3 ≤ (([0, 0] : List Nat).filter (fun t => 0 ≤ t + 30000) ++ [0]).length
      ∧ (¬ 1 ≤ (0 : Byte).toNat ∧ (1 ≤ (60 : Byte).toNat ∧ (60 : Byte).toNat ≤ 60) ∧ ¬ (61 : Byte).toNat ≤ 60)
      ∧ ((remote id true).noCall = true
        ∧ ((remote id true).onPort .two fun q => { q with state := .connected }).noCall = false)
      ∧ (remote (fun m => { m with loopback := some ⟨60000, 0⟩ }) true).mcr.loopback = some ⟨60000, 0⟩ := by decide

theorem test_hyps_MaintenanceTimers :
    let s := base.onMcr fun m =>
      { m with
        flight := some ⟨.summary, 1, 0⟩, window := [0], lockoutEnd := some 60000, loopback := some ⟨60000, 0⟩ }
    (base.alive = true ∧ base.mcr.flight = none ∧ base.mcr.window = [] ∧ base.mcr.lockoutEnd = none
        ∧ base.mcr.loopback = none)
      ∧ s.mcr.flight = some ⟨.summary, 1, 0⟩ ∧ s.mcr.window = [0] ∧ s.mcr.lockoutEnd = some 60000
      ∧ s.mcr.loopback = some ⟨60000, 0⟩ ∧ LoopEnd.expired ≠ .reset := by decide

/-! Power and starts -/

theorem test_hyps_MainsAndStages :
    (base.psv.mainsInput = true ∧ base.alive = true ∧ base.psv.debounceEnd = none ∧ base.psv.stage1End = none
        ∧ base.psv.stage = .mains)
      ∧ (dormant.powered = true ∧ dormant.psv.mode = .dormant ∧ dormant.psv.mainsInput ≠ false) ∧ dark.powered = false
      ∧ (base.onPsv fun p => { p with debounceEnd := some 2000 }).psv.debounceEnd = some 2000
      ∧ (let s := base.onPsv fun p => { p with stage := .battery, stage1End := some 1800000 }
         s.psv.stage1End = some 1800000 ∧ s.psv.stage = .battery ∧ s.psv.belowLifeline ≠ 3 ∧ s.psv.belowConserve ≠ 3
           ∧ s.psv.stage ≠ .mains
           ∧ (s.onPsv fun p => { p with belowLifeline := 3 }).psv.belowLifeline = 3)
      ∧ (base.onPsv fun p => { p with stage1End := some 1800000 }).psv.stage ≠ .battery
      ∧ (base.psv.matching = true
        ∧ Conditions.matches ⟨true, false, false, false⟩ ⟨false, false, false, false⟩ base.conditions = false
        ∧ Conditions.matches base.psv.watchMask base.psv.watchPattern base.conditions = true) := by decide

/-- The link that CONSERVE and LIFELINE stage find; and a part in LIFELINE stage, whose next step keeps it there. -/
theorem test_hyps_MainsAndStages_entries :
    let in_ := fun s : State => s.onPsv fun p => { p with stage := .conserve }
    let barred := in_ (onLink fun k => { k with state := .waiting, wait := some .noPermittedRung })
    (∀ s ∈ [carrying, heldBy .greeting, heldBy .training],
        (in_ s).psv.stage = .conserve ∧ (rungIn (in_ s).lks.ladder (in_ s).lks.rung).map (·.power) = some .full
          ∧ (in_ s).hpc1.state ≠ .connected ∧ (in_ s).hpc2.state ≠ .connected
          ∧ (in_ s).pac.link.state ≠ .free ∧ (in_ s).pac.test.state ≠ .waiting)
      ∧ ((in_ carrying).onPort .two fun q => { q with state := .connected }).hpc2.state = .connected
      ∧ (barred.lks.state = .waiting ∧ barred.lks.wait = some .noPermittedRung)
      ∧ ((base.psv.stage ≠ .lifeline ∧ base.lks.state = .off) ∧ (stageIn .lifeline).psv.stage = .lifeline)
      ∧ ((relayIn (moving .copper)).pac.relay.move.map (·.target) = some .copper
        ∧ (relayIn (moving .localPort)).pac.relay.move.map (·.target) = some .localPort
        ∧ (relayIn atLocal).pac.relay.move = none) := by decide

/-- The link and the ports that a return to MAINS or BATTERY finds; and a part at rest on which LIFELINE stage falls. -/
theorem test_hyps_MainsAndStages_returns :
    let off := onLink fun k => { k with enabled := true }
    let barred := onLink fun k => { k with state := .waiting, wait := some .noPermittedRung }
    let shed := fun st => (stageIn st).onPort .two fun q => { q with state := .disabled, cause := some .power }
    ((off.psv.stage = .mains ∧ off.lks.state = .off ∧ off.lks.enabled = true)
        ∧ (barred.lks.state = .waiting ∧ barred.lks.wait = some .noPermittedRung)
        ∧ (carrying.psv.stage = .mains ∧ carrying.lks.state ≠ .off ∧ carrying.lks.state ≠ .waiting)
        ∧ (barred.onPsv fun p => { p with stage := .battery }).psv.stage = .battery)
      ∧ (∀ st ∈ [HoldStage.mains, .battery, .conserve, .lifeline],
          (shed st).psv.stage = st ∧ (shed st).hpc2.state = .disabled ∧ (shed st).hpc2.cause = some .power
            ∧ ((shed st).onPort .two fun q => { q with state := .idle, cause := none }).hpc2.state = .idle)
      ∧ carrying.atRest ∧ (enterStage .lifeline .lifelineThreshold carrying).inLifeline := by
  refine ⟨by decide, by decide, ?_, ?_⟩
  · unfold State.atRest Lks.stopped; decide
  · unfold State.inLifeline Lks.stopped Pac.towardCopper; decide

theorem test_hyps_MainsAndStages_lifeline :
    (stageIn .lifeline).inLifeline ∧ step (stageIn .lifeline) = .next { stageIn .lifeline with clock := 1 }
      ∧ exec .lineError (stageIn .lifeline) = .next (after .lineError (stageIn .lifeline))
      ∧ (after .lineError (stageIn .lifeline)).psv.stage = .lifeline
      ∧ (let s := { stageIn .lifeline with psv := { (stageIn .lifeline).psv with mainsInput := false, batteryInput := 9000 } }
         s.psv.stopping = false ∧ (fullReset .resetPin s).psv.stage = .lifeline) := by
  refine ⟨?_, rfl, rfl, by decide, by decide⟩
  unfold State.inLifeline Lks.stopped Pac.towardCopper; decide

theorem test_hyps_BatteryEnclosureAndWatch :
    let low := fun st => base.onPsv fun p =>
      { p with stage := st, belowConserve := 2, belowLifeline := 2, belowCutoff := 2 }
    (base.alive = true ∧ base.psv.stage = .mains ∧ base.psv.enclosureEnd = none ∧ base.psv.enclosureOpen = false
        ∧ base.psv.enclosureInputOpen = false)
      ∧ ((low .battery).psv.stage = .battery ∧ 11799 < (low .battery).sst.contents.power.conserve
        ∧ ¬ 11800 < (low .battery).sst.contents.power.conserve ∧ ¬ 11799 < (low .battery).sst.contents.power.lifeline)
      ∧ ((low .conserve).psv.stage = .conserve ∧ 11199 < (low .conserve).sst.contents.power.lifeline)
      ∧ ((low .lifeline).psv.stage = .lifeline ∧ 10599 < (low .lifeline).sst.contents.power.cutoff
        ∧ (low .lifeline).psv.belowCutoff = 2 ∧ (low .lifeline).psv.stopping = false ∧ (low .lifeline).loading = false)
      ∧ (base.onPsv fun p => { p with enclosureEnd := some 50 }).psv.enclosureEnd = some 50
      ∧ (base.onPsv fun p => { p with enclosureOpen := true, enclosureEnd := some 50 }).psv.enclosureOpen = true
      ∧ dark.alive = false := by decide

theorem test_hyps_PowerArrivesAndGoes :
    (base.powered = true ∧ dark.powered = false)
      ∧ (dormant.powered = true ∧ dormant.psv.mode = .dormant ∧ dormant.psv.dormantWakeAt ≠ none)
      ∧ (base.psv.mode ≠ .dormant ∧ base.flg.retention.recordGood = true ∧ base.flg.retention.countGood = true)
      ∧ (11800 ≤ 11800 ∧ (11200 ≤ 11799 ∧ 11799 < 11800) ∧ 11199 < 11200)
      ∧ ((saving .lockRecord).sst.store.isSaving = true ∧ base.sst.store.isSaving = false) := by decide

theorem test_hyps_LinesResetLeaves :
    let s := testing (TestRun.start .quietNoise 50) .settle
    ((portIn .offhook).hpc2.state.isLocal = true ∧ (relayIn (moving .copper)).pac.relay.move ≠ none)
      ∧ (base.sst.contents.control.autostart = false ∨ (stageIn .lifeline).psv.stage = .lifeline)
      ∧ (base.lks.state = .off ∧ base.pac.link.state = .free ∧ carrying.lks.state ≠ .off ∧ carrying.lks.state = .carrying)
      ∧ (s.ltu.queue = entry 1 .quietNoise .host .settle :: [] ∧ s.pac.test.state ≠ .free ∧ TestKind.insulation ≠ .quietNoise)
      ∧ (base.ltu.queue = [] ∧ base.pac.test.state = .free) := by decide

/-- The states above that stand for a part that takes a request are ready. -/
theorem test_hyps_ready_states :
    ∀ s ∈ ([linkIn .carrying, carrying, heldBy .waiting, stageIn .lifeline, stageIn .conserve, portIn .offhook,
        portIn .connected, relayIn atLocal, relayIn (moving .copper), seqIn .paused 1 0 none, saving .lockRecord,
        after (.hazard 130000) (base.onMpt fun m => { m with sending := some (.reply reply0) }), waitingTest, queueOf 6,
        logOf [record 257 .major none false], testing (TestRun.start .quietNoise 50) .settle] : List State),
      s.ready := by
  unfold State.ready; decide

end Sys2Proof.Tests
end

section
/-! PROOFS. Chapter 08: FAULT_PURGE (R157), and what a report and a clearing do to the fault log (R149 to R151, R154,
R158). -/

namespace Sys2Proof.Machine

open Sys2Proof

/-! ## A request that is taken at once -/

/-- In ACTIVE mode a wake cause does no more than abandon a granted entry to QUIESCENT (R183, R185). -/
theorem wakeCause_of_active {s : State} (c : WakeCause) (p : Option PortId) (hm : s.psv.mode = .active) :
    wakeCause c p s = s.onPsv fun q => { q with sleepGranted := false } := by
  simp [wakeCause, hm, State.onPsv]

/-- An ACTIVE part that hears a good frame takes it in the state `heard` (R183, R189, R195). -/
theorem arriveFrame_of_active {s : State} (c : Instr) (take : State → State) (hm : s.psv.mode = .active) :
    arriveFrame c take s = pump (endAutonomous (take s.heard)) := by
  unfold arriveFrame takeFrame
  rw [if_neg (by simp [hm]), wakeCause_of_active _ _ (by simpa using hm)]
  rfl

/-- The outcome of a good frame on an ACTIVE part with power: the transmitter, once served, has nothing more to take. -/
theorem frame_of_active {s : State} (c : Instr) (take : State → State) (hp : s.powered = true)
    (hm : s.psv.mode = .active) : frame c take s = .next (pump (endAutonomous (take s.heard))) := by
  have halive : s.alive = true := by simp [State.alive, hp, hm]
  simp only [frame, finish, whenAlive, if_pos halive, arriveFrame_of_active c take hm, pump_pump]

/-- With no reply waiting and the settings loaded, a request whose arguments can be read is carried out (R191). -/
theorem takeRequest_of_free {α : Type} {s : State} {code : Byte} {always : Bool} {decode : List Byte → Option α}
    {body : α → State → Answer × State} {tag : Byte} {args : List Byte} {a : α}
    (hr : s.mpt.replies = []) (hl : s.loading = false) (ha : decode args = some a) :
    takeRequest code always decode body tag args s = queueReply tag code (body a s).1 (body a s).2 := by
  simp [takeRequest, hr, hl, ha]

/-- A part that takes requests answers with what the request's own rule gives in the state `heard`. -/
theorem answers_of_ready {α : Type} {s : State} {c : Instr} {code : Byte} {always : Bool}
    {decode : List Byte → Option α} {body : α → State → Answer × State} {tag : Byte} {args : List Byte} {a : α}
    (hs : s.ready) (hc : exec c s = frame c (takeRequest code always decode body tag args) s)
    (ha : decode args = some a) : Answers c tag code s (body a s.heard).1 (body a s.heard).2 := by
  obtain ⟨hpowered, hmode, hloaded, hreplies⟩ := hs
  unfold Answers Serves Does
  rw [hc, frame_of_active c _ hpowered hmode, takeRequest_of_free (s := s.heard) hreplies hloaded ha]

/-! ## FAULT_PURGE (R157) -/

/-- The records that a purge removes are the CLEARED ones: a record is ACTIVE or CLEARED. -/
theorem length_sub_active (log : List FaultRecord) :
    log.length - (log.filter FaultRecord.active).length = (log.filter fun r => r.clearedAt.isSome).length := by
  have hcleared : (log.filter fun r => decide ¬ r.active = true) = log.filter fun r => r.clearedAt.isSome :=
    congrArg (log.filter ·) (funext fun r => by cases h : r.clearedAt <;> simp [FaultRecord.active, h])
  have hsplit := List.length_eq_countP_add_countP FaultRecord.active (l := log)
  rw [List.countP_eq_length_filter, List.countP_eq_length_filter, hcleared] at hsplit
  omega

/-- What FAULT_PURGE answers and leaves. -/
theorem faultPurgeRequest_eq (s : State) :
    faultPurgeRequest s
      = (Answer.with .ok (u8 (s.flg.log.filter fun r => r.clearedAt.isSome).length),
          { s with flg := { s.flg with log := s.flg.log.filter fun r => r.clearedAt.isNone } }) := by
  simp only [faultPurgeRequest, length_sub_active]
  rfl

/-- Settles O51: the request is carried out at once, and a purge keeps the ACTIVE records in their order. -/
theorem faultPurgeRemovesCleared : Obligations.FaultPurgeRemovesCleared := by
  intro tag rest s hs
  have hanswer := answers_of_ready (c := .faultPurge tag rest) (code := 0x4A) (always := false) (decode := noArgs)
    (body := fun _ => faultPurgeRequest) (tag := tag) (args := rest) (a := ()) hs rfl rfl
  rwa [faultPurgeRequest_eq] at hanswer

/-! ## Codes, severities and the first record that meets a condition -/

theorem FaultRecord.isOf_iff (c : FaultCode) (o : Source) (r : FaultRecord) :
    r.isOf c o = true ↔ r.clearedAt = none ∧ r.code = c ∧ r.source = o := by
  simp [FaultRecord.isOf, FaultRecord.active]

theorem Severity.lower_iff (a b : Severity) : a.lower b = true ↔ a.ctorIdx < b.ctorIdx := by
  simp [Severity.lower]

/-- A severity rises at a merge exactly where the report's is higher (R149, R154). -/
theorem Severity.lower_max (a b : Severity) : a.lower (a.max b) = a.lower b := by
  unfold Severity.max
  split
  · rfl
  · rename_i hb
    simp [Severity.lower] at hb ⊢
    omega

/-- The fields of a record after a merge (R149). -/
theorem FaultRecord.merge_eq (sev : Severity) (at_ : Nat) (detail : List (BitVec 32)) (r : FaultRecord) :
    r.merge sev at_ detail
      = { r with
          count := min (r.count + 1) 65535, lastAt := at_, detail := detail, acked := false
          severity := if r.severity.ctorIdx < sev.ctorIdx then sev else r.severity } := by
  simp only [FaultRecord.merge, Severity.max, Severity.lower_iff, up16, max16]

/-- `mapFirst` changes the entry behind those that do not meet the condition. -/
theorem mapFirst_append_cons {α : Type} {p : α → Bool} (f : α → α) {before : List α} {x : α} (after : List α)
    (hb : ∀ y ∈ before, ¬ p y = true) (hx : p x = true) :
    mapFirst p f (before ++ x :: after) = before ++ f x :: after := by
  induction before with
  | nil => simp [mapFirst, hx]
  | cons y ys ih =>
    rw [List.forall_mem_cons] at hb
    simp [mapFirst, hb.1, ih hb.2]

/-- `eraseFirst` removes the entry behind those that do not meet the condition. -/
theorem eraseFirst_append_cons {α : Type} {p : α → Bool} {before : List α} {x : α} (after : List α)
    (hb : ∀ y ∈ before, ¬ p y = true) (hx : p x = true) :
    eraseFirst p (before ++ x :: after) = before ++ after := by
  induction before with
  | nil => simp [eraseFirst, hx]
  | cons y ys ih =>
    rw [List.forall_mem_cons] at hb
    simp [eraseFirst, hb.1, ih hb.2]

/-! ## The steps of an eviction (R150) -/

/-- The record is CLEARED (R148). -/
def FaultRecord.cleared (r : FaultRecord) : Bool := !r.active

/-- The record is CLEARED and acknowledged: step 1 of R150 takes such a one. -/
def FaultRecord.settled (r : FaultRecord) : Bool := r.cleared && r.acked

theorem FaultRecord.cleared_iff (r : FaultRecord) : r.cleared = true ↔ r.clearedAt ≠ none := by
  simp [FaultRecord.cleared, FaultRecord.active, Option.isSome_iff_ne_none]

theorem FaultRecord.settled_iff (r : FaultRecord) : r.settled = true ↔ r.clearedAt ≠ none ∧ r.acked = true := by
  simp [FaultRecord.settled, FaultRecord.cleared_iff]

/-- The three steps of R150 in the words above. -/
theorem makeRoom_eq (sev : Severity) (log : List FaultRecord) :
    makeRoom sev log
      = if log.any FaultRecord.settled then some (eraseFirst FaultRecord.settled log)
        else if log.any FaultRecord.cleared then some (eraseFirst FaultRecord.cleared log)
        else if log.any (fun r => r.severity.lower sev) then some (eraseFirst (fun r => r.severity.lower sev) log)
        else none := rfl

/-- `v`, behind `before` in the log, is the record that the first successful step of R150 finds for a report of
severity `sev`. -/
def Evicts (sev : Severity) (log before : List FaultRecord) (v : FaultRecord) : Prop :=
  (v.settled = true ∧ ∀ x ∈ before, ¬ x.settled = true)
    ∨ ((∀ x ∈ log, ¬ x.settled = true) ∧ v.cleared = true ∧ ∀ x ∈ before, ¬ x.cleared = true)
    ∨ ((∀ x ∈ log, ¬ x.cleared = true) ∧ v.severity.lower sev = true ∧ ∀ x ∈ before, ¬ x.severity.lower sev = true)

theorem not_settled_of_not_cleared {log : List FaultRecord} (h : ∀ x ∈ log, ¬ x.cleared = true) :
    ∀ x ∈ log, ¬ x.settled = true :=
  fun x hx hs => h x hx (Bool.and_eq_true_iff.mp hs).1

theorem not_any_of_forall {p : FaultRecord → Bool} {log : List FaultRecord} (h : ∀ x ∈ log, ¬ p x = true) :
    ¬ log.any p = true := by
  simpa using h

/-- The log loses the record that the steps find, and keeps the order of the others. -/
theorem makeRoom_of_evicts {sev : Severity} {log before after : List FaultRecord} {v : FaultRecord}
    (hlog : log = before ++ v :: after) (h : Evicts sev log before v) :
    makeRoom sev log = some (before ++ after) := by
  have hfound {p : FaultRecord → Bool} (hv : p v = true) : log.any p = true :=
    List.any_eq_true.mpr ⟨v, by simp [hlog], hv⟩
  have herase {p : FaultRecord → Bool} (hb : ∀ x ∈ before, ¬ p x = true) (hv : p v = true) :
      eraseFirst p log = before ++ after := hlog ▸ eraseFirst_append_cons after hb hv
  rw [makeRoom_eq]
  obtain ⟨hv, hb⟩ | ⟨hn, hv, hb⟩ | ⟨hn, hv, hb⟩ := h
  · rw [if_pos (hfound hv), herase hb hv]
  · rw [if_neg (not_any_of_forall hn), if_pos (hfound hv), herase hb hv]
  · rw [if_neg (not_any_of_forall (not_settled_of_not_cleared hn)), if_neg (not_any_of_forall hn),
      if_pos (hfound hv), herase hb hv]

/-- A log of ACTIVE records, none lower than the report, has no room for it. -/
theorem makeRoom_eq_none {sev : Severity} {log : List FaultRecord} (hc : ∀ x ∈ log, ¬ x.cleared = true)
    (hl : ∀ x ∈ log, ¬ x.severity.lower sev = true) : makeRoom sev log = none := by
  rw [makeRoom_eq, if_neg (not_any_of_forall (not_settled_of_not_cleared hc)), if_neg (not_any_of_forall hc),
    if_neg (not_any_of_forall hl)]

/-! ## The FAULT notice (R154) -/

/-- In `t` MPT is as in `s`, but for the FAULT notice of this record where its severity reaches the threshold. -/
def Noticed (s : State) (e : FaultEvent) (r : FaultRecord) (t : State) : Prop :=
  (r.severity.ctorIdx < s.sst.contents.control.threshold.ctorIdx → t.mpt = s.mpt)
    ∧ (¬ r.severity.ctorIdx < s.sst.contents.control.threshold.ctorIdx → t.mpt = (notice (.fault e r) s).mpt)

theorem noticed_faultNotice (s : State) (e : FaultEvent) (r : FaultRecord) (f : Flg → Flg) :
    Noticed s e r (faultNotice e r (s.onFlg f)) := by
  simp only [Noticed, faultNotice, Severity.lower_iff, State.onFlg_sst]
  constructor
  · intro h; rw [if_pos h]; rfl
  · intro h; rw [if_neg h]; rfl

theorem noticed_congr {s t u : State} {e : FaultEvent} {r : FaultRecord} (hm : u.mpt = t.mpt)
    (h : Noticed s e r t) : Noticed s e r u := by
  unfold Noticed at *
  rwa [hm]

/-! ## What a report does to the log (R149, R150) -/

section Report

variable {c : FaultCode} {o : Source} {s : State} {before after : List FaultRecord} {r : FaultRecord}

/-- The record a search of the log finds: the first of its code and source that is ACTIVE. -/
theorem find_isOf_append_cons (after : List FaultRecord) (hr : r.isOf c o = true)
    (hb : ∀ x ∈ before, ¬ x.isOf c o = true) :
    (before ++ r :: after).find? (FaultRecord.isOf c o) = some r :=
  List.find?_eq_some_iff_append.mpr ⟨hr, before, after, rfl, fun x hx => by simpa using hb x hx⟩

/-- A report for which the log holds an ACTIVE record merges into it. -/
theorem reportLog_merges (sev : Severity) (detail : List (BitVec 32)) (hlog : s.flg.log = before ++ r :: after)
    (hr : r.isOf c o = true) (hb : ∀ x ∈ before, ¬ x.isOf c o = true) :
    reportLog c o sev detail s
      = (let r' := r.merge sev s.uptime detail
         let t := s.onFlg fun f => { f with log := before ++ r' :: after }
         if r.count = 1 ∨ r.severity.ctorIdx < sev.ctorIdx then faultNotice .merged r' t else t) := by
  have hmap := mapFirst_append_cons (fun _ => r.merge sev s.uptime detail) after hb hr
  have hmax : (r.severity.lower (r.merge sev s.uptime detail).severity) = r.severity.lower sev := Severity.lower_max _ _
  unfold reportLog
  rw [hlog, find_isOf_append_cons after hr hb]
  simp only [State.onFlg, hlog, hmap, hmax, Bool.or_eq_true, decide_eq_true_eq, Severity.lower_iff]

/-- A clearing of a fault that has an ACTIVE record marks it (R151). -/
theorem clearFault_marks (hlog : s.flg.log = before ++ r :: after)
    (hr : r.isOf c o = true) (hb : ∀ x ∈ before, ¬ x.isOf c o = true) :
    clearFault c o s
      = (let r' := { r with clearedAt := some s.uptime }
         faultNotice .cleared r' (s.onFlg fun f => { f with log := before ++ r' :: after })) := by
  have hmap := mapFirst_append_cons (fun _ => { r with clearedAt := some s.uptime }) after hb hr
  unfold clearFault
  rw [hlog, find_isOf_append_cons after hr hb]
  simp only [State.onFlg, hlog, hmap]

variable (hnone : ∀ x ∈ s.flg.log, ¬ x.isOf c o = true)
include hnone

/-- A clearing for which the log holds no ACTIVE record does nothing (R151). -/
theorem clearFault_of_none : clearFault c o s = s := by
  unfold clearFault
  rw [List.find?_eq_none.mpr hnone]

/-- A report without an ACTIVE record makes one where the log has room. -/
theorem reportLog_creates (sev : Severity) (detail : List (BitVec 32)) (hroom : s.flg.log.length < 24) :
    reportLog c o sev detail s
      = (let r := FaultRecord.fresh s.flg.next c o sev s.uptime detail
         faultNotice .created r (s.onFlg fun f => { f with log := f.log ++ [r], next := f.next + 1 })) := by
  unfold reportLog
  rw [List.find?_eq_none.mpr hnone]
  exact if_pos hroom

/-- With a full log, a report makes its record in the room that an eviction leaves. -/
theorem reportLog_evicts (sev : Severity) (detail : List (BitVec 32)) {log : List FaultRecord}
    (hfull : 24 ≤ s.flg.log.length) (hmade : makeRoom sev s.flg.log = some log) :
    reportLog c o sev detail s
      = (let r := FaultRecord.fresh s.flg.next c o sev s.uptime detail
         faultNotice .created r
           (s.onFlg fun f => { f with log := log ++ [r], next := f.next + 1, evicted := up16 f.evicted })) := by
  unfold reportLog
  rw [List.find?_eq_none.mpr hnone]
  have hfull : ¬ s.flg.log.length < faultMax := Nat.not_lt.mpr hfull
  simp only [if_neg hfull, hmade]

/-- With a full log in which no step finds a record, a report is dropped and counted. -/
theorem reportLog_drops (sev : Severity) (detail : List (BitVec 32))
    (hfull : 24 ≤ s.flg.log.length) (hmade : makeRoom sev s.flg.log = none) :
    reportLog c o sev detail s = s.onFlg fun f => { f with dropped := up16 f.dropped } := by
  unfold reportLog
  rw [List.find?_eq_none.mpr hnone]
  have hfull : ¬ s.flg.log.length < faultMax := Nat.not_lt.mpr hfull
  simp only [if_neg hfull, hmade]

end Report

/-! ## The retained record (R158) -/

section Retained

variable (c : FaultCode) (o : Source) (sev : Severity) (detail : List (BitVec 32)) (s : State)

theorem report_of_critical : report c o .critical detail s = writeRetained c detail (reportLog c o .critical detail s) :=
  rfl

theorem report_of_ne_critical (h : sev ≠ .critical) : report c o sev detail s = reportLog c o sev detail s :=
  if_neg h

/-! The retained record that a report may write lies apart from the log, its counters and MPT. -/

@[simp] theorem report_flg_log : (report c o sev detail s).flg.log = (reportLog c o sev detail s).flg.log := by
  unfold report; dsimp only; split <;> rfl
@[simp] theorem report_flg_next : (report c o sev detail s).flg.next = (reportLog c o sev detail s).flg.next := by
  unfold report; dsimp only; split <;> rfl
@[simp] theorem report_flg_dropped :
    (report c o sev detail s).flg.dropped = (reportLog c o sev detail s).flg.dropped := by
  unfold report; dsimp only; split <;> rfl
@[simp] theorem report_flg_evicted :
    (report c o sev detail s).flg.evicted = (reportLog c o sev detail s).flg.evicted := by
  unfold report; dsimp only; split <;> rfl
@[simp] theorem report_mpt : (report c o sev detail s).mpt = (reportLog c o sev detail s).mpt := by
  unfold report; dsimp only; split <;> rfl

/-- The log's part of a report leaves the retained record and its write alone. -/
theorem reportLog_retention :
    (reportLog c o sev detail s).flg.retention = s.flg.retention
      ∧ (reportLog c o sev detail s).flg.writing = s.flg.writing := by
  unfold reportLog
  dsimp only
  split
  · split <;> simp
  · split
    · simp
    · split <;> simp

/-- A report that is not CRITICAL leaves the retained record and its write alone. -/
theorem report_retention_of_ne_critical (h : sev ≠ .critical) :
    (report c o sev detail s).flg.retention = s.flg.retention
      ∧ (report c o sev detail s).flg.writing = s.flg.writing := by
  rw [report_of_ne_critical c o sev detail s h]
  exact reportLog_retention c o sev detail s

/-- A CRITICAL report begins a write of the retained record, whatever becomes of the log. -/
theorem report_retention_of_critical :
    let f := (report c o .critical detail s).flg
    f.writing = true ∧ f.retention.startCount = s.flg.retention.startCount
      ∧ f.retention.record
        = some
            { code := c, uptime := s.uptime, startCount := s.flg.retention.startCount
              detail0 := detail.getD 0 0, detail1 := detail.getD 1 0 } := by
  obtain ⟨hretention, -⟩ := reportLog_retention c o .critical detail s
  simp [report_of_critical, writeRetained, hretention, State.uptime]

end Retained

/-! ## The cases of a report, notice included (R149 to R151, R154) -/

section Cases

variable {c : FaultCode} {o : Source} {sev : Severity} {detail : List (BitVec 32)} {s : State}
  {before after : List FaultRecord} {r : FaultRecord}

/-- A merge: the log keeps its place for the record, the counters stand, and the notice follows the first merge and a
rise of the severity only. -/
theorem report_merges (hlog : s.flg.log = before ++ r :: after) (hr : r.isOf c o = true)
    (hb : ∀ x ∈ before, ¬ x.isOf c o = true) :
    let r' := r.merge sev s.uptime detail
    let t := report c o sev detail s
    t.flg.log = before ++ r' :: after
      ∧ (t.flg.next = s.flg.next ∧ t.flg.dropped = s.flg.dropped ∧ t.flg.evicted = s.flg.evicted)
      ∧ (r.count = 1 ∨ r.severity.ctorIdx < sev.ctorIdx → Noticed s .merged r' t)
      ∧ (r.count ≠ 1 → ¬ r.severity.ctorIdx < sev.ctorIdx → t.mpt = s.mpt) := by
  intro r' t
  have hmerge := reportLog_merges sev detail hlog hr hb
  by_cases h : r.count = 1 ∨ r.severity.ctorIdx < sev.ctorIdx
  · simp only [if_pos h] at hmerge
    refine ⟨by simp [t, r', hmerge], by simp [t, hmerge], fun _ => ?_, fun hcount hsev => (h.elim hcount hsev).elim⟩
    exact noticed_congr (report_mpt c o sev detail s) (hmerge ▸ noticed_faultNotice ..)
  · simp only [if_neg h] at hmerge
    exact ⟨by simp [t, r', hmerge], by simp [t, hmerge], fun h' => (h h').elim, fun _ _ => by simp [t, hmerge]⟩

/-- A clearing: the record stands in its place, marked, and the notice follows. -/
theorem clearFault_flg_noticed (hlog : s.flg.log = before ++ r :: after) (hr : r.isOf c o = true)
    (hb : ∀ x ∈ before, ¬ x.isOf c o = true) :
    let r' := { r with clearedAt := some s.uptime }
    (clearFault c o s).flg = { s.flg with log := before ++ r' :: after } ∧ Noticed s .cleared r' (clearFault c o s) := by
  intro r'
  rw [clearFault_marks hlog hr hb]
  exact ⟨by simp [r'], noticed_faultNotice ..⟩

variable (hnone : ∀ x ∈ s.flg.log, ¬ x.isOf c o = true)
include hnone

/-- A new record at the end of a log with room. -/
theorem report_creates (hroom : s.flg.log.length < 24) :
    let fresh := FaultRecord.fresh s.flg.next c o sev s.uptime detail
    let t := report c o sev detail s
    t.flg.log = s.flg.log ++ [fresh] ∧ t.flg.next = s.flg.next + 1 ∧ t.flg.evicted = s.flg.evicted
      ∧ t.flg.dropped = s.flg.dropped ∧ Noticed s .created fresh t := by
  intro fresh t
  have hmade := reportLog_creates hnone sev detail hroom
  exact ⟨by simp [t, fresh, hmade], by simp [t, hmade], by simp [t, hmade], by simp [t, hmade],
    noticed_congr (report_mpt c o sev detail s) (hmade ▸ noticed_faultNotice ..)⟩

/-- A new record at the end of a full log, one record evicted and counted. -/
theorem report_evicts (hfull : 24 ≤ s.flg.log.length) (hlog : s.flg.log = before ++ r :: after)
    (he : Evicts sev s.flg.log before r) :
    let fresh := FaultRecord.fresh s.flg.next c o sev s.uptime detail
    let t := report c o sev detail s
    t.flg.log = before ++ after ++ [fresh] ∧ t.flg.next = s.flg.next + 1 ∧ t.flg.evicted = up16 s.flg.evicted
      ∧ t.flg.dropped = s.flg.dropped ∧ Noticed s .created fresh t := by
  intro fresh t
  have hmade := reportLog_evicts hnone sev detail hfull (makeRoom_of_evicts hlog he)
  exact ⟨by simp [t, fresh, hmade], by simp [t, hmade], by simp [t, hmade], by simp [t, hmade],
    noticed_congr (report_mpt c o sev detail s) (hmade ▸ noticed_faultNotice ..)⟩

/-- A report dropped by a full log of ACTIVE records none of which is lower. -/
theorem report_drops (hfull : 24 ≤ s.flg.log.length)
    (hkeep : ∀ x ∈ s.flg.log, ¬ x.cleared = true ∧ ¬ x.severity.lower sev = true) :
    let t := report c o sev detail s
    t.flg.log = s.flg.log ∧ t.flg.next = s.flg.next ∧ t.flg.evicted = s.flg.evicted
      ∧ t.flg.dropped = up16 s.flg.dropped ∧ t.mpt = s.mpt := by
  have hdrop := reportLog_drops hnone sev detail hfull
    (makeRoom_eq_none (fun x hx => (hkeep x hx).1) fun x hx => (hkeep x hx).2)
  simp [hdrop]

end Cases

/-- Settles O52: by whether the log holds an ACTIVE record of the code and source, then by the room in the log; the
retained record by the severity. -/
theorem faultsMergeEvictAndClear : Obligations.FaultsMergeEvictAndClear := by
  intro c o sev detail s
  refine ⟨?merges, ?others, report_retention_of_ne_critical c o sev detail s, ?critical⟩
  case merges =>
    intro before r after hlog hr hb
    rw [← FaultRecord.isOf_iff] at hr
    simp only [← FaultRecord.isOf_iff] at hb
    have hmerge := report_merges (sev := sev) (detail := detail) hlog hr hb
    rw [FaultRecord.merge_eq] at hmerge
    exact ⟨hmerge, clearFault_flg_noticed hlog hr hb⟩
  case others =>
    intro hnone
    simp only [← FaultRecord.isOf_iff] at hnone
    refine ⟨clearFault_of_none hnone, report_creates hnone, ?evicts, ?drops⟩
    case evicts =>
      intro before v after hfull hlog he
      have hvictim : Evicts sev s.flg.log before v := by
        simpa only [Evicts, FaultRecord.settled_iff, FaultRecord.cleared_iff, Severity.lower_iff] using he
      exact report_evicts hnone hfull hlog hvictim
    case drops =>
      intro hfull hkeep
      simp only [← FaultRecord.cleared_iff, ← Severity.lower_iff] at hkeep
      exact report_drops hnone hfull hkeep
  case critical =>
    rintro rfl
    exact report_retention_of_critical c o detail s

end Sys2Proof.Machine
end

section
/-! PROOFS. Every good frame, whatever its request, keeps the invariants of Safety.lean; so does the end of the wake delay, which
takes the frames that were kept. -/

namespace Sys2Proof.Machine
open Sys2Proof State

variable {B K F L : Prop} {q₀ : List Instr} {r₀ : List Reply} {c₀ : Sst × HoldStage} {s t : State}

/-! ### What a good frame does -/

theorem State.Keeps.fine (h : Keeps B K F L c₀ q₀ r₀ none s) : Fine B K F L q₀ r₀ s := ⟨c₀, h⟩

/-- A request whose body fixes the settings. -/
theorem takeRequest_of_keeps {α : Type} (code : Byte) (always : Bool) (decode : List Byte → Option α)
    {body : α → State → Answer × State}
    (hb : ∀ a s c₀ r₀, Keeps B K F L c₀ q₀ r₀ none s → Keeps B K F L c₀ q₀ r₀ none (body a s).2) (tag : Byte)
    (args : List Byte) (h : Good B K F L q₀ s) : Good B K F L q₀ (takeRequest code always decode body tag args s) :=
  takeRequest_good code always decode (fun a s c r h => (hb a s c r h).fine) tag args h

/-- Every good frame keeps the invariants. -/
theorem frameMeaning_good (c : Instr) (h : Good B K F L q₀ s) : Good B K F L q₀ (frameMeaning c s) := by
  cases c with
  | settingPut tag args =>
    dsimp only [frameMeaning, takeSettingPut]
    exact takeRequest_good _ _ _ (fun a _ _ _ h => settingPut_fine a h) tag args h
  | settingsSave tag args =>
    dsimp only [frameMeaning, takeSettingsSave]
    exact takeRequest_good _ _ _ (fun _ _ _ _ h => settingsSave_fine h) tag args h
  | settingsLock tag args =>
    dsimp only [frameMeaning, takeSettingsLock]
    exact takeRequest_good _ _ _ (fun n _ _ _ h => settingsLock_fine n h) tag args h
  | heartbeat tag args =>
    dsimp only [frameMeaning, takeHeartbeat]
    exact takeRequest_of_keeps _ _ _ (fun _ _ _ _ h => h) tag args h
  | getStatus tag args =>
    dsimp only [frameMeaning, takeGetStatus]
    exact takeRequest_of_keeps _ _ _ (fun _ _ _ _ h => h) tag args h
  | unknownRequestCode tag args =>
    dsimp only [frameMeaning, takeUnknownRequestCode]
    exact takeRequest_of_keeps _ _ _ (fun _ _ _ _ h => h) tag args h
  | linkStatus tag args =>
    dsimp only [frameMeaning, takeLinkStatus]
    exact takeRequest_of_keeps _ _ _ (fun _ _ _ _ h => h) tag args h
  | faultRead tag args =>
    dsimp only [frameMeaning, takeFaultRead]
    exact takeRequest_of_keeps _ _ _ (fun _ _ _ _ h => h) tag args h
  | retainedRead tag args =>
    dsimp only [frameMeaning, takeRetainedRead]
    exact takeRequest_of_keeps _ _ _ (fun _ _ _ _ h => h) tag args h
  | remoteStatus tag args =>
    dsimp only [frameMeaning, takeRemoteStatus]
    exact takeRequest_of_keeps _ _ _ (fun _ _ _ _ h => h) tag args h
  | powerStatus tag args =>
    dsimp only [frameMeaning, takePowerStatus]
    exact takeRequest_of_keeps _ _ _ (fun _ _ _ _ h => h) tag args h
  | partReset tag args =>
    dsimp only [frameMeaning, takePartReset]
    exact takeRequest_of_keeps _ _ _ (fun n _ _ _ h => partReset_keeps n h) tag args h
  | sleep tag args =>
    dsimp only [frameMeaning, takeSleep]
    exact takeRequest_of_keeps _ _ _ (fun _ _ _ _ h => sleepRequest_keeps h) tag args h
  | noticeMask tag args =>
    dsimp only [frameMeaning, takeNoticeMask]
    exact takeRequest_of_keeps _ _ _ (fun n _ _ _ h => noticeMaskRequest_keeps n h) tag args h
  | settingGet tag args =>
    dsimp only [frameMeaning, takeSettingGet]
    exact takeRequest_of_keeps _ _ _ (fun a _ _ _ h => settingGetRequest_keeps a h) tag args h
  | linkEnable tag args =>
    dsimp only [frameMeaning, takeLinkEnable]
    exact takeRequest_of_keeps _ _ _ (fun _ _ _ _ h => linkEnableRequest_keeps h) tag args h
  | linkDisable tag args =>
    dsimp only [frameMeaning, takeLinkDisable]
    exact takeRequest_of_keeps _ _ _ (fun _ _ _ _ h => linkDisableRequest_keeps h) tag args h
  | linkRetrain tag args =>
    dsimp only [frameMeaning, takeLinkRetrain]
    exact takeRequest_of_keeps _ _ _ (fun _ _ _ _ h => linkRetrainRequest_keeps h) tag args h
  | linkRungSet tag args =>
    dsimp only [frameMeaning, takeLinkRungSet]
    exact takeRequest_of_keeps _ _ _ (fun n _ _ _ h => linkRungSetRequest_keeps n h) tag args h
  | linkHistory tag args =>
    dsimp only [frameMeaning, takeLinkHistory]
    exact takeRequest_of_keeps _ _ _ (fun a _ _ _ h => linkHistoryRequest_keeps a h) tag args h
  | lifelineSelect tag args =>
    dsimp only [frameMeaning, takeLifelineSelect]
    exact takeRequest_of_keeps _ _ _ (fun n _ _ _ h => lifelineSelectRequest_keeps n h) tag args h
  | portEnable tag args =>
    dsimp only [frameMeaning, takePortEnable]
    exact takeRequest_of_keeps _ _ _ (fun n _ _ _ h => onNamedPort_keeps n (fun p _ h => enableOn_keeps p h) h) tag args h
  | portDisable tag args =>
    dsimp only [frameMeaning, takePortDisable]
    exact takeRequest_of_keeps _ _ _ (fun n _ _ _ h => onNamedPort_keeps n (fun p _ h => disableOn_keeps p h) h) tag args h
  | portRing tag args =>
    dsimp only [frameMeaning, takePortRing]
    exact takeRequest_of_keeps _ _ _ (fun a _ _ _ h => onNamedPort_keeps a.1 (fun p _ h => ringOn_keeps a.2 p h) h) tag args h
  | portConnect tag args =>
    dsimp only [frameMeaning, takePortConnect]
    exact takeRequest_of_keeps _ _ _ (fun n _ _ _ h => onNamedPort_keeps n (fun p _ h => connectOn_keeps p h) h) tag args h
  | portRelease tag args =>
    dsimp only [frameMeaning, takePortRelease]
    exact takeRequest_of_keeps _ _ _ (fun n _ _ _ h => onNamedPort_keeps n (fun p _ h => releaseOn_keeps p h) h) tag args h
  | portTone tag args =>
    dsimp only [frameMeaning, takePortTone]
    exact takeRequest_of_keeps _ _ _ (fun a _ _ _ h => portToneRequest_keeps a h) tag args h
  | portDigitsRead tag args =>
    dsimp only [frameMeaning, takePortDigitsRead]
    exact takeRequest_of_keeps _ _ _ (fun a _ _ _ h => onNamedPort_keeps a.1 (fun p _ h => digitsOn_keeps a.2 p h) h) tag args h
  | portStatus tag args =>
    dsimp only [frameMeaning, takePortStatus]
    exact takeRequest_of_keeps _ _ _ (fun n _ _ _ h => onNamedPort_keeps n (fun p _ h => statusOn_keeps p h) h) tag args h
  | seqPause tag args =>
    dsimp only [frameMeaning, takeSeqPause]
    exact takeRequest_of_keeps _ _ _ (fun n _ _ _ h => onNamedPort_keeps n (fun p _ h => pauseOn_keeps p h) h) tag args h
  | seqResume tag args =>
    dsimp only [frameMeaning, takeSeqResume]
    exact takeRequest_of_keeps _ _ _ (fun n _ _ _ h => onNamedPort_keeps n (fun p _ h => resumeOn_keeps p h) h) tag args h
  | seqStop tag args =>
    dsimp only [frameMeaning, takeSeqStop]
    exact takeRequest_of_keeps _ _ _ (fun n _ _ _ h => onNamedPort_keeps n (fun p _ h => stopOn_keeps p h) h) tag args h
  | ringSupplyReset tag args =>
    dsimp only [frameMeaning, takeRingSupplyReset]
    exact takeRequest_of_keeps _ _ _ (fun _ _ _ _ h => ringSupplyResetRequest_keeps h) tag args h
  | testRequest tag args =>
    dsimp only [frameMeaning, takeTestRequest]
    exact takeRequest_of_keeps _ _ _ (fun a _ _ _ h => testRequestRequest_keeps a h) tag args h
  | testCancel tag args =>
    dsimp only [frameMeaning, takeTestCancel]
    exact takeRequest_of_keeps _ _ _ (fun n _ _ _ h => testCancelRequest_keeps n h) tag args h
  | testResult tag args =>
    dsimp only [frameMeaning, takeTestResult]
    exact takeRequest_of_keeps _ _ _ (fun n _ _ _ h => testResultRequest_keeps n h) tag args h
  | faultAck tag args =>
    dsimp only [frameMeaning, takeFaultAck]
    exact takeRequest_of_keeps _ _ _ (fun a _ _ _ h => faultAckRequest_keeps a h) tag args h
  | faultPurge tag args =>
    dsimp only [frameMeaning, takeFaultPurge]
    exact takeRequest_of_keeps _ _ _ (fun _ _ _ _ h => faultPurgeRequest_keeps h) tag args h
  | retainedClear tag args =>
    dsimp only [frameMeaning, takeRetainedClear]
    exact takeRequest_of_keeps _ _ _ (fun _ _ _ _ h => clearRetained_keeps h) tag args h
  | remoteCountsClear tag args =>
    dsimp only [frameMeaning, takeRemoteCountsClear]
    exact takeRequest_of_keeps _ _ _ (fun _ _ _ _ h => clearCounts_keeps h) tag args h
  | supplyWatchSet tag args =>
    dsimp only [frameMeaning, takeSupplyWatchSet]
    exact takeRequest_of_keeps _ _ _ (fun a _ _ _ h => supplyWatchRequest_keeps a h) tag args h
  | voiceDown tag body => exact Good.keeps (fun _ _ _ h => voiceFrame_keeps body h) h
  | _ => exact h

theorem exec_of_isFrame {c : Instr} (hc : c.isFrame = true) (s : State) : exec c s = frame c (frameMeaning c) s := by
  cases c <;> first | rfl | cases hc

/-! ### The end of the wake delay -/

theorem takeHeld_good (cs : List Instr) (h : Good B K F L q₀ s) : Good B K F L q₀ (takeHeld cs s) := by
  induction cs generalizing s with
  | nil => exact h
  | cons c rest ih =>
    exact ih (takeFrame_good (fun _ h => frameMeaning_good c h)
      (Good.keeps (fun _ _ _ h => wakeCause_keeps .hostFrame none h) h))

theorem wakeEnds_good (w : Wake) (h : Good B K F L q₀ s) : Good B K F L q₀ (wakeEnds w s) := by
  have h1 := pump_good (Good.keeps (fun _ _ _ h => becomeActive_keeps w h) h)
  have h2 := Good.keeps (f := fun s => s.onMpt fun m => { m with held := [] })
    (fun _ _ _ h => onMpt_keeps h (by simp [Mpt.bounded])) h1
  have h3 := Good.keeps (f := takeHeldOffHook .one) (fun _ _ _ h => takeHeldOffHook_keeps .one h)
    (takeHeld_good (pump (becomeActive w s)).mpt.held h2)
  exact Good.keeps (f := takeHeldOffHook .two) (fun _ _ _ h => takeHeldOffHook_keeps .two h) h3

theorem wakeDelayEnd_good (h : Good B K F L q₀ s) : Good B K F L q₀ (wakeDelayEnd s) := by
  unfold wakeDelayEnd
  split
  · exact h
  · exact wakeEnds_good _ (Good.keeps (f := fun s => s.reach _) (fun _ _ _ h => reach_keeps h _) h)

end Sys2Proof.Machine
end

section
/-! PROOFS. Every event, every command and every step keeps the invariants of Safety.lean. -/

namespace Sys2Proof.Machine
open Sys2Proof State

variable {B K F L : Prop} {q₀ : List Instr} {r₀ : List Reply} {c₀ : Sst × HoldStage} {s t : State}

/-! ### What an event does -/

/-- The command of a timer keeps the invariants if its effect does. -/
theorem timer_good {due : State → Option Nat} {f : State → State}
    (hf : ∀ c₀ r₀ s, Keeps B K F L c₀ q₀ r₀ none s → Keeps B K F L c₀ q₀ r₀ none (f s)) (h : Good B K F L q₀ s)
    (e : event (fun s => onExpiry (due s) f s) s = .next t) : Good B K F L q₀ t :=
  event_keeps (fun _ _ _ h => onExpiry_keeps (fun _ h => hf _ _ _ h) h) h e

/-- The command of a timer that does not run while the link is stopped: its effect does not come up in LIFELINE stage. -/
theorem linkTimer_good {due : State → Option Nat} {f : State → State} (hd : ∀ s, s.lks.stopped → due s = none)
    (hf : ∀ c₀ r₀ s, Keeps B K F False c₀ q₀ r₀ none s → Keeps B K F False c₀ q₀ r₀ none (f s)) (h : Good B K F L q₀ s)
    (e : event (fun s => onExpiry (due s) f s) s = .next t) : Good B K F L q₀ t :=
  event_keeps (fun _ _ _ h => onExpiry_timer (fun hs => hd _ hs.2.1) (fun _ h => hf _ _ _ h) h) h e

/-- What an event does to a link in one state other than OFF does not come up in LIFELINE stage. -/
theorem inLinkState_good {st : LinkState} (hn : st ≠ .off) {f : State → State}
    (hf : ∀ c₀ r₀ s, s.lks.state = st → Keeps B K F False c₀ q₀ r₀ none s → Keeps B K F False c₀ q₀ r₀ none (f s))
    (h : Good B K F L q₀ s) (e : event (inLinkState st f) s = .next t) : Good B K F L q₀ t :=
  event_keeps (fun _ _ _ h => inLinkState_keeps st hn (fun _ hs h => hf _ _ _ hs h) h) h e

/-- An event that acts only under a condition. -/
theorem guarded_good {p : State → Bool} {f : State → State} (hf : ∀ s, Good B K F L q₀ s → Good B K F L q₀ (f s))
    (h : Good B K F L q₀ s) (e : event (fun s => if p s then f s else s) s = .next t) : Good B K F L q₀ t := by
  refine event_good (fun s h => ?_) h e
  split
  · exact hf s h
  · exact h

/-- A maintenance request keeps the invariants if what serves it does. -/
theorem maintenance_good {kind : MaintKind} {ref : Byte} {serve : State → (MaintStatus × MaintData) × State}
    (hs : ∀ c₀ r₀ s, Keeps B K F L c₀ q₀ r₀ none s → Keeps B K F L c₀ q₀ r₀ none (serve s).2) (h : Good B K F L q₀ s)
    (e : event (maintenance kind ref serve) s = .next t) : Good B K F L q₀ t :=
  event_keeps (fun _ _ _ h => maintenance_keeps kind ref (fun _ h => hs _ _ _ h) h) h e

theorem batteryReading_good (mv : Nat) (s : State) (h : Good B K F L q₀ s) : Good B K F L q₀ (batteryReading mv s) := by
  obtain ⟨c, r, h⟩ := h
  exact Staged.good (batteryReading_keeps mv h)

/-- The events that may bring the part into LIFELINE stage with another start of its blocks or another stage. -/
def startsOrStages : Instr → Bool
  | .resetPin | .transmitterFree | .mainsDebounceExpiry | .powerOn .. | .powerLoss | .dormantWake .. => true
  | _ => false

/-- Every other event keeps the invariants. -/
theorem exec_event_good (c : Instr) (hc : c.isFrame = false) (hn : startsOrStages c = false) (h : Good B K F L q₀ s)
    (e : exec c s = .next t) : Good B K F L q₀ t := by
  cases c with
  | frameDiscard bytes => exact event_keeps (fun _ _ _ h => frameDiscard_keeps bytes h) h e
  | receiverGap => exact event_keeps (fun _ _ _ h => receiverGap_keeps h) h e
  | loadingDone u => exact event_good (fun _ h => loadingDone_good u h) h e
  | saveWriteDone good =>
    refine event_good (fun _ h => ?_) h e
    obtain ⟨c, r, h⟩ := h
    obtain ⟨c, h⟩ := saveWriteDone_fine good h
    exact ⟨c, r, h⟩
  | copperOffhook => exact event_keeps (fun _ _ _ h => copperOffhook_due h) h e
  | copperOnhook => exact timer_good (fun _ _ _ h => copperOnhook_keeps h) h e
  | exchangeBurstStart => exact event_keeps (fun _ _ _ h => burstStart_keeps h) h e
  | exchangeBurstEnd => exact event_keeps (fun _ _ _ h => burstEnd_keeps h) h e
  | exchangeRingSessionEnd => exact timer_good (fun _ _ _ h => sessionEnds_keeps h) h e
  | hazard peakMv => exact event_keeps (fun _ _ _ h => hazard_keeps peakMv h) h e
  | hazardVoltageFall => exact event_keeps (fun _ _ _ h => hazardVoltageFall_keeps h) h e
  | hazardHoldEnd => exact timer_good (fun _ _ _ h => holdEnds_keeps h) h e
  | pairWaitLimit => exact timer_good (fun _ _ _ h => pairUnavailable_keeps h) h e
  | relayMoveComplete => exact timer_good (fun _ _ _ h => completeMove_keeps h) h e
  | linkAbsenceExpiry =>
    exact timer_good (fun _ _ _ h => autoLifeline_keeps (onPac_keeps h (by simp) (by simp) (by simp) (by simp))) h e
  | greeted => exact inLinkState_good (by decide) (fun _ _ _ _ h => enterTraining_keeps h) h e
  | refused => exact inLinkState_good (by decide) (fun _ _ _ _ h => failAttempt_keeps _ h) h e
  | greetingTimeout => exact linkTimer_good (fun _ h => h.2.1.1) (fun _ _ _ h => failAttempt_keeps _ h) h e
  | attained down up margin =>
    exact inLinkState_good (by decide) (fun _ _ _ hs h => attainedReport_keeps _ (fun _ => by simp [hs]) h) h e
  | notAttainable =>
    exact inLinkState_good (by decide) (fun _ _ _ hs h => stepTraining_keeps (fun _ => by simp [hs]) h) h e
  | lost => exact inLinkState_good (by decide) (fun _ _ _ _ h => failAttempt_keeps _ h) h e
  | trainingTimeout => exact linkTimer_good (fun _ h => h.2.1.2.1) (fun _ _ _ h => failAttempt_keeps _ h) h e
  | signalLost => exact event_keeps (fun _ _ _ h => signalLost_keeps h) h e
  | signalPresent => exact event_keeps (fun _ _ _ h => signalPresent_keeps h) h e
  | lossTimer => exact linkTimer_good (fun _ h => h.2.1.2.2.1) (fun _ _ _ h => lossDrop_keeps h) h e
  | backoffResetTime =>
    exact timer_good (fun _ _ _ h => onLks_keeps h (by simp) (by simp) (by simp)) h e
  | closeAck => exact inLinkState_good (by decide) (fun _ _ _ _ h => endReleasing_keeps h) h e
  | releasingTimeout => exact linkTimer_good (fun _ h => h.2.1.2.2.2) (fun _ _ _ h => endReleasing_keeps h) h e
  | backoffEnd => exact linkTimer_good (fun _ h => h.2.2.1) (fun _ _ _ h => beginAttempt_keeps _ h) h e
  | upstreamCell cell => exact event_keeps (fun _ _ _ h => upstreamCell_keeps cell h) h e
  | downstreamCell cell => exact event_keeps (fun _ _ _ h => downstreamCell_keeps cell h) h e
  | loopedCell => exact event_keeps (fun _ _ _ h => loopedCell_keeps h) h e
  | powerDropGraceExpiry => exact linkTimer_good (fun _ h => h.2.2.2.2) (fun _ _ _ h => powerDrop_keeps h) h e
  | lineReport r => exact event_keeps (fun _ _ _ h => takeReport_keeps r h) h e
  | impulseEvent ms guarded => exact event_keeps (fun _ _ _ h => onLks_keeps h (by simp) (by simp) (by simp)) h e
  | ringGuardClose => exact timer_good (fun _ _ _ h => onLks_keeps h (by simp) (by simp) (by simp)) h e
  | intervalClose r => exact guarded_good (fun _ h => Good.keeps (fun _ _ _ h => takeReport_keeps r h) h) h e
  | consecutiveSevereLimit r => exact guarded_good (fun _ h => Good.keeps (fun _ _ _ h => takeReport_keeps r h) h) h e
  | qualityGraceExpiry => exact linkTimer_good (fun _ h => h.2.2.2.1) (fun _ _ _ h => qualityDrop_keeps h) h e
  | dropWindowExpiry =>
    exact timer_good (fun _ _ _ h => onLks_keeps h (by simp; omega) (by simp) (by simp)) h e
  | stormClearTime => exact timer_good (fun _ _ _ h => clearFault_keeps _ _ (clearFault_keeps _ _ h)) h e
  | stepUpClockFull r => exact guarded_good (fun _ h => Good.keeps (fun _ _ _ h => takeReport_keeps r h) h) h e
  | trialWatchEnd => exact timer_good (fun _ _ _ h => trialEnd_keeps h) h e
  | barrierExpiry rung => exact timer_good (fun _ _ _ h => barrierExpires_keeps rung h) h e
  | offhookRecognised p => exact timer_good (fun _ _ _ h => offhookRecognised_keeps p h) h e
  | breakEnd p ms => exact event_keeps (fun _ _ _ h => breakEnd_keeps p ms h) h e
  | hangUp p => exact event_keeps (fun _ _ _ h => hangUp_due p h) h e
  | pulseDigitEnd p => exact timer_good (fun _ _ _ h => interDigitEnds_keeps p h) h e
  | toneDigit p d gap => exact event_keeps (fun _ _ _ h => toneDigit_keeps p d gap h) h e
  | toneDigitEnd p => exact event_keeps (fun _ _ _ h => toneDigitEnd_keeps p h) h e
  | receiverOffHookTimeout p => exact event_keeps (fun _ _ _ h => enterHowler_due p h) h e
  | howlerTimeout p => exact event_keeps (fun _ _ _ h => enterLockout_due p h) h e
  | lineFault p kind => exact event_keeps (fun _ _ _ h => lineFault_keeps p kind h) h e
  | lineFaultGone p => exact event_keeps (fun _ _ _ h => lineFaultGone_keeps p h) h e
  | faultRetryTimeout p => exact timer_good (fun _ _ _ h => retryRunsOut_keeps p h) h e
  | portFaultHistoryExpiry p => exact event_keeps (fun _ _ _ h => faultHistory_keeps p h) h e
  | segmentEnd p => exact timer_good (fun _ _ _ h => segmentRunsOut_keeps p h) h e
  | chargeDone => exact timer_good (fun _ _ _ h => supplyReady_keeps h) h e
  | supplyIdleTimeout => exact timer_good (fun _ _ _ h => onRsc_keeps h (by simp)) h e
  | burstWaitTimeout p => exact timer_good (fun _ _ _ h => skipWaiter_keeps p h) h e
  | supplyFault kind => exact guarded_good (fun _ h => Good.keeps (fun _ _ _ h => supplyFaults_keeps kind h) h) h e
  | supplyRetryTimeout => exact timer_good (fun _ _ _ h => supplyRetries_keeps h) h e
  | supplyFaultHistoryExpiry => exact timer_good (fun _ _ _ h => onRsc_keeps h (by simp; omega)) h e
  | frameTick p audio => exact event_keeps (fun _ _ _ h => frameTick_keeps p audio h) h e
  | underrunLimit p audio =>
    exact guarded_good (fun _ h => Good.keeps (fun _ _ _ h => frameTick_keeps p audio h) h) h e
  | settleEnd => exact event_keeps (fun _ _ _ h => settled_keeps h) h e
  | measurePeriodEnd xs => exact event_keeps (fun _ _ _ h => takeSamples_keeps xs h) h e
  | repeatComplete xs => exact guarded_good (fun _ h => Good.keeps (fun _ _ _ h => takeSamples_keeps xs h) h) h e
  | retainedWriteDone => exact event_good (fun _ h => retainedWriteDone_good h) h e
  | summary ref => exact maintenance_good (fun _ _ _ h => serveSummary_keeps h) h e
  | resultRead ref kind => exact maintenance_good (fun _ _ _ h => serveResult_keeps kind h) h e
  | testStart ref code kind repeats =>
    exact maintenance_good (fun _ _ _ h => privileged_keeps _ code _ (fun _ h => startRemoteTest_keeps kind repeats h) h) h e
  | loopbackStart ref code minutes =>
    exact maintenance_good (fun _ _ _ h => privileged_keeps _ code _ (fun _ h => startLoopback_keeps _ h) h) h e
  | loopbackStop ref code =>
    exact maintenance_good (fun _ _ _ h => privileged_keeps _ code _ (fun _ h => stopLoopback_keeps h) h) h e
  | unknownMaintenanceRequest ref => exact maintenance_good (fun _ _ _ h => h) h e
  | maintenanceAck ref => exact event_keeps (fun _ _ _ h => acknowledged_keeps ref h) h e
  | maintenanceAckTimeout => exact timer_good (fun _ _ _ h => onMcr_keeps h (by simp)) h e
  | attemptWindowExpiry => exact timer_good (fun _ _ _ h => onMcr_keeps h (by simp; omega)) h e
  | lockoutEnd => exact timer_good (fun _ _ _ h => remoteEvent_keeps _ (onMcr_keeps h (by simp))) h e
  | loopbackExpiry => exact timer_good (fun _ _ _ h => endLoopback_keeps _ h) h e
  | mainsInputChange present => exact finish_good (Good.keeps (fun _ _ _ h => mainsInputChange_keeps present h) h) e
  | batteryReading mv => exact event_good (batteryReading_good mv) h e
  | thresholdMet mv => exact guarded_good (batteryReading_good mv) h e
  | stage1Timeout =>
    refine event_good (fun s h => ?_) h e
    obtain ⟨c, r, h⟩ := h
    unfold onExpiry
    split
    · exact ⟨c, r, h⟩
    · exact Staged.good (stage1Expires_keeps (reach_keeps h _))
  | enclosureInputChange isOpen =>
    exact finish_good (Good.keeps (fun _ _ _ h => enclosureInputChange_keeps isOpen h) h) e
  | enclosureDebounceExpiry => exact timer_good (fun _ _ _ h => enclosureChanges_keeps h) h e
  | wakeDelayEnd => exact event_good (fun _ h => wakeDelayEnd_good h) h e
  | hostSilenceTimeout => exact timer_good (fun _ _ _ h => enterAutonomous_keeps h) h e
  | upstreamCellSent => exact event_keeps (fun _ _ _ h => upstreamCellSent_keeps h) h e
  | downstreamCellHanded => exact event_keeps (fun _ _ _ h => downstreamCellHanded_keeps h) h e
  | loopCurrentChange p present =>
    exact finish_good (Good.keeps (fun _ _ _ h => loopCurrentChange_keeps p present h) h) e
  | syncByte byte => exact event_keeps (fun _ _ _ h => onMpt_keeps h (by simp [Mpt.bounded])) h e
  | lineError => exact event_keeps (fun _ _ _ h => lineError_keeps h) h e
  | resetPin | transmitterFree | mainsDebounceExpiry | powerOn | powerLoss | dormantWake => cases hn
  | _ => cases hc

/-- Every command keeps the invariants, and what LIFELINE stage demands where the part is in that stage afterwards. -/
theorem exec_good (c : Instr) (h : Good B K F L q₀ s) (e : exec c s = .next t) :
    Good B K F (L ∧ t.psv.stage = .lifeline) q₀ t := by
  by_cases hc : c.isFrame = true
  · rw [exec_of_isFrame hc] at e
    exact Good.weaken And.left (frame_good c (fun _ h => frameMeaning_good c h) h e)
  simp only [Bool.not_eq_true] at hc
  by_cases hn : startsOrStages c = false
  · exact Good.weaken And.left (exec_event_good c hc hn h e)
  cases c with
  | resetPin => exact event_staged (fun _ h => fullReset_good _ h) h e
  | transmitterFree => exact event_staged (fun _ h => transmitterFree_good h) h e
  | mainsDebounceExpiry =>
    refine event_staged (fun s h => ?_) h e
    unfold onExpiry
    split
    · exact Good.weaken And.left h
    · exact declareMains_good _ (Good.keeps (f := fun s => s.reach _) (fun _ _ _ h => reach_keeps h _) h)
  | powerOn m v o a b =>
    refine finish_staged ?_ e
    split
    · exact Good.weaken And.left h
    · exact Good.weaken And.right (checkedStart_good _ m v o a b h)
  | powerLoss =>
    refine finish_staged ?_ e
    split
    · exact Good.weaken And.right (losePower_good h)
    · exact Good.weaken And.left h
  | dormantWake v a b =>
    refine finish_staged ?_ e
    unfold dormantWake
    split
    · exact Good.weaken And.right (checkedStart_good _ _ v _ a b h)
    · exact Good.weaken And.left h
  | _ => exact absurd rfl hn

/-! ### A step -/

/-- No invariant speaks of the queue of commands. -/
theorem good_pending (h : Good B K F L q₀ s) (q : List Instr) : Good B K F L q { s with pending := q } := by
  obtain ⟨c, r, h⟩ := h
  exact ⟨c, r, h.store, rfl, h.replies, h.pair, h.bounds, h.link, h.distinct, h.single, h.two, h.rest, h.place, h.held⟩

theorem good_clock (h : Good B K F L q₀ s) (n : Nat) : Good B K F L q₀ { s with clock := n } := by
  obtain ⟨c, r, h⟩ := h
  exact ⟨c, r, h.store, h.queue, h.replies, h.pair, h.bounds, h.link, h.distinct, h.single, h.two, h.rest, h.place, h.held⟩

theorem tick_good (h : Good B K F L q₀ s) : ∃ q, Good B K F L q (tick s) := by
  have hc := Good.keeps (f := fun s => (s.choose (dueEvents s).length).2) (fun _ _ _ h => choose_keeps h _) h
  unfold tick
  dsimp only
  split
  · exact ⟨_, good_pending hc _⟩
  · split
    · exact ⟨_, good_clock h _⟩
    · exact ⟨_, h⟩

/-- Every step keeps the invariants, and what LIFELINE stage demands where the part is in that stage afterwards. -/
theorem step_good (h : Good B K F L q₀ s) (e : step s = .next t) :
    ∃ q, Good B K F (L ∧ t.psv.stage = .lifeline) q t := by
  unfold step at e
  split at e
  · exact ⟨_, exec_good _ (good_pending h _) e⟩
  · injection e with e
    subst e
    obtain ⟨q, hq⟩ := tick_good h
    exact ⟨q, Good.weaken And.left hq⟩

/-- A state in which the invariants named hold. -/
theorem good_of (hb : B → s.pac.exclusive ∧ s.bounded) (hk : K → s.atRest)
    (hf : F → s.flg.distinct ∧ s.ltu.single ∧ s.followsRelay) (hl : L → s.inLifeline) : Good B K F L s.pending s :=
  ⟨_, _, rfl, rfl, rfl, fun b => (hb b).1, fun b => (hb b).2, hk, fun f => (hf f).1, fun f => (hf f).2.1,
    fun f => (hf f).2.2.2.1, fun f => (hf f).2.2.2.2, fun f => (hf f).2.2.1, hl⟩

/-- No command stops the part. -/
theorem exec_next (c : Instr) (s : State) : ∃ t, exec c s = .next t := by
  cases c <;> exact ⟨_, rfl⟩

/-! ### The statements -/

/-- Settles O1: by definition of a step. -/
theorem stepTakesFrontCommand : Obligations.StepTakesFrontCommand := fun _ _ _ => rfl

/-- Settles O3: every meaning ends in `finish`, and no operation of `exec_good` touches the queue. -/
theorem everyCommandAnswersNextAndLeavesQueue : Obligations.EveryCommandAnswersNextAndLeavesQueue := by
  refine ⟨exec_next, fun c s t e => ?_⟩
  have h : Good False False False False s.pending s := good_of False.elim False.elim False.elim False.elim
  obtain ⟨_, _, k⟩ := exec_good c h e
  exact k.queue

/-- Settles O4: each group of invariants by `step_good`, the others left out. -/
theorem stepKeepsPairAndCapacities : Obligations.StepKeepsPairAndCapacities := by
  refine ⟨fun s t hp hb e => ?_, fun s t hp hb hd hs hr e => ?_, fun s t hr e => ?_, fun c s t hr e => ?_⟩
  · have h : Good True False False False s.pending s := good_of (fun _ => ⟨hp, hb⟩) False.elim False.elim False.elim
    obtain ⟨_, _, _, k⟩ := step_good h e
    exact ⟨k.pair trivial, k.bounds trivial⟩
  · have h : Good False False True False s.pending s :=
      good_of False.elim False.elim (fun _ => ⟨hd, hs, hr⟩) False.elim
    obtain ⟨_, _, _, k⟩ := step_good h e
    exact ⟨k.distinct trivial, k.single trivial, k.place trivial, k.two trivial, k.rest trivial⟩
  · have h : Good False True False False s.pending s := good_of False.elim (fun _ => hr) False.elim False.elim
    obtain ⟨_, _, _, k⟩ := step_good h e
    exact k.link trivial
  · have h : Good False True False False s.pending s := good_of False.elim (fun _ => hr) False.elim False.elim
    obtain ⟨_, _, k⟩ := exec_good c h e
    exact k.link trivial

end Sys2Proof.Machine
end

section
/-! PROOFS. The tick, and the part right after reset. -/

namespace Sys2Proof.Machine
open Sys2Proof

/-- Settles O2: by the number of timers that have run out. -/
theorem stepOnEmptyQueue : Obligations.StepOnEmptyQueue := by
  intro s hq
  have hstep : step s = .next (tick s) := by simp only [step, hq]
  rw [hstep]
  refine ⟨fun hd hp => ?_, fun hp => ?_, fun e he => ?_, fun hlen => ?_⟩
  · simp [tick, hd, State.choose, hp]
  · have hdead : dueEvents s = [] := by simp [dueEvents, State.alive, hp]
    simp [tick, hdead, State.choose, hp]
  · simp [tick, he, State.choose]
  · have hlt : Config.freeChoice s.free % (dueEvents s).length < (dueEvents s).length :=
      Nat.mod_lt _ (by omega)
    refine ⟨(dueEvents s)[Config.freeChoice s.free % (dueEvents s).length], List.getElem_mem _, ?_⟩
    have hchoose : s.choose (dueEvents s).length
        = (Config.freeChoice s.free % (dueEvents s).length, { s with free := s.free + 1 }) := by
      simp [State.choose, Nat.not_lt.mpr hlen]
    simp only [tick, hchoose, List.getElem?_eq_getElem hlt]

/-- Settles O5: the blocks' start records, group by group. -/
theorem resetHasPairAndCapacities : Obligations.ResetHasPairAndCapacities := by
  have hstart := startBlocks_good (B := True) (K := True) (F := True) (q₀ := []) .powerOn
    (checked_bounded Retention.newPart false false) (checked_distinct Retention.newPart false false) true 12600 false
    (s := State.reset) rfl
  obtain ⟨_, _, k⟩ := hstart
  exact ⟨⟨k.pair trivial, k.bounds trivial⟩, k.distinct trivial, k.single trivial,
    ⟨k.place trivial, k.two trivial, k.rest trivial⟩, k.link trivial⟩

/-- Settles O6: each block's start record gives the values that its chapter names. -/
theorem resetState : Obligations.ResetState := by
  refine ⟨⟨rfl, rfl, rfl, rfl, rfl, rfl, rfl, rfl, rfl⟩, ⟨rfl, rfl, rfl, rfl, rfl, rfl, rfl, rfl, rfl⟩,
    ⟨rfl, rfl, rfl, rfl, rfl, rfl, rfl⟩, ⟨rfl, rfl, rfl, rfl, rfl⟩, ⟨rfl, rfl, rfl, rfl, rfl, rfl, rfl⟩,
    ⟨rfl, rfl, rfl, rfl⟩, ⟨rfl, rfl, rfl, rfl, rfl⟩, ⟨rfl, rfl, rfl, rfl⟩⟩

end Sys2Proof.Machine
end

section
/-! PROOFS. Chapter 11: requests behind waiting replies or while the settings load, frames kept in QUIESCENT, malformed
requests, and what a part without power takes. -/

namespace Sys2Proof.Machine
open Sys2Proof

/-! ## Good frames and requests -/

/-- A request is taken by `takeRequest`, under its own tag and code. -/
theorem frameMeaning_request {c : Instr} {tag code : Byte} (hc : c.asRequest = some (tag, code)) :
    ∃ (α : Type) (decode : List Byte → Option α) (body : α → State → Answer × State) (args : List Byte),
      frameMeaning c = takeRequest code c.answeredLoading decode body tag args := by
  unfold frameMeaning
  cases c <;> cases hc <;> exact ⟨_, _, _, _, rfl⟩

theorem isFrame_of_asRequest {c : Instr} {r : Byte × Byte} (hc : c.asRequest = some r) : c.isFrame = true := by
  cases c <;> cases hc <;> rfl

/-- A good frame on an ACTIVE part with power does what its kind means in the state `heard`. -/
theorem serves_of_active {c : Instr} {s t : State} (hc : c.isFrame = true) (hp : s.powered = true)
    (hm : s.psv.mode = .active) (ht : frameMeaning c s.heard = t) : Serves c s t := by
  unfold Serves Does
  rw [exec_of_isFrame hc, frame_of_active c _ hp hm, ht]

/-- A part that takes requests answers with what the request's own rule gives. -/
theorem answers_of_body {α : Type} {s t : State} {c : Instr} {code : Byte} {always : Bool} {ans : Answer}
    {decode : List Byte → Option α} {body : α → State → Answer × State} {tag : Byte} {args : List Byte} {a : α}
    (hs : s.ready) (hc : exec c s = frame c (takeRequest code always decode body tag args) s)
    (ha : decode args = some a) (hb : body a s.heard = (ans, t)) : Answers c tag code s ans t := by
  have h := answers_of_ready hs hc ha
  rwa [hb] at h

/-- A body too short to hold the arguments is answered BAD_ARGUMENT. -/
theorem answers_of_short {α : Type} {s : State} {c : Instr} {code : Byte} {always : Bool}
    {decode : List Byte → Option α} {body : α → State → Answer × State} {tag : Byte} {args : List Byte}
    (hs : s.ready) (hc : exec c s = frame c (takeRequest code always decode body tag args) s)
    (ha : decode args = none) : Answers c tag code s (Answer.refuse .badArgument) s.heard := by
  obtain ⟨hpowered, hmode, hloaded, hreplies⟩ := hs
  have hl : s.heard.loading = false := hloaded
  have hr : s.heard.mpt.replies = [] := hreplies
  unfold Answers Serves Does
  rw [hc, frame_of_active c _ hpowered hmode]
  simp [takeRequest, hr, hl, ha]

section Intake

variable {α : Type} {s : State} {code : Byte} {always : Bool} {decode : List Byte → Option α}
  {body : α → State → Answer × State} {tag : Byte} {args : List Byte}

/-- Behind two replies a request is discarded and counted (R191). -/
theorem takeRequest_of_full (h : 2 ≤ s.mpt.replies.length) :
    takeRequest code always decode body tag args s = s.onMpt fun m => { m with discards := up16 m.discards } := by
  unfold takeRequest
  split
  · rfl
  · simp_all
  · simp_all

/-- Behind one reply a request is answered BUSY (R191). -/
theorem takeRequest_of_busy {r : Reply} (h : s.mpt.replies = [r]) :
    takeRequest code always decode body tag args s = queueReply tag code (Answer.refuse .busy) s := by
  simp only [takeRequest, h]

/-- While the settings load most requests are answered RETRY (R206). -/
theorem takeRequest_of_loading (h : s.mpt.replies = []) (hl : s.loading = true) :
    takeRequest code false decode body tag args s = queueReply tag code (Answer.refuse .retry) s := by
  simp [takeRequest, h, hl]

end Intake

/-- Settles O7: by the length of the reply queue; the state `heard` holds the same replies. -/
theorem requestBehindRepliesOrLoading : Obligations.RequestBehindRepliesOrLoading := by
  intro c tag code s hc hp hm
  obtain ⟨α, decode, body, args, hmeaning⟩ := frameMeaning_request hc
  have serves : ∀ t, takeRequest code c.answeredLoading decode body tag args s.heard = t → Serves c s t := fun t h =>
    serves_of_active (isFrame_of_asRequest hc) hp hm (hmeaning ▸ h)
  refine ⟨fun r hr => serves _ ?_, fun hlen => serves _ ?_, fun hr hload halways => serves _ ?_⟩
  · exact takeRequest_of_busy (s := s.heard) hr
  · exact takeRequest_of_full (s := s.heard) hlen
  · rw [halways]
    exact takeRequest_of_loading (s := s.heard) hr hload

/-- In QUIESCENT the first wake cause starts the wake delay (R185). -/
theorem wakeCause_of_quiescent {s : State} (c : WakeCause) (p : Option PortId) (hm : s.psv.mode = .quiescent) :
    wakeCause c p s
      = s.onPsv fun q =>
          { q with
            sleepGranted := false
            wake :=
              if s.psv.wake = none then
                some { cause := c, port := p, endAt := s.clock + (if s.sst.contents.power.fastWake then 2 else 40) }
              else s.psv.wake } := by
  cases hw : s.psv.wake <;> simp [wakeCause, hm, hw, State.after, State.wakeDelay, wakeFastMs, wakeMs]

/-- A part without power or stopped in DORMANT sends nothing, and no event reaches it (log 22). -/
theorem event_of_dead {s : State} (h : s.powered = false ∨ s.psv.mode = .dormant) (f : State → State) :
    event f s = .next s := by
  have hdead : s.alive = false := by
    rcases h with h | h <;> simp [State.alive, h]
  have hidle : pump s = s := by
    rcases h with h | h <;> simp [pump, h]
  simp [event, finish, whenAlive, hdead, hidle]

/-- Settles O8: QUIESCENT by the branch of `arriveFrame`; a dead part by the guard that every other meaning has. -/
theorem framesKeptInQuiescentAndLostWhenDead : Obligations.FramesKeptInQuiescentAndLostWhenDead := by
  refine ⟨fun c s hc hp hm => ?_, fun c s hdead hc => ?_⟩
  · have halive : s.alive = true := by simp [State.alive, hp, hm]
    rw [Does, exec_of_isFrame hc, frame, finish, whenAlive, if_pos halive, arriveFrame, if_pos hm,
      wakeCause_of_quiescent _ _ (by simpa using hm)]
    rfl
  · cases c <;> first | exact event_of_dead hdead _ | cases hc

/-- A request whose arguments are refused wherever they can be read is answered BAD_ARGUMENT. -/
theorem answers_of_refused {α : Type} {s : State} {c : Instr} {code : Byte} {always : Bool}
    {decode : List Byte → Option α} {body : α → State → Answer × State} {tag : Byte} {args : List Byte}
    (hs : s.ready) (hc : exec c s = frame c (takeRequest code always decode body tag args) s)
    (hb : ∀ a, decode args = some a → body a s.heard = (Answer.refuse .badArgument, s.heard)) :
    Answers c tag code s (Answer.refuse .badArgument) s.heard := by
  cases ha : decode args with
  | none => exact answers_of_short hs hc ha
  | some a => exact answers_of_body hs hc ha (hb a ha)

theorem portOf_of_ne {n : Byte} (h1 : n ≠ 1) (h2 : n ≠ 2) : portOf n.toNat = none := by
  unfold portOf
  split
  · exact absurd (BitVec.eq_of_toNat_eq (by assumption)) h1
  · exact absurd (BitVec.eq_of_toNat_eq (by assumption)) h2
  · rfl

/-- The first argument of a request is the first byte of its body. -/
theorem arg88_fst {n : Byte} {rest : List Byte} {a : Nat × Nat} (h : arg88 (n :: rest) = some a) : a.1 = n.toNat := by
  cases rest with
  | nil => cases h
  | cons b rest => cases h; rfl
theorem arg888_fst {n : Byte} {rest : List Byte} {a : Nat × Nat × Nat} (h : arg888 (n :: rest) = some a) :
    a.1 = n.toNat := by
  match rest, h with
  | b :: b' :: rest, h => cases h; rfl

/-- Settles O9: the bytes of each body are too few for its reader, or the number names no port. -/
theorem malformedRequestsAreBad : Obligations.MalformedRequestsAreBad := by
  refine ⟨fun tag b b2 b3 s hs => ⟨?_, ?_⟩, fun tag n rest s hs h1 h2 => ?_⟩
  · simp only [List.forall_mem_cons, List.not_mem_nil, false_implies, implies_true, and_true]
    refine ⟨?_, ?_, ?_, ?_, ?_, ?_, ?_, ?_, ?_, ?_, ?_, ?_, ?_, ?_, ?_, ?_, ?_, ?_, ?_, ?_⟩ <;>
      exact ⟨_, rfl, answers_of_short hs rfl rfl⟩
  · simp only [List.forall_mem_cons, List.not_mem_nil, false_implies, implies_true, and_true]
    refine ⟨?_, ?_, ?_, ?_, ?_, ?_, ?_, ?_, ?_, ?_, ?_, ?_, ?_, ?_, ?_, ?_, ?_, ?_, ?_, ?_, ?_, ?_, ?_, ?_, ?_⟩ <;>
      exact ⟨_, rfl, answers_of_short hs rfl rfl⟩
  · have hnamed : ∀ {k : Nat} (f : PortId → State → Answer × State), k = n.toNat →
        onNamedPort k f s.heard = (Answer.refuse .badArgument, s.heard) := by
      rintro k f rfl
      simp [onNamedPort, portOf_of_ne h1 h2]
    have one : ∀ {a}, arg8 (n :: rest) = some a → a = n.toNat := fun h => (Option.some.inj h).symm
    simp only [List.forall_mem_cons, List.not_mem_nil, false_implies, implies_true, and_true]
    refine ⟨?_, ?_, ?_, ?_, ?_, ?_, ?_, ?_, ?_, ?_, ?_⟩
    case refine_3 => exact ⟨_, rfl, answers_of_refused hs rfl fun a h => hnamed (ringOn a.2) (arg88_fst h)⟩
    case refine_6 => exact ⟨_, rfl, answers_of_refused hs rfl fun a h => hnamed (toneOn a.2.1 a.2.2) (arg888_fst h)⟩
    case refine_7 => exact ⟨_, rfl, answers_of_refused hs rfl fun a h => hnamed (digitsOn a.2) (arg88_fst h)⟩
    all_goals exact ⟨_, rfl, answers_of_refused hs rfl fun a h => hnamed _ (one h)⟩

end Sys2Proof.Machine
end

section
/-! PROOFS. Chapter 11: the transmitter, the receiver, and the requests of the whole part. -/

namespace Sys2Proof.Machine
open Sys2Proof

/-! ## Events -/

/-- An event of a part that is alive has its effect. -/
theorem does_of_event {c : Instr} {f : State → State} {s t : State} (ha : s.alive = true)
    (hc : exec c s = event f s) (ht : f s = t) : Does c s t := by
  rw [Does, hc, event, whenAlive, if_pos ha, ht]
  rfl

/-- The command of a timer that does not run does nothing. -/
theorem does_of_idle_timer {c : Instr} {f : State → State} {due : State → Option Nat} {s : State} (ha : s.alive = true)
    (hc : exec c s = event (fun s => onExpiry (due s) f s) s) (hd : due s = none) : Does c s s :=
  does_of_event ha hc (by simp [onExpiry, hd])

/-- The command of a timer takes effect at the timer's end. -/
theorem does_of_timer {c : Instr} {f : State → State} {due : State → Option Nat} {s t : State} {e : Nat}
    (ha : s.alive = true) (hc : exec c s = event (fun s => onExpiry (due s) f s) s) (hd : due s = some e)
    (ht : f { s with clock := max s.clock e } = t) : Does c s t :=
  does_of_event ha hc (by simp only [onExpiry, hd]; exact ht)

/-! ## The transmitter (R129) -/

theorem pump_idle {s : State} (h : s.mpt.sending.isSome = true ∨ s.psv.mode ≠ .active ∨ s.powered = false) :
    pump s = s := by
  unfold pump
  rw [if_pos]
  rcases h with h | h | h <;> simp [h]

section Free

variable {s : State} (hs : s.mpt.sending = none) (hm : s.psv.mode = .active) (hp : s.powered = true)
include hs hm hp

/-- A free transmitter takes a reply first. -/
theorem pump_of_reply {r : Reply} {rs : List Reply} (hr : s.mpt.replies = r :: rs) :
    pump s = { s with mpt := { s.mpt with sending := some (.reply r), replies := rs } } := by
  unfold pump
  rw [if_neg (by simp [hs, hm, hp]), hr]
  rfl

/-- With no reply, it takes the oldest capture frame. -/
theorem pump_of_capture {p : PortId} {f : CaptureFrame} (hr : s.mpt.replies = []) (hc : s.oldestCapture = some (p, f)) :
    pump s =
      (s.onPort p fun q => { q with voice := { q.voice with capture := q.voice.capture.tail } }).onMpt
        fun m => { m with sending := some (.voiceUp p f) } := by
  simp [pump, hs, hm, hp, hr, hc]

/-- With neither, it takes a notice, unless the part is autonomous. -/
theorem pump_of_notices (hr : s.mpt.replies = []) (hc : s.oldestCapture = none) :
    pump s = if s.mpt.autonomous then s else s.onMpt Mpt.sendNotice := by
  simp [pump, hs, hm, hp, hr, hc]

end Free

/-- Port 1's capture frame is the oldest (R129). -/
theorem oldestCapture_one {s : State} {f : CaptureFrame} {fs : List CaptureFrame} (h : s.hpc1.voice.capture = f :: fs)
    (hg : ∀ g, s.hpc2.voice.capture.head? = some g → f.producedAt ≤ g.producedAt) :
    s.oldestCapture = some (.one, f) := by
  unfold State.oldestCapture
  cases h2 : s.hpc2.voice.capture with
  | nil => simp [h]
  | cons g gs => simp [h, hg g (by simp [h2])]

/-- Port 2's capture frame is the oldest (R129). -/
theorem oldestCapture_two {s : State} {g : CaptureFrame} {gs : List CaptureFrame} (h : s.hpc2.voice.capture = g :: gs)
    (hf : ∀ f, s.hpc1.voice.capture.head? = some f → g.producedAt < f.producedAt) :
    s.oldestCapture = some (.two, g) := by
  unfold State.oldestCapture
  cases h1 : s.hpc1.voice.capture with
  | nil => simp [h]
  | cons f fs => simp [h, Nat.not_le.mpr (hf f (by simp [h1]))]

theorem oldestCapture_none {s : State} (h1 : s.hpc1.voice.capture = []) (h2 : s.hpc2.voice.capture = []) :
    s.oldestCapture = none := by simp [State.oldestCapture, h1, h2]

/-- The end of a reply frees the transmitter and brings what waits for it. -/
theorem transmitterFree_of_reply {s : State} {r : Reply} (h : s.mpt.sending = some (.reply r)) :
    transmitterFree s = afterReply r.after { s with mpt := { s.mpt with sending := none } } := by
  simp only [transmitterFree, h]
  rfl

/-- The end of any other frame frees the transmitter. -/
theorem transmitterFree_of_other {s : State} {f : TxFrame} (h : s.mpt.sending = some f) (hn : ∀ r, f ≠ .reply r) :
    transmitterFree s = { s with mpt := { s.mpt with sending := none } } := by
  cases f with
  | reply r => exact absurd rfl (hn r)
  | _ => simp only [transmitterFree, h]; rfl

/-- Settles O10: the transmitter's order by what waits; the end of a frame by the effect behind its reply. -/
theorem transmitterServesAndEnds : Obligations.TransmitterServesAndEnds := by
  refine ⟨fun s => ⟨pump_idle, fun hs hm hp => ⟨fun r rs hr => pump_of_reply hs hm hp hr, fun hr =>
    ⟨fun f fs hf hg => ?_, fun g gs hg hf => ?_, fun h1 h2 => ?_⟩⟩⟩, fun s ha => ⟨fun hs => ?_, fun f hf => ?_⟩⟩
  · rw [pump_of_capture hs hm hp hr (oldestCapture_one hf hg), ← List.tail_cons (a := f) (as := fs), ← hf]
    rfl
  · rw [pump_of_capture hs hm hp hr (oldestCapture_two hg hf), ← List.tail_cons (a := g) (as := gs), ← hg]
    rfl
  · rw [pump_of_notices hs hm hp hr (oldestCapture_none h1 h2)]
    refine ⟨fun hn => ?_, fun n ns ha hn => ⟨fun hl => ?_, fun hl => ?_⟩⟩
    · rcases hn with hn | hn
      · simp [hn]
      · simp [State.onMpt, Mpt.sendNotice, hn]
    · simp [State.onMpt, Mpt.sendNotice, hn, hl, ha]
    · simp [State.onMpt, Mpt.sendNotice, hn, hl, ha]
  · exact does_of_event ha rfl (by simp [transmitterFree, hs])
  · have hdoes : ∀ t, transmitterFree s = t → Does .transmitterFree s t := fun t => does_of_event ha rfl
    refine ⟨?full, ?enters, ?abandoned, ?plain, fun hn => hdoes _ (transmitterFree_of_other hf hn)⟩
    all_goals
      rintro r rfl ho
    case full => exact hdoes _ (by rw [transmitterFree_of_reply hf, ho]; rfl)
    case enters => exact fun hg => hdoes _ (by rw [transmitterFree_of_reply hf, ho, afterReply, if_pos hg]; rfl)
    case abandoned => exact fun hg => hdoes _ (by rw [transmitterFree_of_reply hf, ho, afterReply, if_neg (by simp [hg])])
    case plain => exact hdoes _ (by rw [transmitterFree_of_reply hf, ho]; rfl)

/-! ## The receiver (R189) -/

section Discard

variable {bytes : List Byte} {m : Mpt}

/-- The length the first two bytes give. -/
def frameLength (bytes : List Byte) : Nat := (bytes.getD 0 0).toNat + 256 * (bytes.getD 1 0).toNat

/-- A frame longer than a body may be is counted by its length (R189). -/
theorem countDiscard_of_long (h2 : 2 ≤ bytes.length) (hl : 240 < frameLength bytes) :
    countDiscard bytes m = { m with lengthErrors := up16 m.lengthErrors } := by
  match bytes, h2 with
  | [a, b], _ => exact if_pos hl
  | a :: b :: type :: rest, _ => exact if_pos hl

/-- A whole frame within the length is counted by its CRC, then by its type (R189). -/
theorem countDiscard_of_whole (hb : bytes.length = frameLength bytes + 6) (hl : frameLength bytes ≤ 240) :
    countDiscard bytes m =
      if u16 (crc (bytes.take (frameLength bytes + 4))).toNat = bytes.drop (frameLength bytes + 4) then
        if bytes[2]? = some 0x01 ∨ bytes[2]? = some 0x02 then m
        else { m with unknownTypes := up16 m.unknownTypes }
      else { m with crcErrors := up16 m.crcErrors } := by
  match bytes, hb with
  | [], hb => simp at hb
  | [a], hb => simp at hb
  | [a, b], hb => simp at hb
  | a :: b :: type :: rest, hb =>
    have e : frameLength (a :: b :: type :: rest) = a.toNat + 256 * b.toNat := rfl
    rw [e] at hb hl ⊢
    simp only [countDiscard, if_neg (show ¬ bodyMax < _ from Nat.not_lt.mpr hl), if_pos hb]
    simp

end Discard

/-- Settles O11: each event of the receiver by its own rule. -/
theorem receiverPhasesAndCounts : Obligations.ReceiverPhasesAndCounts := by
  intro s ha
  refine ⟨fun b => does_of_event ha rfl ?_, fun h => does_of_event ha rfl (by simp [receiverGap, h]),
    fun h => does_of_event ha rfl (by rw [receiverGap, if_neg h]; rfl), does_of_event ha rfl rfl, fun bytes => ?_⟩
  · cases hr : s.mpt.rx <;> simp only [RxPhase.next, State.onMpt, hr] <;> rfl
  · refine ⟨fun h2 hl => does_of_event ha rfl ?_, fun hb hl => ⟨fun hg => does_of_event ha rfl ?_,
      fun hg h1 h2 => does_of_event ha rfl ?_⟩⟩
    · simp only [State.onMpt, countDiscard_of_long h2 hl]; rfl
    · have hcrc := (countDiscard_of_whole (m := s.mpt) hb hl).trans (if_neg hg)
      simp only [State.onMpt, hcrc]; rfl
    · have htype := (countDiscard_of_whole (m := s.mpt) hb hl).trans
        ((if_pos hg).trans (if_neg (not_or.mpr ⟨h1, h2⟩)))
      simp only [State.onMpt, htype]; rfl

end Sys2Proof.Machine
end

section
/-! PROOFS. Chapters 10 and 11: the requests of the whole part, SLEEP and the end of the wake delay. -/

namespace Sys2Proof.Machine
open Sys2Proof

/-- Settles O13: these requests are answered by `takeRequest` whether or not the settings are loaded. -/
theorem heartbeatStatusUnknownAnswered : Obligations.HeartbeatStatusUnknownAnswered := by
  intro tag args s hp hm hr
  have hr' : s.heard.mpt.replies = [] := hr
  have answers : ∀ {α : Type} {c : Instr} {code : Byte} {decode : List Byte → Option α}
      {body : α → State → Answer × State} {a : α},
      c.isFrame = true → frameMeaning c = takeRequest code true decode body tag args → decode args = some a →
      Answers c tag code s (body a s.heard).1 (body a s.heard).2 := by
    intro α c code decode body a hc hmeaning ha
    refine serves_of_active hc hp hm ?_
    simp [hmeaning, takeRequest, hr', ha]
  exact ⟨answers (c := .heartbeat tag args) (decode := noArgs) (a := ()) (body := fun _ s => (Answer.with .ok (heartbeatData s), s)) rfl rfl rfl,
    answers (c := .getStatus tag args) (decode := noArgs) (a := ()) (body := fun _ s => (Answer.with .ok (mptStatus s ++ pacStatus s ++ rscStatus s ++ otherStatus s), s)) rfl rfl rfl,
    answers (c := .unknownRequestCode tag args) (decode := noArgs) (a := ()) (body := fun _ s => (Answer.refuse .unknown, s)) rfl rfl rfl⟩

/-- Settles O15: the scope by its number; a FULL reset by `startBlocks`. -/
theorem partResetAndResetPin : Obligations.PartResetAndResetPin := by
  refine ⟨fun tag n rest s hs => ⟨?_, ?_, fun hn => ?_⟩, fun s ha => does_of_event ha rfl rfl,
    fun reason s h => by rw [fullReset, if_pos h], fun reason s h => ?_⟩
  · exact answers_of_body (decode := arg8) (body := partReset) hs rfl rfl rfl
  · exact answers_of_body (decode := arg8) (body := partReset) hs rfl rfl rfl
  · refine answers_of_body (decode := arg8) (body := partReset) (a := n.toNat) hs rfl rfl ?_
    unfold partReset
    split
    · omega
    · omega
    · rfl
  · have hreset : fullReset reason s
        = startBlocks reason s.flg.fullReset s.psv.mainsInput s.psv.batteryInput s.psv.enclosureInputOpen s := by
      rw [fullReset, if_neg (by simp [h])]
    rw [hreset]
    refine ⟨⟨rfl, rfl, rfl, rfl, rfl, rfl, rfl, rfl, rfl, rfl, rfl, rfl⟩, rfl, rfl, ⟨rfl, rfl, rfl, rfl, rfl, rfl⟩, rfl, rfl,
      fun hi => ?_, fun run hrun => ?_⟩
    · show s.sst.cutImage = s.sst.image
      unfold Sst.cutImage
      split
      · simp_all [StoreState.isSaving]
      · rfl
    · show s.sst.cutImage = s.sst.image.spoil run.item
      simp only [Sst.cutImage, hrun]

/-- No blocker stands in the way of SLEEP exactly where each of R183's conditions holds. -/
theorem blockerCodes_isEmpty (s : State) :
    (blockerCodes s).isEmpty = true ↔
      s.lks.state = .off ∧ s.hpc1.state.quiet = true ∧ s.hpc2.state.quiet = true ∧ s.ltu.queue = []
        ∧ s.seq1.run = none ∧ s.seq2.run = none ∧ s.rsc.state = .off ∧ s.mcr.flight = none ∧ s.sst.store = .idle
        ∧ s.mpt.notices = [] ∧ s.hpc1.voice.capture = [] ∧ s.hpc2.voice.capture = [] := by
  have hcodes : (blockerCodes s).isEmpty = true ↔ ∀ b ∈ s.sleepBlockers, b = false := by
    simp [blockerCodes, List.isEmpty_iff, List.filter_eq_nil_iff, State.sleepBlockers]
  rw [hcodes]
  simp [State.sleepBlockers, Sequencer.isIdle]

/-- Settles O16: the mask by R194's two fixed sets; SLEEP by whether a blocker stands in its way. -/
theorem noticeMaskAndSleep : Obligations.NoticeMaskAndSleep := by
  refine ⟨fun tag a b c d rest s hs => ?_, fun tag rest s hs => ⟨fun hf => ?_, fun hf => ?_⟩⟩
  · have hmask : ∀ k, maskInUse k = (k &&& 0x000FFFFE#32) ||| 0x00080002#32 := fun k => rfl
    refine answers_of_body (decode := fun bs => (rd32 bs).map (·.1)) (body := noticeMaskRequest)
      (a := a.toNat + 256 * b.toNat + 65536 * c.toNat + 16777216 * d.toNat) hs rfl rfl ?_
    simp only [noticeMaskRequest, hmask]
    rfl
  · refine answers_of_body (decode := noArgs) (body := fun _ => sleepRequest) hs rfl rfl ?_
    rw [sleepRequest, if_pos ((blockerCodes_isEmpty s.heard).mpr hf)]
    rfl
  · refine answers_of_body (decode := noArgs) (body := fun _ => sleepRequest) hs rfl rfl ?_
    rw [sleepRequest, if_neg (mt (blockerCodes_isEmpty s.heard).mp hf)]
    rfl

/-! ## The end of the wake delay (R185) -/

/-- The frames kept for the end of the wake delay are not the transmitter's concern. -/
theorem pump_held (s : State) : (pump s).mpt.held = s.mpt.held := by
  unfold pump
  split
  · rfl
  · split
    · rfl
    · split
      · simp
      · split
        · rfl
        · simp only [State.onMpt_mpt, Mpt.sendNotice]
          split
          · rfl
          · split <;> rfl

theorem queueNotice_held (n : Notice) (m : Mpt) : (m.queueNotice n).held = m.held := by
  unfold Mpt.queueNotice
  split
  · rfl
  · split <;> rfl

/-- Serving the transmitter changes no more of a port than its capture queue. -/
theorem pump_heldOffHook (p : PortId) (s : State) : ((pump s).port p).heldOffHook = (s.port p).heldOffHook := by
  unfold pump
  split
  · rfl
  · split
    · simp
    · split
      · rename_i q f _
        cases p <;> cases q <;> rfl
      · split <;> simp

/-- An off-hook that is not held is not taken. -/
theorem takeHeldOffHook_none {p : PortId} {s : State} (h : (s.port p).heldOffHook = false) : takeHeldOffHook p s = s := by
  simp [takeHeldOffHook, h]

/-- Settles O17: by whether a wake is under way; what was kept is empty in the plain case. -/
theorem wakeDelayEnds : Obligations.WakeDelayEnds := by
  intro s ha
  refine ⟨fun hw => does_of_event ha rfl (by simp only [wakeDelayEnd, hw]), fun w hw => ?_⟩
  intro now u t
  have hkept : (pump t).mpt.held = s.mpt.held := by
    rw [pump_held]
    exact queueNotice_held _ _
  have hends : wakeDelayEnd s =
      takeHeldOffHook .two (takeHeldOffHook .one
        (takeHeld s.mpt.held { pump t with mpt := { (pump t).mpt with held := [] } })) := by
    rw [← hkept]
    simp only [wakeDelayEnd, hw]
    rfl
  refine ⟨fun hheld h1 h2 => ?_, does_of_event ha rfl hends⟩
  have hempty : { pump t with mpt := { (pump t).mpt with held := [] } } = pump t := by
    rw [← hheld, ← hkept]
  have hplain : wakeDelayEnd s = pump t := by
    rw [hends, hheld, hempty, takeHeld, takeHeldOffHook_none (p := .one), takeHeldOffHook_none (p := .two)]
    · exact (pump_heldOffHook .two t).trans h2
    · exact (pump_heldOffHook .one t).trans h1
  rw [Does, ← pump_pump t, ← hplain]
  exact does_of_event ha rfl rfl

end Sys2Proof.Machine
end

section
/-! PROOFS. Chapter 11 section 4: autonomous mode (R92, R196, R197) and the COPPER cause it takes (R14). -/

namespace Sys2Proof.Machine
open Sys2Proof

/-- A port without a phone off-hook is as it was at entry to autonomous mode (R92). -/
theorem portAutonomous_of_other {p : PortId} {s : State} (hc : (s.port p).state ≠ .connected)
    (ho : (s.port p).state ≠ .offhook) : portAutonomous p s = s := by
  unfold portAutonomous
  split
  · exact absurd (by assumption) hc
  · exact absurd (by assumption) ho
  · rfl

theorem portAutonomous_of_connected {p : PortId} {s : State} (h : (s.port p).state = .connected) :
    portAutonomous p s = portChanged p .connected (startAutoTone p (s.onPort p (Port.toOffhook s.clock))) := by
  simp only [portAutonomous, h]

theorem portAutonomous_of_offhook {p : PortId} {s : State} (h : (s.port p).state = .offhook) :
    portAutonomous p s = startAutoTone p s := by
  simp only [portAutonomous, h]

/-- A sequencer is stopped with its port, its markers and the ring supply; the stored programs stand. -/
theorem stopSeq_sst (cause : Option DoneCause) (p : PortId) (s : State) : (stopSeq cause p s).sst = s.sst := by
  have h := stopSeq_keeps (B := False) (K := False) (F := False) (L := False) cause p
    (s := s) (c₀ := _) (q₀ := _) (r₀ := _) (pl := none) ⟨rfl, rfl, rfl, False.elim, False.elim, False.elim, False.elim,
      False.elim, False.elim, False.elim, False.elim, False.elim⟩
  exact congrArg Prod.fst h.store

/-- Auto-lifeline is not due on a port that switches (R16). -/
theorem autoLifeline_of_switching {s : State} (h : s.hpc1.state = .switching) : autoLifeline s = s := by
  simp [autoLifeline, State.autoLifelineDue, h]

/-- HPC1 tells of SWITCHING where it was in no call: auto-lifeline has nothing to do (R14, R16, R69). -/
theorem portChanged_of_switching {old : PortState} {s : State} (h : s.hpc1.state = .switching) (ho : old ≠ .connected) :
    portChanged .one old s = s := by
  simp [portChanged, State.port, h, ho, PortState.quiet, autoLifeline_of_switching h]

/-! ## A COPPER cause (R14) -/

section CopperCause

variable {reason : CopperReason} {s : State}

theorem copperCause_of_rest (hm : s.pac.relay.move = none) (hp : s.pac.relay.pos = .copper) :
    copperCause reason s = copperCauseAtRest reason s := by
  simp [copperCause, hm, hp]

theorem copperCause_of_local (hm : s.pac.relay.move = none) (hp : s.pac.relay.pos = .localPort) :
    copperCause reason s = endLocal (startCopperMove reason s) := by
  simp [copperCause, hm, hp]

theorem copperCause_of_toLocal {m : RelayMove} (hm : s.pac.relay.move = some m) (ht : m.target = .localPort) :
    copperCause reason s = startCopperMove reason s := by
  simp [copperCause, hm, ht]

theorem copperCause_of_toCopper {m : RelayMove} (hm : s.pac.relay.move = some m) (ht : m.target = .copper) :
    copperCause reason s
      = s.onPac fun p => { p with relay := { p.relay with move := some { m with reason := reason } } } := by
  simp [copperCause, hm, ht]

theorem copperCauseAtRest_of_plain (h : s.pac.relay.deferred = false) :
    copperCauseAtRest reason s
      = { s with pac := { s.pac with relay := { s.pac.relay with reason := reason, deferred := false } } } := by
  rw [copperCauseAtRest, if_neg (by simp [h])]
  rfl

theorem copperCauseAtRest_of_deferred (h : s.pac.relay.deferred = true) :
    copperCauseAtRest reason s
      = notice (.lifelinePosition .copper reason (some .superseded))
          { s with pac := { s.pac with relay := { s.pac.relay with reason := reason, deferred := false } } } := by
  rw [copperCauseAtRest, if_pos h]
  rfl

/-- HPC1 after its local activity has ended: SEQ1 stopped, SWITCHING (R14, R89). -/
def awayFromLocal (s : State) : State := (stopSeq (some .port) .one s).onPort .one Port.toSwitching

theorem endLocal_of_connected (h : s.hpc1.state = .connected) :
    endLocal s = autoLifeline (askRelease (callsEnded (awayFromLocal s))) := by
  simp only [endLocal, h, clearWiring]
  rfl

theorem endLocal_of_fault (h : s.hpc1.state = .fault) :
    endLocal s
      = clearFault .portWiringLatched .hpc1 (clearFault .portWiringFault .hpc1 (awayFromLocal s)) := by
  simp only [endLocal, h]
  exact portChanged_of_switching (by simp [clearWiring, portSource]; rfl) (by decide)

theorem endLocal_of_other (hc : s.hpc1.state ≠ .connected) (hf : s.hpc1.state ≠ .fault) :
    endLocal s = awayFromLocal s := by
  simp only [endLocal, clearWiring, if_neg hf]
  exact portChanged_of_switching rfl hc

end CopperCause

/-! ## Autonomous mode -/

/-- The autonomous tone is tried behind the stop of the program that runs (R68, R92). -/
theorem startAutoTone_eq (p : PortId) (s : State) :
    startAutoTone p s =
      let n := s.sst.contents.control.autoTone
      let stopped := stopSeq (some .port) p s
      let tried := if (s.program n).rings then stopped else startProgram p n stopped
      tried.onPort p fun q => { q with dialMarker := false, autoMarker := (tried.seq p).run.isSome } := by
  simp only [startAutoTone, startTone, State.program, stopSeq_sst]
  rfl

/-- Settles O12: entry by the order of `enterAutonomous`; the COPPER cause by where the relay is. -/
theorem autonomousModeBeginsAndEnds : Obligations.AutonomousModeBeginsAndEnds := by
  refine ⟨fun s => ⟨fun ha he => does_of_idle_timer ha rfl he, fun e ha he h1 h2 hpos hmove hdef => ?begins,
    fun h => by simp [endAutonomous, h], fun h m1 m2 => ?ends, fun h => by rw [endAutonomous, if_pos h]; rfl⟩,
    fun e s ha he => does_of_timer ha rfl he rfl,
    fun p s => ⟨portAutonomous_of_connected, portAutonomous_of_offhook, portAutonomous_of_other, ?tone, rfl⟩,
    fun reason s => ?cause⟩
  case begins =>
    intro now limit u
    refine does_of_timer ha rfl he ?_
    let v : State := notice (.autonomous limit u.uptime)
      { s with clock := now, mpt := { s.mpt with autonomous := true, autonomousSince := now, silenceEnd := none } }
    have hports : portAutonomous .two (portAutonomous .one v) = v := by
      rw [portAutonomous_of_other (p := .one) (s := v) h1.2 h1.1, portAutonomous_of_other (p := .two) (s := v) h2.2 h2.1]
    calc enterAutonomous { s with clock := now }
        = report .hostSilent .mpt .major [d32 limit]
            (copperCause .autonomous (portAutonomous .two (portAutonomous .one v))) := rfl
      _ = report .hostSilent .mpt .major [d32 limit] (notice (.autonomous limit u.uptime) u) := by
        rw [hports, copperCause_of_rest (s := v) hmove hpos, copperCauseAtRest_of_plain (s := v) hdef, ← hdef]
        rfl
  case ends =>
    intro u
    rw [endAutonomous, if_pos h]
    simp [portResumes, State.port, m1, m2]
    rfl
  case tone =>
    intro n stopped started
    exact ⟨fun hr => by rw [startAutoTone_eq]; simp only [n] at hr; simp only [hr]; rfl,
      fun hr => by rw [startAutoTone_eq]; simp only [n] at hr; simp only [hr]; rfl⟩
  case cause =>
    intro r moving
    refine ⟨fun hm hpos => ?_, fun m hm => ⟨fun ht => copperCause_of_toLocal hm ht, fun ht => ?_⟩, fun hm hpos => ?_⟩
    · rw [copperCause_of_local hm hpos]
      exact ⟨fun h => endLocal_of_connected h, fun h => endLocal_of_fault h, fun hc hf => endLocal_of_other hc hf⟩
    · exact copperCause_of_toCopper hm ht
    · rw [copperCause_of_rest hm hpos]
      exact ⟨copperCauseAtRest_of_plain, copperCauseAtRest_of_deferred⟩

end Sys2Proof.Machine
end

section
/-! PROOFS. The requests that only read (R53, R93, R142, R155, R160, R172, R208): which records FAULT_READ and LINK_HISTORY
carry, and that the reads change nothing. -/

namespace Sys2Proof.Machine
open Sys2Proof

/-! ## Serial numbers -/

theorem newer_iff (a b : Seq16) : newer a b = true ↔ 1 ≤ (a - b).toNat ∧ (a - b).toNat ≤ 32767 := by
  simp [newer]

/-! ## FAULT_READ (R155, R203) -/

/-- The records packed are the first ones that fit whole, one after another. -/
theorem pack_eq_take (n room : Nat) (rs : List FaultRecord) :
    ∃ k, k ≤ n ∧ pack n room rs = rs.take k ∧ ((rs.take k).flatMap FaultRecord.encode).length ≤ room
      ∧ ∀ next, rs[k]? = some next → k < n →
          room < ((rs.take k).flatMap FaultRecord.encode).length + next.encode.length := by
  induction n generalizing room rs with
  | zero => exact ⟨0, Nat.le_refl _, by simp [pack], by simp, fun _ _ h => absurd h (Nat.lt_irrefl _)⟩
  | succ n ih =>
    cases rs with
    | nil => exact ⟨0, Nat.zero_le _, by simp [pack], by simp, fun _ h => by simp at h⟩
    | cons r rest =>
      by_cases hr : r.encode.length ≤ room
      · obtain ⟨k, hk, hpack, hfits, hnext⟩ := ih (room - r.encode.length) rest
        refine ⟨k + 1, Nat.succ_le_succ hk, by simp [pack, hr, hpack], ?_, fun next hn hlt => ?_⟩
        · simp only [List.take_succ_cons, List.flatMap_cons, List.length_append]
          omega
        · have := hnext next (by simpa using hn) (Nat.lt_of_succ_lt_succ hlt)
          simp only [List.take_succ_cons, List.flatMap_cons, List.length_append]
          omega
      · refine ⟨0, Nat.zero_le _, by simp [pack, hr], by simp, fun next hn _ => ?_⟩
        obtain rfl : r = next := by simpa using hn
        simpa using hr

/-- Which records a read from n finds in a log that holds some (R155). -/
theorem recordsRead_of_log {n : Seq16} {log : List FaultRecord} {oldest newest : FaultRecord}
    (ho : log.head? = some oldest) (hn : log.getLast? = some newest) :
    recordsRead n log =
      if newer n newest.seq then (false, [])
      else if (newest.seq - n).toNat ≤ (newest.seq - oldest.seq).toNat then
        (false, log.filter fun r => (newest.seq - r.seq).toNat ≤ (newest.seq - n).toNat)
      else (true, log) := by
  simp only [recordsRead, ho, hn]

/-- What FAULT_READ carries (R155, R203). -/
theorem faultData_spec (n : Seq16) (f : Flg) :
    (f.log = [] → recordsRead n f.log = (false, []))
      ∧ (∀ oldest newest, f.log.head? = some oldest → f.log.getLast? = some newest →
          let ahead := 1 ≤ (n - newest.seq).toNat ∧ (n - newest.seq).toNat ≤ 32767
          let back := fun m : Seq16 => (newest.seq - m).toNat
          (ahead → recordsRead n f.log = (false, []))
            ∧ (¬ahead → back n ≤ back oldest.seq →
                recordsRead n f.log = (false, f.log.filter fun r => back r.seq ≤ back n))
            ∧ (¬ahead → back oldest.seq < back n → recordsRead n f.log = (true, f.log))) := by
  refine ⟨fun h => by simp [recordsRead, h], fun oldest newest ho hn => ?_⟩
  intro ahead back
  rw [recordsRead_of_log ho hn]
  exact ⟨fun h => if_pos ((newer_iff _ _).mpr h),
    fun h hb => (if_neg (mt (newer_iff _ _).mp h)).trans (if_pos hb),
    fun h hb => (if_neg (mt (newer_iff _ _).mp h)).trans (if_neg (Nat.not_le.mpr hb))⟩

/-! ## LINK_HISTORY (R53) -/

/-- Which records LINK_HISTORY finds in a history that holds some. -/
theorem recordsData_of_history {n : Seq16} {h : List Interval} {oldest : Interval} (ho : h.head? = some oldest) :
    recordsData n h =
      let found := if newer oldest.number n then h else h.filter fun r => r.number = n || newer r.number n
      listOf Interval.encode (found.take 6) ++ u8 h.length ++ opt 2 (fun r : Interval => u16 r.number.toNat) h.head?
        ++ opt 2 (fun r : Interval => u16 r.number.toNat) h.getLast? ++ flag (newer oldest.number n) := by
  simp only [recordsData, recordsFrom, olderThanAll, ho]

/-- A test kind is at the place of its code in the list of kinds. -/
theorem nth_testKind (k : TestKind) : nth allTestKinds k.ctorIdx = some k := by cases k <;> rfl
theorem nth_block (b : BlockId) : nth allBlocks b.ctorIdx = some b := by cases b <;> rfl

/-- Settles O14: the answers by each request's own rule; the records by `pack_eq_take` and the rules of R53 and R155. -/
theorem readRequestsChangeNothing : Obligations.ReadRequestsChangeNothing := by
  refine ⟨fun tag rest s hs => ⟨fun lo hi => ?_, ?_, fun n hn => ?_, fun p => ?_, fun n k hk => ?_, fun n hn => ?_,
    fun lo hi => ?_, ?_, ?_, fun n b hb hp => ?_, fun n => ?_, fun n hn => ?_⟩, fun n f => ?_, fun n h => ?_⟩
  · exact answers_of_body (decode := rdHistory) (body := linkHistoryRequest) hs rfl rfl rfl
  · exact answers_of_body (decode := rdHistory) (body := linkHistoryRequest) hs rfl rfl rfl
  · refine answers_of_body (decode := rdHistory) (body := linkHistoryRequest) (a := (n.toNat, 0)) hs rfl ?_ ?_
    · simp [rdHistory, rd8]; omega
    · unfold linkHistoryRequest; split
      · simp_all
      · simp_all
      · rfl
  · refine answers_of_body (decode := arg8) (body := fun n => onNamedPort n statusOn) (a := portNumber p) hs rfl ?_ ?_
    · cases p <;> rfl
    · cases p <;> rfl
  · refine answers_of_body (decode := arg8) (body := testResultRequest) (a := n.toNat) hs rfl rfl ?_
    simp only [testResultRequest, hk, nth_testKind]
    rfl
  · refine answers_of_body (decode := arg8) (body := testResultRequest) (a := n.toNat) hs rfl rfl ?_
    have hnone : nth allTestKinds n.toNat = none := by simp [nth, allTestKinds]; omega
    simp only [testResultRequest, hnone]
  · exact answers_of_body (decode := arg16) (body := fun n s => (Answer.with .ok (faultData (BitVec.ofNat 16 n) s.flg), s)) hs rfl rfl rfl
  · exact answers_of_body (decode := noArgs) (body := fun _ s => (Answer.with .ok (retainedData s.flg), s)) (a := ()) hs rfl rfl rfl
  · exact answers_of_body (decode := noArgs) (body := fun _ s => (Answer.with .ok (remoteData s), s)) (a := ()) hs rfl rfl rfl
  · refine answers_of_body (decode := rdGet) (body := settingGetRequest) (a := ⟨n.toNat, 0, rest⟩) hs rfl ?_ ?_
    · have hne : n.toNat ≠ 4 := by rw [hb]; cases b <;> first | decide | exact absurd rfl hp
      simp [rdGet, rd8, hne]
    · simp only [settingGetRequest, BlockArg.named, hb, nth_block]
      rfl
  · refine answers_of_body (decode := rdGet) (body := settingGetRequest) (a := ⟨4, n.toNat, rest⟩) hs rfl rfl ?_
    by_cases hn : n.toNat ≤ 15
    · simp only [settingGetRequest, BlockArg.named, if_pos hn]; rfl
    · simp only [settingGetRequest, BlockArg.named, if_neg hn]
  · refine answers_of_body (decode := rdGet) (body := settingGetRequest) (a := ⟨n.toNat, 0, rest⟩) hs rfl ?_ ?_
    · have hne : n.toNat ≠ 4 := by omega
      simp [rdGet, rd8, hne]
    · have hnone : nth allBlocks n.toNat = none := by simp [nth, allBlocks]; omega
      simp [settingGetRequest, BlockArg.named, hnone]
  · obtain ⟨hempty, hfound⟩ := faultData_spec n f
    refine ⟨hempty, hfound, ?_⟩
    intro found number
    obtain ⟨k, hk, hpack, hfits, hnext⟩ := pack_eq_take 8 readRoom found
    refine ⟨k, hk, hfits, hnext, ?_⟩
    rw [← hpack]
    rfl
  · intro after number data
    refine ⟨fun he => by subst he; rfl, fun oldest ho => ?_⟩
    rw [recordsData_of_history ho]
    refine ⟨fun ha => ?_, fun ha => ?_⟩
    · have hnewer : newer oldest.number n = true := (newer_iff _ _).mpr ha
      simp only [hnewer]
      rfl
    · have hnewer : newer oldest.number n = false := by simpa using mt (newer_iff _ _).mp ha
      have hsame : (h.filter fun r => r.number = n || newer r.number n)
          = h.filter fun r => decide (r.number = n ∨ after r.number n) :=
        List.filter_congr fun r _ => by simp [after, Bool.decide_or, newer]
      simp only [hnewer, hsame]
      rfl

end Sys2Proof.Machine
end

section
/-! PROOFS. Chapter 12: SETTING_PUT, SETTINGS_SAVE and SETTINGS_LOCK. -/

namespace Sys2Proof.Machine
open Sys2Proof

/-! ## SETTING_PUT (R208, R209) -/

/-- The arguments of a put to a block other than PROGRAMS (log 13). -/
theorem decodePut_of_block {n lo hi : Byte} {rest : List Byte} (hn : n.toNat ≠ 4) :
    ((rdPut (n :: lo :: hi :: rest)).map (·.1)) =
      if (PutArg.mk ⟨n.toNat, 0, rest⟩ (lo.toNat + 256 * hi.toNat)).complete then
        some ⟨⟨n.toNat, 0, rest⟩, lo.toNat + 256 * hi.toNat⟩
      else none := by
  simp only [rdPut, rdIf, rd8, rd16, Option.bind_eq_bind, Option.bind_some, if_neg hn, Option.pure_def]
  split <;> rfl

/-- The arguments of a put to PROGRAMS (log 13). -/
theorem decodePut_of_program {n lo hi p : Byte} {rest : List Byte} (hn : n.toNat = 4) :
    ((rdPut (n :: lo :: hi :: p :: rest)).map (·.1)) =
      if (PutArg.mk ⟨n.toNat, p.toNat, rest⟩ (lo.toNat + 256 * hi.toNat)).complete then
        some ⟨⟨n.toNat, p.toNat, rest⟩, lo.toNat + 256 * hi.toNat⟩
      else none := by
  simp only [rdPut, rdIf, rd8, rd16, Option.bind_eq_bind, Option.bind_some, if_pos hn, Option.pure_def]
  split <;> rfl

theorem named_of_block {n program : Nat} {rest : List Byte} {b : BlockId} (hn : n = b.ctorIdx) (hp : program ≤ 15) :
    (BlockArg.mk n program rest).named = some b := by
  rw [BlockArg.named, if_pos hp, hn, nth_block]

/-- The arguments of a put that names a block. -/
theorem decodePut_of_named {n lo hi : Byte} {rest contents : List Byte} {b : BlockId} {program : Nat}
    (hn : n.toNat = b.ctorIdx)
    (hc : b ≠ .programs ∧ program = 0 ∧ contents = rest
      ∨ b = .programs ∧ program ≤ 15 ∧ ∃ p : Byte, p.toNat = program ∧ rest = p :: contents) :
    ((rdPut (n :: lo :: hi :: rest)).map (·.1)) =
        (if contentsComplete b contents then some ⟨⟨n.toNat, program, contents⟩, lo.toNat + 256 * hi.toNat⟩ else none)
      ∧ (BlockArg.mk n.toNat program contents).named = some b := by
  obtain ⟨hb, rfl, rfl⟩ | ⟨rfl, hp, p, rfl, rfl⟩ := hc
  · have hne : n.toNat ≠ 4 := by rw [hn]; cases b <;> first | decide | exact absurd rfl hb
    have hnamed := named_of_block (rest := contents) hn (Nat.zero_le 15)
    refine ⟨?_, hnamed⟩
    rw [decodePut_of_block hne]
    simp only [PutArg.complete, hnamed]
  · have hnamed := named_of_block (rest := contents) hn hp
    refine ⟨?_, hnamed⟩
    rw [decodePut_of_program hn]
    simp only [PutArg.complete, hnamed]

theorem isIdle_iff (q : Sequencer) : q.isIdle = true ↔ q.run = none := Option.isNone_iff_eq_none

theorem ofPrograms_iff (b : BlockId) : b.ofPrograms = true ↔ b = .tones ∨ b = .programs := by
  cases b <;> simp [BlockId.ofPrograms]

/-- The checks of a put that names a block, in their order, and what a put that passes leaves (R208). -/
theorem settingPutRequest_of_named {a : PutArg} {b : BlockId} {s : State} (hb : a.target.named = some b) :
    let i := s.sst.infoOf b
    let used := (b = .tones ∨ b = .programs) ∧ (s.seq1.run ≠ none ∨ s.seq2.run ≠ none)
    (s.sst.store.isSaving = true → settingPutRequest a s = (Answer.refuse .busy, s))
      ∧ (s.sst.store.isSaving = false →
          (b = .ident ∨ i.locked = true → settingPutRequest a s = (Answer.refuse .locked, s))
            ∧ (b ≠ .ident → i.locked = false →
                (i.gen.toNat ≠ a.gen → settingPutRequest a s = (Answer.with .wrongGeneration (u16 i.gen.toNat), s))
                  ∧ (i.gen.toNat = a.gen →
                      (used → settingPutRequest a s = (Answer.refuse .busy, s))
                        ∧ (¬used →
                            (s.sst.contents.put b a.target.program a.target.rest = none →
                                settingPutRequest a s = (Answer.refuse .badArgument, s))
                              ∧ ∀ new, s.sst.contents.put b a.target.program a.target.rest = some new →
                                  settingPutRequest a s =
                                    (Answer.with .ok (u16 (i.gen + 1).toNat),
                                      putEffect b s.sst.contents
                                        { s with
                                          sst :=
                                            { s.sst with
                                              contents := new
                                              info :=
                                                s.sst.info.setIfInBounds b.ctorIdx
                                                  { i with gen := i.gen + 1, dirty := true } } }))))) := by
  intro i used
  have hused : (b.ofPrograms && !(s.seq1.isIdle && s.seq2.isIdle)) = true ↔ used := by
    simp only [used, Bool.and_eq_true, ofPrograms_iff, Bool.not_eq_true', ← Bool.not_eq_true, isIdle_iff, ne_eq,
      Classical.not_and_iff_not_or_not]
  simp only [settingPutRequest, hb]
  refine ⟨fun h => by rw [if_pos h], fun h => ?_⟩
  rw [if_neg (by simp [h])]
  refine ⟨fun h => by rw [if_pos (by simpa using h)], fun hne hl => ?_⟩
  rw [if_neg (by simpa [hne] using hl)]
  refine ⟨fun h => by rw [if_pos (by simpa using h)], fun h => ?_⟩
  rw [if_neg (by simpa using h)]
  refine ⟨fun h => by rw [if_pos (hused.mpr h)], fun h => ?_⟩
  rw [if_neg (mt hused.mp h)]
  exact ⟨fun h => by rw [h], fun new h => by rw [h]; rfl⟩

/-- The host silence timer starts afresh at the limit of CONTROL (R195, R200). -/
theorem restartSilence_of_loaded {s : State} (hl : s.loading = false) :
    restartSilence s
      = { s with
          mpt :=
            { s.mpt with
              silenceEnd :=
                if s.sst.contents.control.silenceS = 0 then none
                else some (s.clock + s.sst.contents.control.silenceS * 1000) } } := by
  simp only [restartSilence, State.onMpt, State.silenceLimit, hl, Bool.false_or, decide_eq_true_eq]
  by_cases h : s.sst.contents.control.silenceS = 0
  · rw [if_pos h, if_pos h]; rfl
  · rw [if_neg h, if_neg h]; rfl

/-- What is the case when auto-lifeline is due (R16). -/
theorem autoLifelineDue_iff (s : State) :
    s.autoLifelineDue = true ↔
      s.sst.contents.control.autoLifeline = true
        ∧ s.pac.relay.pos = .localPort ∧ s.pac.relay.move = none ∧ s.lks.state ≠ .carrying
          ∧ (s.hpc1.state = .idle ∨ s.hpc1.state = .disabled) ∧ ∃ t, s.pac.absenceFrom = some t ∧ t + linkAbsenceMs ≤ s.clock := by
  simp only [State.autoLifelineDue, State.restsIn, Bool.and_eq_true, bne_iff_ne, decide_eq_true_eq,
    Option.isNone_iff_eq_none, Bool.or_eq_true]
  cases s.pac.absenceFrom with
  | none => simp
  | some t =>
    simp only [decide_eq_true_eq, Option.some.injEq, exists_eq_left', ne_eq]
    exact ⟨fun ⟨⟨h1, h2, h3⟩, ⟨h4, h5⟩, h6⟩ => ⟨h1, h2, h3, h4, h6, h5⟩,
      fun ⟨h1, h2, h3, h4, h6, h5⟩ => ⟨⟨h1, h2, h3⟩, ⟨h4, h5⟩, h6⟩⟩

/-- Auto-lifeline takes the relay to COPPER, and HPC1 with it (R16). -/
theorem autoLifeline_of_due {s : State} (h : s.autoLifelineDue = true) :
    autoLifeline s = (startCopperMove .linkDown s).onPort .one Port.toSwitching := if_pos h

theorem autoLifeline_of_not_due {s : State} (h : ¬s.autoLifelineDue = true) : autoLifeline s = s := if_neg h

/-- The part after a put to CONTROL: the host silence timer restarts where the limit changed. -/
def controlTimed (old : ControlSettings) (s : State) : State :=
  { s with
    mpt :=
      { s.mpt with
        silenceEnd :=
          if old.silenceS = s.sst.contents.control.silenceS then s.mpt.silenceEnd
          else if s.sst.contents.control.silenceS = 0 then none
          else some (s.clock + s.sst.contents.control.silenceS * 1000) } }

/-- What a put to CONTROL changes at once (R195, R209). -/
theorem controlPut_of_loaded {old : ControlSettings} {s : State} (hl : s.loading = false) :
    controlPut old s
      = if s.sst.contents.control.autoLifeline && !old.autoLifeline then autoLifeline (controlTimed old s)
        else controlTimed old s := by
  have htimed : (if old.silenceS = s.sst.contents.control.silenceS then s else restartSilence s) = controlTimed old s := by
    by_cases h : old.silenceS = s.sst.contents.control.silenceS
    · rw [if_pos h, controlTimed, if_pos h]
    · rw [if_neg h, controlTimed, if_neg h, restartSilence_of_loaded hl]
  simp only [controlPut, htimed]

section Put

variable {tag : Byte} {args : List Byte} {s : State}

/-- SETTING_PUT is taken as a request. -/
theorem settingPut_frame : ∃ decode : List Byte → Option PutArg, decode = (fun bs => (rdPut bs).map (·.1))
    ∧ exec (.settingPut tag args) s
      = frame (.settingPut tag args) (takeRequest 0x11 false decode settingPutRequest tag args) s := ⟨_, rfl, rfl⟩

/-- A put is answered by its checks. -/
theorem settingPut_answers {a : PutArg} {ans : Answer} {t : State} (hs : s.ready)
    (ha : (rdPut args).map (·.1) = some a) (hb : settingPutRequest a s.heard = (ans, t)) :
    Answers (.settingPut tag args) tag 0x11 s ans t := by
  obtain ⟨decode, hd, h⟩ := settingPut_frame (tag := tag) (args := args) (s := s)
  exact answers_of_body hs h (by rw [hd]; exact ha) hb

theorem settingPut_short (hs : s.ready) (ha : (rdPut args).map (·.1) = none) :
    Answers (.settingPut tag args) tag 0x11 s (Answer.refuse .badArgument) s.heard := by
  obtain ⟨decode, hd, h⟩ := settingPut_frame (tag := tag) (args := args) (s := s)
  exact answers_of_short hs h (by rw [hd]; exact ha)

/-- A put to what is no block, or no program, is refused (R208). -/
theorem settingPut_unnamed {a : PutArg} (hs : s.ready) (ha : (rdPut args).map (·.1) = some a)
    (hn : a.target.named = none) : Answers (.settingPut tag args) tag 0x11 s (Answer.refuse .badArgument) s.heard :=
  settingPut_answers hs ha (by simp only [settingPutRequest, hn])

end Put

theorem named_none_of_block {n program : Nat} {rest : List Byte} (h : 9 ≤ n ∨ 16 ≤ program) :
    (BlockArg.mk n program rest).named = none := by
  simp only [BlockArg.named]
  split
  · refine List.getElem?_eq_none ?_
    have : allBlocks.length = 9 := rfl
    omega
  · rfl

theorem complete_of_unnamed {a : PutArg} (h : a.target.named = none) : a.complete = true := by
  simp only [PutArg.complete, h]

/-- Settles O18. -/
theorem settingPutChecksAndEffect : Obligations.SettingPutChecksAndEffect := by
  refine ⟨fun tag n lo hi rest s hs => ?_, fun old s => ?_⟩
  · intro put answers
    refine ⟨fun hn => ?_, fun hn hrest => ?_, fun p r hn hrest hp => ?_, fun b program contents hn hc => ?_⟩
    · have hnamed := named_none_of_block (program := 0) (rest := rest) (Or.inl hn)
      refine settingPut_unnamed hs ((decodePut_of_block (by omega)).trans (if_pos ?_)) hnamed
      exact complete_of_unnamed hnamed
    · subst hrest
      exact settingPut_short hs (by simp [rdPut, rdIf, rd8, rd16, hn])
    · subst hrest
      have hnamed := named_none_of_block (n := n.toNat) (rest := r) (Or.inr hp)
      exact settingPut_unnamed hs ((decodePut_of_program hn).trans (if_pos (complete_of_unnamed hnamed))) hnamed
    · intro i
      obtain ⟨hdec, hnamed⟩ := decodePut_of_named (lo := lo) (hi := hi) hn hc
      refine ⟨fun h => settingPut_short hs (hdec.trans (if_neg (by simp [h]))), fun h => ?_⟩
      have hdec := hdec.trans (if_pos h)
      have answered {ans : Answer} {t : State} := settingPut_answers (tag := tag) (ans := ans) (t := t) hs hdec
      obtain ⟨hsaving, hfree⟩ := settingPutRequest_of_named (a := ⟨⟨n.toNat, program, contents⟩, lo.toNat + 256 * hi.toNat⟩)
        (s := s.heard) hnamed
      refine ⟨fun h => answered (hsaving h), fun h => ?_⟩
      obtain ⟨hlocked, hopen⟩ := hfree h
      refine ⟨fun h => answered (hlocked h), fun hb hl => ?_⟩
      obtain ⟨hgen, hsame⟩ := hopen hb hl
      refine ⟨fun h => answered (hgen h), fun h => ?_⟩
      obtain ⟨hused, hpass⟩ := hsame h
      refine ⟨fun h1 h2 => answered (hused ⟨h1, h2⟩), fun h => ?_⟩
      obtain ⟨hbad, hgood⟩ := hpass h
      refine ⟨fun h => answered (hbad h), fun new h => ⟨answered (hgood new h), fun hplain => ?_⟩⟩
      have hg := hgood new h
      obtain rfl | rfl | rfl | rfl := hplain <;> exact answered hg
  · intro new waits
    refine ⟨⟨fun h => if_pos (by simpa [waits] using h), fun h => if_neg (by simpa [waits] using h)⟩, fun h => ?_,
      fun e hne he => ?_, fun h => ?_, fun l hr hl => ?_, fun hloaded => ?_⟩
    · obtain h | h := h
      · exact if_pos h
      · exact (ite_eq_left_iff.mpr fun _ => by simp only [powerPut, h])
    · intro due t
      have hput : putEffect .power old s = if due ≤ s.clock then stage1Expires t else t := by
        refine (if_neg hne).trans ?_
        simp only [powerPut, he]
        rfl
      refine ⟨fun h => by rw [hput, if_neg (Nat.not_le.mpr h)], fun h ha => ?_⟩
      rw [hput, if_pos h]
      refine does_of_timer (e := due) (f := stage1Expires) (due := fun s => s.psv.stage1End) ha rfl rfl ?_
      rw [show max t.clock due = s.clock from Nat.max_eq_left h]
    · obtain h | h := h
      · exact if_pos h
      · exact ite_eq_left_iff.mpr fun _ => by simp only [endLoopback, h]
    · refine (if_neg (by simp only [new] at hr; simp [hr])).trans ?_
      simp only [endLoopback, hl]
      rfl
    · intro limit timed due turnedOn
      have hdue : (controlTimed old.control s).autoLifelineDue = true ↔ new.control.autoLifeline = true ∧ due :=
        autoLifelineDue_iff _
      have hput : putEffect .control old s = _ := controlPut_of_loaded hloaded
      refine ⟨fun ⟨hon, hd⟩ => ?_, fun h => ?_⟩
      · rw [hput, if_pos (by simpa [turnedOn] using hon), autoLifeline_of_due (hdue.mpr ⟨hon.1, hd⟩)]
        rfl
      · rw [hput]
        split
        case isTrue hon =>
          have hon : turnedOn := by simpa using hon
          exact autoLifeline_of_not_due fun hd => h ⟨hon, (hdue.mp hd).2⟩
        case isFalse => rfl

end Sys2Proof.Machine
end

section
/-! PROOFS. Chapter 12: SETTINGS_SAVE, the writes of a save, and SETTINGS_LOCK. -/

namespace Sys2Proof.Machine
open Sys2Proof

/-! ## SETTINGS_SAVE (R210) -/

/-- The first write of a save. -/
theorem nextWrite_nil (results : List (BlockId × Bool)) (t : Sst) :
    nextWrite [] results t
      = { t with store := .saving { item := .lockRecord, rest := [], results := results, locks := t.lockFlags } } := rfl

/-- A failed write leaves the entry bad or as it was: the part's choice (log 10). -/
theorem failedEntry_cases (i : SaveItem) (s : State) :
    ∃ image, (image = s.sst.image ∨ image = s.sst.image.spoil i)
      ∧ failedEntry i s = { s with free := s.free + 1, sst := { s.sst with image := image } } := by
  unfold failedEntry
  by_cases h : (s.choose 2).1 = 0
  · exact ⟨_, Or.inr rfl, if_pos h⟩
  · exact ⟨_, Or.inl rfl, if_neg h⟩

/-- A write ends outside a save: nothing. -/
theorem saveWriteDone_idle {good : Bool} {s : State} (h : s.sst.store.isSaving = false) : saveWriteDone good s = s := by
  unfold saveWriteDone
  split
  · simp_all [StoreState.isSaving]
  · rfl

theorem saveWriteDone_block {good : Bool} {s : State} {r : SaveRun} {b : BlockId} (h : s.sst.store = .saving r)
    (hi : r.item = .block b) :
    saveWriteDone good s = (blockWritten good b s).onSst (nextWrite r.rest (r.results ++ [(b, good)])) := by
  simp only [saveWriteDone, h, hi]

theorem saveWriteDone_locks {good : Bool} {s : State} {r : SaveRun} (h : s.sst.store = .saving r)
    (hi : r.item = .lockRecord) : saveWriteDone good s = saveEnds r.results good (locksWritten good r.locks s) := by
  simp only [saveWriteDone, h, hi]

/-- Clearing the fault of a save leaves SST's records. -/
theorem clearedAfterSave_info (results : List (BlockId × Bool)) (s : State) :
    (if results.all (·.2) then clearFault .settingsSaveFailed .sst s else s).sst.info = s.sst.info := by
  split <;> simp

/-- Settles O19. -/
theorem settingsSaveRuns : Obligations.SettingsSaveRuns := by
  refine ⟨fun tag rest s hs => ?_, fun s ha => ⟨fun good h => ?_, fun r b hr hi => ⟨?_, ?_⟩, fun r hr hi => ?_⟩⟩
  · have answered {ans : Answer} {t : State} (hb : settingsSaveRequest s.heard = (ans, t)) :
        Answers (.settingsSave tag rest) tag 0x12 s ans t :=
      answers_of_body (decode := noArgs) (body := fun _ => settingsSaveRequest) (a := ()) hs rfl rfl hb
    refine ⟨fun h => answered (if_pos (by simpa using (show s.heard.psv.stage = _ ∨ s.heard.psv.stage = _ from h))), fun h1 h2 => ?_⟩
    have hstage : ¬(s.heard.psv.stage = .conserve || s.heard.psv.stage = .lifeline) = true := by
      simpa using ⟨h1, h2⟩
    refine ⟨fun h => answered ((if_neg hstage).trans (if_pos h)), fun h => answered ?_⟩
    refine (if_neg hstage).trans ((if_neg (by simp [show s.heard.sst = s.sst from rfl, h])).trans ?_)
    refine congrArg (Prod.mk _) ?_
    show s.heard.onSst (nextWrite s.sst.dirtyBlocks []) = _
    rw [show (allBlocks.filter fun b => (s.sst.infoOf b).dirty) = s.sst.dirtyBlocks from rfl]
    cases s.sst.dirtyBlocks <;> rfl
  · exact does_of_event ha rfl (saveWriteDone_idle h)
  · intro i t
    exact does_of_event ha rfl (saveWriteDone_block hr hi)
  · obtain ⟨image, himage, hf⟩ := failedEntry_cases (.block b) s
    refine ⟨image, himage, does_of_event ha rfl ((saveWriteDone_block hr hi).trans ?_)⟩
    rw [show blockWritten false b s = report .settingsSaveFailed .sst .major [d32 b.ctorIdx] (failedEntry (.block b) s)
      from rfl, hf]
  · intro saved done
    refine ⟨?_, ?_⟩
    · intro t t1
      refine does_of_event ha rfl ((saveWriteDone_locks hr hi).trans ?_)
      have hinfo : t1.sst.info = s.sst.info := (clearedAfterSave_info _ _).trans (by simp [t])
      rw [← hinfo]
      rfl
    · obtain ⟨image, himage, hf⟩ := failedEntry_cases .lockRecord s
      refine ⟨image, himage, does_of_event ha rfl ((saveWriteDone_locks hr hi).trans ?_)⟩
      rw [show locksWritten false r.locks s = failedEntry .lockRecord s from rfl, hf]
      rfl

/-! ## SETTINGS_LOCK (R211) -/

/-- The set a SETTINGS_LOCK names, from its two bytes. -/
theorem lockSet_eq (lo hi : Byte) : BitVec.ofNat 16 (lo.toNat + 256 * hi.toNat) = hi ++ lo := by
  apply BitVec.eq_of_toNat_eq
  rw [BitVec.toNat_append, BitVec.toNat_ofNat, ← Nat.shiftLeft_add_eq_or_of_lt lo.isLt, Nat.shiftLeft_eq]
  have := lo.isLt
  have := hi.isLt
  omega

theorem lockSet_eq_zero (lo hi : Byte) : (hi ++ lo : BitVec 16) = 0 ↔ hi = 0 ∧ lo = 0 := by
  have hzero : ∀ b : Byte, b = 0 ↔ b.toNat = 0 := fun b => BitVec.toNat_inj.symm
  rw [hzero hi, hzero lo, ← BitVec.toNat_inj, BitVec.toNat_append, ← Nat.shiftLeft_add_eq_or_of_lt lo.isLt,
    Nat.shiftLeft_eq]
  show hi.toNat * 2 ^ 8 + lo.toNat = 0 ↔ _
  omega

/-- What a set that names any other block, or none, looks like (R211). -/
theorem lockSet_refused (lo hi : Byte) :
    ((hi ++ lo : BitVec 16) = 0 || (hi ++ lo : BitVec 16) &&& ~~~lockable != 0) = true
      ↔ hi ≠ 0x00 ∨ lo ≠ 0x02 ∧ lo ≠ 0x80 ∧ lo ≠ 0x82 := by
  have hmask : ~~~lockable = (0xFF#8 ++ 0x7D#8 : BitVec 16) := by decide
  have hlo : ∀ lo : Byte, lo = 0 ∨ lo &&& 0x7D#8 ≠ 0 ↔ lo ≠ 0x02 ∧ lo ≠ 0x80 ∧ lo ≠ 0x82 := by decide
  have hhi : hi &&& 0xFF#8 = hi := BitVec.and_allOnes
  rw [hmask, BitVec.and_append, hhi, ← hlo, Bool.or_eq_true, decide_eq_true_eq, bne_iff_ne, ne_eq, lockSet_eq_zero,
    lockSet_eq_zero]
  by_cases h : hi = 0
  · simp only [h, true_and, ne_eq, not_true_eq_false, false_or]
  · simp only [h, false_and, not_false_eq_true, or_true, ne_eq, true_or]

/-- Settles O20. -/
theorem settingsLockSetsFlags : Obligations.SettingsLockSetsFlags := by
  intro tag lo hi rest s hs locked c
  have answered {ans : Answer} {t : State} (hb : settingsLockRequest (lo.toNat + 256 * hi.toNat) s.heard = (ans, t)) :
      Answers c tag 0x13 s ans t :=
    answers_of_body (decode := arg16) (body := settingsLockRequest) hs rfl rfl hb
  refine ⟨fun hl hh => answered ?_, fun hl hh => answered ?_, fun hl hh => answered ?_, fun h => answered ?_⟩
  · subst hl hh; rfl
  · subst hl hh; rfl
  · subst hl hh; rfl
  · rw [settingsLockRequest, lockSet_eq]
    exact if_pos ((lockSet_refused lo hi).mpr h)

end Sys2Proof.Machine
end

section
/-! PROOFS. Chapter 12: what the end of loading brings (R44, R94, R188, R194, R195, R206, R207). -/

namespace Sys2Proof.Machine
open Sys2Proof

/-! ## What an operation that keeps the invariants leaves as it is -/

/-- The settings, the stage, the queue of commands and the replies are what they are; no invariant is asked for. -/
theorem keeps_bare (s : State) :
    s.Keeps False False False False (s.sst, s.psv.stage) s.pending s.mpt.replies none :=
  ⟨rfl, rfl, rfl, False.elim, False.elim, False.elim, False.elim, False.elim, False.elim, False.elim, False.elim,
    False.elim⟩

section Kept

variable {B K F L : Prop} {c₀ : Sst × HoldStage} {q₀ : List Instr} {r₀ : List Reply} {pl : Option (Place × Place)}
  {s t : State}

theorem sst_of_keeps (h : t.Keeps B K F L (s.sst, s.psv.stage) q₀ r₀ pl) : t.sst = s.sst := congrArg Prod.fst h.store

theorem stage_of_keeps (h : t.Keeps B K F L (s.sst, s.psv.stage) q₀ r₀ pl) : t.psv.stage = s.psv.stage :=
  congrArg Prod.snd h.store

end Kept

/-- What the start of the blocks at the end of loading leaves of SST. -/
theorem finishLoading_sst (u : BitVec 10) (s : State) : (finishLoading u s).sst = Sst.load u s.sst :=
  sst_of_keeps (s := s.onSst (Sst.load u))
    (cutoffCheck_keeps (startFaults_keeps (reportBad_keeps _ (startStage_keeps (startReport_keeps (portLoaded_keeps
      (powerLoaded_keeps (portsLoaded_keeps (linkLoaded_keeps (keeps_bare (s.onSst (Sst.load u))))))))))))

/-! ## The records of the blocks -/

theorem ctorIdx_allBlocks (i : Nat) (h : i < allBlocks.length) : (allBlocks[i]).ctorIdx = i := by
  have hall : ∀ j : Fin 9, (allBlocks[j.val]'j.isLt).ctorIdx = j.val := by decide
  exact hall ⟨i, h⟩

/-- The records of the blocks, in block order. -/
theorem info_toList (t : Sst) : t.info.toList = allBlocks.map t.infoOf := by
  refine List.ext_getElem (by simp; rfl) fun i h1 h2 => ?_
  have hi : i < allBlocks.length := by simpa using h2
  have h9 : i < 9 := hi
  rw [List.getElem_map, Sst.infoOf, ctorIdx_allBlocks i hi]
  simp [h9]

/-- The records of the blocks with their numbers. -/
theorem info_zipIdx (t : Sst) : t.info.toList.zipIdx = allBlocks.map fun b => (t.infoOf b, b.ctorIdx) := by
  rw [info_toList]
  rfl

/-- SETTINGS_BAD for each defaulted block in block order, and for a failed lock record (R206). -/
theorem reportBad_eq (locksBad : Bool) (s : State) :
    reportBad locksBad s =
      let each := allBlocks.foldl
        (fun x b => if (s.sst.infoOf b).good = true then x else report .settingsBad .sst .major [d32 b.ctorIdx] x) s
      if locksBad then report .settingsBad .sst .major [d32 9] each else each := by
  have hfold : (s.sst.info.toList.zipIdx.filter (fun x => !x.1.good)).foldl
        (fun s x => report .settingsBad .sst .major [d32 x.2] s) s
      = allBlocks.foldl
          (fun x b => if (s.sst.infoOf b).good = true then x else report .settingsBad .sst .major [d32 b.ctorIdx] x) s := by
    rw [info_zipIdx, List.foldl_filter, List.foldl_map]
    congr 1
    funext x b
    cases (s.sst.infoOf b).good <;> rfl
  simp only [reportBad, hfold]

/-- PSV's faults at a start (R188). -/
theorem startFaults_eq (s : State) :
    startFaults s =
      let t5 := if s.psv.stage = .mains then s else report .mainsLost .psv .major [d32 s.psv.battery] s
      let t6 :=
        if s.psv.stage = .conserve ∨ s.psv.stage = .lifeline then
          report .batteryLow .psv .major [d32 t5.psv.battery, d32 s.psv.stage.ctorIdx] t5
        else t5
      if t6.psv.enclosureOpen = true then report .enclosureOpen .psv .info [] t6 else t6 := by
  unfold startFaults
  cases s.psv.stage <;> simp

theorem cutoffCheck_iff (s : State) :
    ((s.psv.stage = .lifeline && s.psv.belowCutoff = 3) && (!s.psv.stopping && !s.loading)) = true
      ↔ s.psv.stage = .lifeline ∧ s.psv.belowCutoff = 3 ∧ s.psv.stopping = false ∧ s.loading = false := by
  simp [and_assoc]

/-- What an entry gives its block (R206). -/
theorem loadedLocks_eq (u : BitVec 10) (m : Image) :
    loadedLocks m (!u.getLsbD 9) = if u.getLsbD 9 then (false, false) else m.locks.getD (false, false) := by
  cases h : u.getLsbD 9 <;> simp [loadedLocks]

/-- Settles O21. -/
theorem loadingCompletes : Obligations.LoadingCompletes := by
  refine ⟨⟨fun u s ha => ⟨fun hl => ?_, fun hl _ _ => ?_⟩, fun u t => ?_, fun α a builtIn gen locked => ⟨rfl, rfl, ?_⟩⟩,
    fun u s ha hl => ?_, fun s => ?_, fun s => rfl, fun s hl => ⟨rfl, ?_⟩, fun s => ⟨fun h => ?_, fun h => ?_⟩⟩
  · exact does_of_event ha rfl (by simp [hl])
  · refine ⟨pump (finishLoading u s), does_of_event ha rfl (by simp [hl]), ?_⟩
    rw [pump_sst, finishLoading_sst]
  · intro m locks c i
    have hlocks : locks = loadedLocks m (!u.getLsbD 9) := (loadedLocks_eq u m).symm
    rw [hlocks]
    exact ⟨⟨rfl, rfl, rfl⟩, rfl, rfl, rfl, rfl, rfl, rfl, rfl, rfl, rfl⟩
  · intro readable
    rfl
  · intro locksBad t i good locked r t1 t2 bad t3 t4 st t5 t6 t7
    refine does_of_event (f := fun s => if s.loading then finishLoading u s else s) ha rfl ?_
    have hreport : startReport t = t1 := by
      simp only [startReport, info_toList, List.map_map]
      rfl
    have hinfo : t2.sst = t.sst := by simp [t2, t1]
    have hbad : reportBad (s.sst.locksBad u) t2 = t4 := by
      have hlocks : s.sst.locksBad u = true ↔ locksBad := by simp [Sst.locksBad, locksBad]
      rw [reportBad_eq, hinfo]
      by_cases h : locksBad
      · exact (if_pos (hlocks.mpr h)).trans (if_pos h).symm
      · exact (if_neg (mt hlocks.mp h)).trans (if_neg h).symm
    have hfaults : startFaults t4 = t7 := startFaults_eq t4
    calc (if s.loading then finishLoading u s else s) = finishLoading u s := if_pos hl
      _ = cutoffCheck (startFaults (reportBad (s.sst.locksBad u) (startStage (startReport t)))) := rfl
      _ = cutoffCheck t7 := by
        rw [hreport, show startStage t1 = t2 from rfl, hbad, hfaults]
  · intro l copied starts
    have hstarts : (copied.lks.enabled && copied.psv.stage != .lifeline) = true ↔ starts := by
      simp only [Bool.and_eq_true, bne_iff_ne]
      exact Iff.rfl
    by_cases h : starts
    · exact (if_pos (hstarts.mpr h)).trans (if_pos h).symm
    · exact (if_neg (mt hstarts.mp h)).trans (if_neg h).symm
  · exact restartSilence_of_loaded (s := s.onMpt fun m => { m with mask := s.sst.contents.control.mask ||| forcedKinds }) hl
  · exact if_pos ((cutoffCheck_iff s).mpr h)
  · exact if_neg (mt (cutoffCheck_iff s).mp h)

end Sys2Proof.Machine
end

section
/-! PROOFS. Chapter 02: attempts (R22 to R27). -/

namespace Sys2Proof.Machine
open Sys2Proof

/-! ## The steps of an attempt -/

/-- The two states differ in MPT, the pair, the link and the fault log only. -/
def State.SameBesideLink (s t : State) : Prop :=
  t = { s with mpt := t.mpt, pac := t.pac, lks := t.lks, flg := t.flg }

theorem State.SameBesideLink.trans {s t u : State} (h : s.SameBesideLink t) (h' : t.SameBesideLink u) :
    s.SameBesideLink u :=
  Eq.trans h' (congrArg (fun x : State => { x with mpt := u.mpt, pac := u.pac, lks := u.lks, flg := u.flg }) h)

theorem State.SameBesideLink.fields {s t : State} (h : s.SameBesideLink t) :
    t.hpc1 = s.hpc1 ∧ t.hpc2 = s.hpc2 ∧ t.seq1 = s.seq1 ∧ t.seq2 = s.seq2 ∧ t.rsc = s.rsc ∧ t.ltu = s.ltu
      ∧ t.mcr = s.mcr ∧ t.psv = s.psv ∧ t.sst = s.sst ∧ t.clock = s.clock := by
  unfold State.SameBesideLink at h
  rw [h]
  exact ⟨rfl, rfl, rfl, rfl, rfl, rfl, rfl, rfl, rfl, rfl⟩

/-- Waiting with a reason: the link's record, and MPT's notice (R21). -/
theorem waitWith_eq (w : WaitReason) (cause : LinkCause) (s : State) :
    waitWith w cause s =
      { s with
        mpt := (waitWith w cause s).mpt
        lks :=
          { s.lks with
            state := .waiting, wait := some w, dest := none, backoffEnd := none, releaseWait := none,
            greetingEnd := none, trainingEnd := none, releasingEnd := none } } := by
  unfold waitWith
  dsimp only
  split <;> rfl

/-! Faults and notices stay beside the link. -/

theorem faultNotice_besideLink (e : FaultEvent) (r : FaultRecord) (s : State) : s.SameBesideLink (faultNotice e r s) := by
  unfold faultNotice
  split <;> rfl

theorem onFlg_besideLink (f : Flg → Flg) (s : State) : s.SameBesideLink (s.onFlg f) := rfl

theorem report_besideLink (c : FaultCode) (o : Source) (v : Severity) (d : List (BitVec 32)) (s : State) :
    s.SameBesideLink (report c o v d s) := by
  have hlog : s.SameBesideLink (reportLog c o v d s) := by
    unfold reportLog
    dsimp only
    repeat' split
    all_goals first
      | exact (onFlg_besideLink _ s).trans (faultNotice_besideLink _ _ _)
      | exact onFlg_besideLink _ s
  unfold report
  dsimp only
  split
  · exact hlog.trans (onFlg_besideLink _ _)
  · exact hlog

theorem clearFault_besideLink (c : FaultCode) (o : Source) (s : State) : s.SameBesideLink (clearFault c o s) := by
  unfold clearFault
  split
  · exact (onFlg_besideLink _ s).trans (faultNotice_besideLink _ _ _)
  · rfl

theorem waitWith_besideLink (w : WaitReason) (cause : LinkCause) (s : State) : s.SameBesideLink (waitWith w cause s) := by
  rw [waitWith_eq]
  rfl

theorem requestLink_besideLink (s : State) : s.SameBesideLink (requestLink s) := by
  unfold requestLink
  split <;> rfl

/-- An attempt touches MPT, the pair, the link and the fault log only. -/
theorem beginAttempt_besideLink (cause : LinkCause) (s : State) : s.SameBesideLink (beginAttempt cause s) := by
  have hfresh : s.SameBesideLink (freshLadder s) := rfl
  unfold beginAttempt
  dsimp only
  split
  · exact (hfresh.trans (waitWith_besideLink _ _ _)).trans (report_besideLink _ _ _ _ _)
  · refine State.SameBesideLink.trans ?_ (requestLink_besideLink _)
    refine State.SameBesideLink.trans ?_ (show State.SameBesideLink _ (State.onLks _ _) from rfl)
    refine State.SameBesideLink.trans ?_ (waitWith_besideLink _ _ _)
    exact State.SameBesideLink.trans (t := (freshLadder s).onLks _) rfl (clearFault_besideLink _ _ _)

/-! ## The outcomes of an attempt (R23) -/

/-- The link as an attempt finds it: no rung is permitted. -/
theorem beginAttempt_of_none {cause : LinkCause} {s : State}
    (h : permittedFrom s.psv.stage s.sst.contents.link.ladder (freshLadder s).lks.rung = none) :
    beginAttempt cause s =
      report .noPermittedRung .lks .major [d32 s.psv.stage.ctorIdx, d32 (freshLadder s).lks.rung]
        (waitWith .noPermittedRung cause (freshLadder s)) := by
  have h : permittedFrom (freshLadder s).psv.stage (freshLadder s).lks.ladder (freshLadder s).lks.rung = none := h
  simp only [beginAttempt, h]
  rfl

/-- The state in which an attempt asks for the pair. -/
def asking (cause : LinkCause) (r : Nat) (s : State) : State :=
  (waitWith .pair cause (clearFault .noPermittedRung .lks ((freshLadder s).onLks fun k => { k with rung := r }))).onLks
    fun k => { k with attempts := up16 k.attempts }

theorem beginAttempt_of_some {cause : LinkCause} {r : Nat} {s : State}
    (h : permittedFrom s.psv.stage s.sst.contents.link.ladder (freshLadder s).lks.rung = some r) :
    beginAttempt cause s = requestLink (asking cause r s) := by
  have h : permittedFrom (freshLadder s).psv.stage (freshLadder s).lks.ladder (freshLadder s).lks.rung = some r := h
  simp only [beginAttempt, h]
  rfl

section Asking

variable (cause : LinkCause) (r : Nat) (s : State)

theorem asking_lks : (asking cause r s).lks =
    { (freshLadder s).lks with
      rung := r, state := .waiting, wait := some .pair, dest := none, backoffEnd := none, releaseWait := none,
      greetingEnd := none, trainingEnd := none, releasingEnd := none, attempts := up16 s.lks.attempts } := by
  simp only [asking, State.onLks]
  rw [waitWith_eq]
  simp
  rfl

theorem asking_pac : (asking cause r s).pac = s.pac := by
  simp only [asking, State.onLks]
  rw [waitWith_eq]
  simp
  rfl

theorem asking_flg : (asking cause r s).flg = (clearFault .noPermittedRung .lks s).flg := by
  simp only [asking, State.onLks]
  rw [waitWith_eq]
  exact clearFault_flg_congr _ _ rfl rfl

theorem asking_clock : (asking cause r s).clock = s.clock := by
  simp only [asking, State.onLks]
  rw [waitWith_eq]
  simp
  rfl

end Asking

theorem linkGrantable_iff (s : State) : s.linkGrantable = true ↔ s.pac.test.state = .free ∧ s.pac.hazardEnd = none := by
  simp [State.linkGrantable]

/-- The pair is free for the link: it enters GREETING (R3, R24). -/
theorem requestLink_of_grantable {s : State} (h : s.linkGrantable = true) :
    (requestLink s).lks = { s.lks with state := .greeting, wait := none, greetingEnd := some (s.clock + 20000) }
      ∧ (requestLink s).pac = { s.pac with link := { state := .held, since := s.uptime } }
      ∧ (requestLink s).flg = s.flg := by
  rw [requestLink, if_pos h]
  exact ⟨rfl, rfl, rfl⟩

/-- The pair is not: its claim waits (R3). -/
theorem requestLink_of_not_grantable {s : State} (h : ¬s.linkGrantable = true) :
    requestLink s = s.onPac fun p => { p with link := { state := .waiting, since := s.uptime } } := if_neg h

/-- Settles O22. -/
theorem attemptBegins : Obligations.AttemptBegins := by
  intro cause s l rung trial t waiting
  refine ⟨fun h => ?_, fun r h => ?_, ?_⟩
  · have ht : t = _ := beginAttempt_of_none h
    rw [ht]
    refine ⟨?_, ?_, ?_⟩
    · rw [report_lks, waitWith_eq]
      rfl
    · rw [report_pac, waitWith_eq]
      rfl
    · rw [waitWith_eq]
      exact report_flg_congr _ _ _ _ rfl rfl
  · have ht : t = _ := beginAttempt_of_some h
    have hpac := asking_pac cause r s
    have hlks := asking_lks cause r s
    have huptime : (asking cause r s).uptime = s.uptime := by simp only [State.uptime, asking_clock]
    rw [ht]
    by_cases hg : (asking cause r s).linkGrantable = true
    case pos =>
      obtain ⟨hl, hp, hf⟩ := requestLink_of_grantable hg
      have hfree := (linkGrantable_iff _).mp hg
      rw [hpac] at hfree
      refine ⟨hf.trans (asking_flg _ _ _), fun _ _ => ⟨hl.trans ?_, hp.trans ?_⟩, fun h => ?_⟩
      · rw [hlks, asking_clock]
        rfl
      · rw [hpac, huptime]
      · exact absurd hfree fun hf => h.elim (· hf.1) (· hf.2)
    case neg =>
      have hheld := mt (linkGrantable_iff _).mpr hg
      rw [hpac] at hheld
      rw [requestLink_of_not_grantable hg]
      refine ⟨asking_flg _ _ _, fun h1 h2 => absurd ⟨h1, h2⟩ hheld, fun _ => ⟨?_, ?_⟩⟩
      · exact hlks
      · rw [State.onPac, hpac, huptime]
  · exact (beginAttempt_besideLink cause s).fields

end Sys2Proof.Machine
end

section
/-! PROOFS. Chapter 02: failed attempts, training, entry to CARRYING (R24 to R27, R33, R63 to R65). -/

namespace Sys2Proof.Machine
open Sys2Proof

/-! ## Releases and failures -/

/-- A HELD claim is released while no test waits (R3). -/
theorem releaseLink_of_held {s : State} (hl : s.pac.link.state = .held) (ht : s.pac.test.state ≠ .waiting) :
    releaseLink s = { s with pac := { s.pac with link := { state := .free, since := s.uptime } } } := by
  rw [releaseLink, if_neg (by simp [hl])]
  simp [reexamine, State.onPac, ht]

/-- The link after a failed attempt (R26, R33, R64, R65). -/
def failedLks (o : FailOutcome) (now : Nat) (k : Lks) : Lks :=
  { k with
    state := .waiting, wait := some .backoff, dest := none, backoffEnd := some (now + k.backoff * 1000),
    releaseWait := none, greetingEnd := none, trainingEnd := none, releasingEnd := none,
    failures := min (k.failures + 1) 65535, lastFail := some o, backoff := min (2 * k.backoff) 480,
    trial := none, rung := match k.trial with | some t => t.former | none => k.rung
    barriers :=
      match k.trial with
      | some t => k.barriers.setIfInBounds t.target (some (now + 86400000))
      | none => k.barriers }

/-- An attempt fails while it holds the pair and no test waits. -/
theorem failAttempt_of_held {o : FailOutcome} {s : State} (hl : s.pac.link.state = .held)
    (ht : s.pac.test.state ≠ .waiting) :
    failAttempt o s =
      report .linkDown .lks .minor [d32 o.ctorIdx, d32 (failedLks o s.clock s.lks).rung, d32 s.lks.backoff]
        (linkNotice s.lks.state (.failed o)
          { s with
            pac := { s.pac with link := { state := .free, since := s.uptime } }
            lks := failedLks o s.clock s.lks }) := by
  unfold failAttempt
  dsimp only
  rw [releaseLink_of_held (s := s.onLks _) hl ht]
  unfold trialFail failedLks
  cases h : s.lks.trial with
  | none => simp only [State.onLks, h]; rfl
  | some x => simp only [State.onLks, h]; rfl

theorem inLinkState_of_eq {st : LinkState} {f : State → State} {s : State} (h : s.lks.state = st) :
    inLinkState st f s = f s := if_pos h

theorem inLinkState_of_ne {st : LinkState} {f : State → State} {s : State} (h : s.lks.state ≠ st) :
    inLinkState st f s = s := if_neg h

/-- Settles O23. -/
theorem attemptFails : Obligations.AttemptFails := by
  intro s ha failed
  refine ⟨fun h => does_of_event ha rfl (inLinkState_of_ne h), fun h => does_of_event ha rfl (inLinkState_of_ne h),
    fun h => does_of_idle_timer ha rfl h, fun h => does_of_idle_timer ha rfl h, fun hl ht => ?_⟩
  have hfail (o : FailOutcome) (now : Nat) : failAttempt o { s with clock := now } = failed o now :=
    failAttempt_of_held (s := { s with clock := now }) hl ht
  exact ⟨fun h => does_of_event ha rfl ((inLinkState_of_eq h).trans (hfail .refused s.clock)),
    fun h => does_of_event ha rfl ((inLinkState_of_eq h).trans (hfail .lost s.clock)),
    fun e he => does_of_timer ha rfl he (hfail .greetingTimeout _),
    fun e he => does_of_timer ha rfl he (hfail .trainingTimeout _)⟩

/-! ## Training -/

theorem attainedReport_of_met {a : Attained} {r : RungRecord} {s : State} (hr : rungIn s.lks.ladder s.lks.rung = some r)
    (h : r.down ≤ a.down ∧ r.up ≤ a.up ∧ r.minMargin ≤ a.margin) : attainedReport a s = enterCarrying a s := by
  simp only [attainedReport, hr]
  exact if_pos (by simpa [Attained.meets] using h)

theorem attainedReport_of_missed {a : Attained} {r : RungRecord} {s : State}
    (hr : rungIn s.lks.ladder s.lks.rung = some r) (h : ¬(r.down ≤ a.down ∧ r.up ≤ a.up ∧ r.minMargin ≤ a.margin)) :
    attainedReport a s = stepTraining s := by
  simp only [attainedReport, hr]
  exact if_neg (by simpa [Attained.meets] using h)

theorem trialFail_of_none {s : State} (h : s.lks.trial = none) : trialFail s = s := by
  simp only [trialFail, h]

theorem trialFail_of_some {s : State} {x : Trial} (h : s.lks.trial = some x) :
    trialFail s =
      { s with
        lks :=
          { s.lks with
            trial := none, rung := x.former
            barriers := s.lks.barriers.setIfInBounds x.target (some (s.clock + 86400000)) } } := by
  simp only [trialFail, h]
  rfl

theorem stepTraining_of_some {s : State} {r : Nat}
    (h : permittedBelow s.psv.stage s.lks.ladder s.lks.rung = some r) :
    stepTraining s =
      linkNotice .training .other
        ((trialFail s).onLks fun k => { k with rung := r, trainingEnd := some (s.clock + 45000) }) := by
  simp only [stepTraining, h]
  rfl

theorem stepTraining_of_none {s : State} (h : permittedBelow s.psv.stage s.lks.ladder s.lks.rung = none) :
    stepTraining s = failAttempt .notAttainable (trialFail s) := by
  simp only [stepTraining, h]

/-- What takes a relay that auto-lifeline moved back to LOCAL (R17). -/
theorem tryReturnLocal_iff (u : State) :
    ((u.restsIn .copper && u.pac.relay.reason = .linkDown)
        && ((u.lks.state = .carrying && !u.pac.copperActive)
        && (u.psv.stage != .lifeline && !u.mpt.autonomous))) = true
      ↔ u.pac.relay.pos = .copper ∧ u.pac.relay.move = none ∧ u.pac.relay.reason = .linkDown
        ∧ u.lks.state = .carrying ∧ u.pac.copperActive = false ∧ u.psv.stage ≠ .lifeline ∧ u.mpt.autonomous = false := by
  simp only [State.restsIn, Bool.and_eq_true, decide_eq_true_eq, Option.isNone_iff_eq_none, Bool.not_eq_true', bne_iff_ne]
  exact ⟨fun ⟨⟨⟨h1, h2⟩, h3⟩, ⟨h4, h5⟩, h6, h7⟩ => ⟨h1, h2, h3, h4, h5, h6, h7⟩,
    fun ⟨h1, h2, h3, h4, h5, h6, h7⟩ => ⟨⟨⟨h1, h2⟩, h3⟩, ⟨h4, h5⟩, h6, h7⟩⟩

/-- Settles O24. -/
theorem trainingOutcomes : Obligations.TrainingOutcomes := by
  intro s ha
  refine ⟨fun h => does_of_event ha rfl (inLinkState_of_ne h), fun h => does_of_event ha rfl ?_,
    fun _ _ _ h => does_of_event ha rfl (inLinkState_of_ne h), fun h => does_of_event ha rfl (inLinkState_of_ne h),
    fun htraining => ⟨fun down up margin r hr => ⟨fun hmet => ?_, fun hmissed => ?_⟩, ?_, fun r hx hr => ?_,
      fun hx hr => ?_, fun x hx => ?_, fun hx hl ht => ?_⟩,
    fun u => ⟨fun h => if_neg (mt (tryReturnLocal_iff u).mp h), fun h => ?_⟩⟩
  · rw [inLinkState_of_eq h, enterTraining, h]
    rfl
  · intro k t
    refine does_of_event ha rfl ((inLinkState_of_eq htraining).trans ((attainedReport_of_met hr hmet).trans ?_))
    have hpac : t.pac = s.pac := clearFault_pac _ _ _
    rw [enterCarrying, htraining]
    exact congrArg (fun p : Pac => tryReturnLocal { t with pac := { p with absenceFrom := none, absenceTaken := false } })
      hpac
  · exact does_of_event ha rfl ((inLinkState_of_eq htraining).trans (attainedReport_of_missed hr hmissed))
  · exact does_of_event ha rfl (inLinkState_of_eq htraining)
  · rw [stepTraining_of_some hr, trialFail_of_none hx]
    rfl
  · rw [stepTraining_of_none hr, trialFail_of_none hx]
  · intro back
    refine ⟨fun r hr => ?_, fun hr => ?_⟩
    · rw [stepTraining_of_some hr, trialFail_of_some hx]
      rfl
    · rw [stepTraining_of_none hr, trialFail_of_some hx]
  · intro u
    rw [failAttempt_of_held hl ht, htraining]
    simp only [failedLks, hx]
    rw [← hx]
  · refine (if_pos ((tryReturnLocal_iff u).mpr h)).trans ?_
    obtain ⟨_, _, hreason, _⟩ := h
    rw [startLocalMove, State.onPac, hreason]
    rfl

end Sys2Proof.Machine
end

section
/-! PROOFS. Chapter 02: drops, releases, the signal, and the host's requests to the link (R28 to R40). -/

namespace Sys2Proof.Machine
open Sys2Proof

/-! ## The departure from CARRYING (R27, R34, R52, R165, R171) -/

/-- The interval closes: only its record, the history and MPT's notice. -/
theorem closePartial_eq (reason : DropReason) (s : State) :
    closePartial reason s =
      { s with
        mpt := (closePartial reason s).mpt
        lks := { s.lks with interval := none, history := (closePartial reason s).lks.history } } := by
  cases h : s.lks.interval with
  | none =>
    have hs : closePartial reason s = s := by simp only [closePartial, h]
    rw [hs, ← h]
  | some r =>
    simp only [closePartial, h]
    split <;> rfl

/-- A loopback ends: only it and MPT's notice. -/
theorem endLoopback_eq (cause : LoopEnd) (s : State) :
    endLoopback cause s =
      { s with mpt := (endLoopback cause s).mpt, mcr := { s.mcr with loopback := none } } := by
  cases h : s.mcr.loopback with
  | none =>
    have hs : endLoopback cause s = s := by simp only [endLoopback, h]
    rw [hs, ← h]
  | some l =>
    simp only [endLoopback, h]
    split <;> rfl

theorem endLoopback_of_none {cause : LoopEnd} {s : State} (h : s.mcr.loopback = none) : endLoopback cause s = s := by
  simp only [endLoopback, h]

/-- The maintenance channel is lost: MCR's request, queue and loopback, and MPT's notice. -/
theorem channelLost_eq (s : State) :
    channelLost s =
      { s with
        mpt := (channelLost s).mpt
        mcr :=
          { s.mcr with
            flight := none, outbox := [], loopback := none
            abandoned := if s.mcr.flight.isSome then up16 s.mcr.abandoned else s.mcr.abandoned } } :=
  endLoopback_eq .linkDrop (s.onMcr _)

/-- What a departure from CARRYING leaves (R27, R34, R16). -/
theorem leaveCarrying_eq (reason : DropReason) (s : State) :
    leaveCarrying reason s =
      { s with
        mpt := (leaveCarrying reason s).mpt
        mcr := (leaveCarrying reason s).mcr
        pac := { s.pac with absenceFrom := some s.clock, absenceTaken := false }
        lks :=
          { s.lks with
            interval := none, history := (closePartial reason s).lks.history, carryingSince := none, retrainEnd := none
            powerDropEnd := none, lossEnd := none
            payload :=
              { s.lks.payload with
                up := [], down := []
                flushed := add32 s.lks.payload.flushed (s.lks.payload.up.length + s.lks.payload.down.length) } } } := by
  simp only [leaveCarrying, flushPayload]
  rw [channelLost_eq, closePartial_eq]
  rfl

theorem leaveCarrying_mcr (reason : DropReason) (s : State) :
    (leaveCarrying reason s).mcr.flight = none ∧ (leaveCarrying reason s).mcr.loopback = none := by
  simp only [leaveCarrying, flushPayload]
  rw [channelLost_eq]
  exact ⟨rfl, rfl⟩

/-! ## RELEASING ends (R31) -/

/-- Once the claim is released the link goes on. -/
theorem endReleasing_of_released {s v : State} {r : DropReason}
    (hv : releaseLink (s.onLks fun k => { k with releasingEnd := none }) = v) (hr : s.lks.lastDrop = some r) :
    endReleasing s =
      match s.lks.dest, s.lks.releaseWait with
      | some .off, _ => toOff (.drop r) v
      | _, some w => toBackoff w (.drop r) v
      | _, none => beginAttempt (.drop r) v := by
  simp only [endReleasing, hr, hv]
  cases s.lks.dest with
  | none => cases s.lks.releaseWait <;> rfl
  | some d =>
    cases d with
    | off => rfl
    | waiting => cases s.lks.releaseWait <;> rfl

/-- The claim is released and the link goes on, while no test waits. -/
theorem endReleasing_of_held {s : State} {r : DropReason} (hl : s.pac.link.state = .held)
    (ht : s.pac.test.state ≠ .waiting) (hr : s.lks.lastDrop = some r) :
    endReleasing s =
      let v : State :=
        { s with
          pac := { s.pac with link := { state := .free, since := s.uptime } }
          lks := { s.lks with releasingEnd := none } }
      match s.lks.dest, s.lks.releaseWait with
      | some .off, _ => toOff (.drop r) v
      | _, some w => toBackoff w (.drop r) v
      | _, none => beginAttempt (.drop r) v :=
  endReleasing_of_released (releaseLink_of_held (s := s.onLks _) hl ht) hr

/-- In RELEASING the loss of the exchange's signal ends it (R31). -/
theorem signalLost_of_releasing {s : State} (h : s.lks.signalLost = false) (hst : s.lks.state = .releasing) :
    signalLost s = endReleasing { s with lks := { s.lks with signalLost := true } } := by
  rw [signalLost, if_neg (by simp [h])]
  dsimp only
  split
  · simp_all
  · rfl
  · contradiction

/-- In CARRYING it starts the loss timer (R28). -/
theorem signalLost_of_carrying {s : State} (h : s.lks.signalLost = false) (hst : s.lks.state = .carrying) :
    signalLost s = { s with lks := { s.lks with signalLost := true, lossEnd := some (s.clock + 2000) } } := by
  rw [signalLost, if_neg (by simp [h])]
  dsimp only
  split
  · rfl
  · simp_all
  · contradiction

/-- Elsewhere it is noted. -/
theorem signalLost_of_other {s : State} (h : s.lks.signalLost = false) (hc : s.lks.state ≠ .carrying)
    (hr : s.lks.state ≠ .releasing) : signalLost s = { s with lks := { s.lks with signalLost := true } } := by
  rw [signalLost, if_neg (by simp [h])]
  dsimp only
  split
  · contradiction
  · contradiction
  · rfl

/-- Settles O25. -/
theorem orderlyDropThenRelease : Obligations.OrderlyDropThenRelease := by
  refine ⟨fun r dest wait s => ?_, fun s ha => ⟨fun h => does_of_event ha rfl (inLinkState_of_ne h),
    fun h => does_of_idle_timer ha rfl h, fun h => does_of_idle_timer ha rfl h, fun e he => does_of_timer ha rfl he rfl,
    fun r hst hl ht hr => ?_⟩⟩
  · intro t
    have hmcr : t.mcr.flight = none ∧ t.mcr.loopback = none := leaveCarrying_mcr r _
    have ht : t = _ := leaveCarrying_eq r _
    refine ⟨?_, ?_, hmcr, ?_, ?_⟩
    · rw [ht]
      exact ⟨rfl, rfl, rfl, rfl, rfl, rfl, rfl, rfl, rfl, rfl, rfl, rfl, rfl, rfl, rfl⟩
    · rw [ht]
      exact ⟨rfl, rfl⟩
    · rw [ht]
      rfl
    · rw [ht]
      exact ⟨rfl, rfl, rfl, rfl, rfl, rfl, rfl, rfl, rfl, rfl⟩
  · intro released
    refine ⟨does_of_event ha rfl ((inLinkState_of_eq hst).trans (endReleasing_of_held hl ht hr)), fun h => ?_,
      fun e he => does_of_timer ha rfl he (endReleasing_of_held (s := { s with clock := max s.clock e }) hl ht hr)⟩
    exact does_of_event ha rfl ((signalLost_of_releasing h hst).trans
      (endReleasing_of_held (s := { s with lks := { s.lks with signalLost := true } }) hl ht hr))

/-! ## The signal and the backoff (R28, R29, R33) -/

theorem carriedFor_of_carrying {s : State} {ms t : Nat} (h : s.lks.state = .carrying) (ht : s.lks.carryingSince = some t) :
    s.carriedFor ms = some (t + ms) := by
  simp [State.carriedFor, h, ht]

theorem carriedFor_of_other {s : State} {ms : Nat} (h : s.lks.state ≠ .carrying) : s.carriedFor ms = none := if_neg h

/-- Settles O26. -/
theorem signalAndBackoff : Obligations.SignalAndBackoff := by
  intro s ha
  exact ⟨fun h => does_of_event ha rfl (if_pos h), fun h hc => does_of_event ha rfl (signalLost_of_carrying h hc),
    fun h hc hr => does_of_event ha rfl (signalLost_of_other h hc hr), does_of_event ha rfl rfl,
    fun h => does_of_idle_timer ha rfl h, fun e he => does_of_timer ha rfl he rfl,
    fun e hc he => does_of_timer ha rfl (carriedFor_of_carrying hc he) rfl,
    fun h => does_of_idle_timer ha rfl (carriedFor_of_other h), fun h => does_of_idle_timer ha rfl h,
    fun e he => does_of_timer ha rfl he rfl⟩

/-! ## LINK_ENABLE and LINK_DISABLE (R35, R36) -/

section Requests

variable {tag : Byte} {rest : List Byte} {s : State}

theorem linkEnable_answers {ans : Answer} {t : State} (hs : s.ready) (hb : linkEnableRequest s.heard = (ans, t)) :
    Answers (.linkEnable tag rest) tag 0x20 s ans t :=
  answers_of_body (decode := noArgs) (body := fun _ => linkEnableRequest) (a := ()) hs rfl rfl hb

theorem linkDisable_answers {t : State}
    (hs : s.ready) (hb : disableLink ((endLoopback .host s.heard).onLks fun k => { k with enabled := false }) = t) :
    Answers (.linkDisable tag rest) tag 0x21 s Answer.ok t :=
  answers_of_body (decode := noArgs) (body := fun _ => linkDisableRequest) (a := ()) hs rfl rfl
    (congrArg (Prod.mk Answer.ok) hb)

theorem linkRetrain_answers {ans : Answer} {t : State} (hs : s.ready) (hb : linkRetrainRequest s.heard = (ans, t)) :
    Answers (.linkRetrain tag rest) tag 0x22 s ans t :=
  answers_of_body (decode := noArgs) (body := fun _ => linkRetrainRequest) (a := ()) hs rfl rfl hb

theorem linkRungSet_answers {n : Byte} {ans : Answer} {t : State} (hs : s.ready)
    (hb : linkRungSetRequest n.toNat s.heard = (ans, t)) :
    Answers (.linkRungSet tag (n :: rest)) tag 0x23 s ans t :=
  answers_of_body (decode := arg8) (body := linkRungSetRequest) hs rfl rfl hb

end Requests

/-- A release while no test waits (R3). -/
theorem releaseLink_of_no_test {s : State} (ht : s.pac.test.state ≠ .waiting) :
    releaseLink s =
      { s with
        pac :=
          { s.pac with
            link := if s.pac.link.state = .free then s.pac.link else { state := .free, since := s.uptime } } } := by
  unfold releaseLink
  by_cases h : s.pac.link.state = .free
  · rw [if_pos h, if_pos h]
  · rw [if_neg h, if_neg h]
    simp [reexamine, State.onPac, ht]

theorem disableLink_of_carrying {s : State} (h : s.lks.state = .carrying) :
    disableLink s = dropOrderly .host .off none (trialEnd s) := by
  simp only [disableLink, h, dropByReason]

theorem disableLink_of_off {s : State} (h : s.lks.state = .off) : disableLink s = s := by
  simp only [disableLink, h]

theorem disableLink_of_releasing {s : State} (h : s.lks.state = .releasing) :
    disableLink s = s.onLks fun k => { k with dest := some .off } := by
  simp only [disableLink, h]

/-- An attempt that the host disables ends with its claim, its timers and its trial (R36, R64). -/
theorem disableLink_of_attempt {s : State} (h : s.lks.state = .waiting ∨ s.lks.state = .greeting ∨ s.lks.state = .training)
    (ht : s.pac.test.state ≠ .waiting) :
    disableLink s =
      linkNotice s.lks.state .other
        { s with
          pac :=
            { s.pac with
              link := if s.pac.link.state = .free then s.pac.link else { state := .free, since := s.uptime } }
          lks :=
            { s.lks with
              trial := none, state := .off, wait := none, dest := none, backoffEnd := none, releaseWait := none,
              greetingEnd := none, trainingEnd := none, lossEnd := none, releasingEnd := none, retrainEnd := none,
              powerDropEnd := none } } := by
  have habandon : toOff .other (abandonAttempt s) = _ :=
    congrArg (toOff .other) (releaseLink_of_no_test (s := trialEnd (s.onLks _)) ht)
  obtain h | h | h := h
  · have hoff : disableLink s = toOff .other (releaseLink (trialEnd s)) := by simp only [disableLink, h]
    rw [hoff, releaseLink_of_no_test (s := trialEnd s) ht]
    rfl
  · have hoff : disableLink s = toOff .other (abandonAttempt s) := by simp only [disableLink, h]
    rw [hoff, habandon]
    rfl
  · have hoff : disableLink s = toOff .other (abandonAttempt s) := by simp only [disableLink, h]
    rw [hoff, habandon]
    rfl

theorem linkEnableRequest_of_off {s : State} (hp : s.psv.stage ≠ .lifeline) (h : s.lks.state = .off) :
    linkEnableRequest s = (Answer.ok, beginAttempt .other (s.onLks fun k => { k with enabled := true })) := by
  rw [linkEnableRequest, if_neg hp]
  simp only [h]

theorem linkEnableRequest_of_closing {s : State} (hp : s.psv.stage ≠ .lifeline) (h : s.lks.state = .releasing)
    (hd : s.lks.dest = some .off) :
    linkEnableRequest s = (Answer.ok, s.onLks fun k => { k with enabled := true, dest := some .waiting }) := by
  rw [linkEnableRequest, if_neg hp]
  simp only [h]
  exact if_pos hd

theorem linkEnableRequest_of_other {s : State} (hp : s.psv.stage ≠ .lifeline) (h : s.lks.state ≠ .off)
    (hd : s.lks.state ≠ .releasing ∨ s.lks.dest ≠ some .off) : linkEnableRequest s = (Answer.ok, s) := by
  rw [linkEnableRequest, if_neg hp]
  split
  · contradiction
  next hr => exact if_neg (hd.resolve_left (not_not_intro hr))
  · rfl

/-- Settles O27. -/
theorem linkEnableAndDisable : Obligations.LinkEnableAndDisable := by
  intro tag rest s hs en dis
  have hloop (h : s.mcr.loopback = none) : endLoopback .host s.heard = s.heard := endLoopback_of_none h
  have hcarrying : (endLoopback .host s.heard).lks = s.lks := by rw [endLoopback_eq]; rfl
  refine ⟨fun h => linkEnable_answers hs (if_pos h), fun hp => ⟨fun h => ?_, fun h hd => ?_, fun h hd => ?_⟩,
    fun h hl => ?_, fun h hl => ?_, fun h => ?_, fun h hl ht => ?_⟩
  · exact linkEnable_answers hs (linkEnableRequest_of_off hp h)
  · exact linkEnable_answers hs (linkEnableRequest_of_closing hp h hd)
  · exact linkEnable_answers hs (linkEnableRequest_of_other hp h hd)
  · refine linkDisable_answers hs ?_
    rw [hloop hl]
    exact disableLink_of_off (s := s.heard.onLks _) h
  · refine linkDisable_answers hs ?_
    rw [hloop hl]
    exact disableLink_of_releasing (s := s.heard.onLks _) h
  · exact linkDisable_answers hs (disableLink_of_carrying ((congrArg Lks.state hcarrying).trans h))
  · refine linkDisable_answers hs ?_
    rw [hloop hl]
    exact disableLink_of_attempt (s := s.heard.onLks _) h ht

/-! ## LINK_RETRAIN and LINK_RUNG_SET (R38, R39) -/

/-- LINK_RETRAIN is refused. -/
theorem linkRetrainRequest_of_refused {s : State} (h : s.lks.state = .off ∨ s.lks.state = .releasing ∧ s.lks.dest = some .off) :
    linkRetrainRequest s = (Answer.refuse .wrongState, s) :=
  if_pos (by simpa using h)

theorem linkRetrainRequest_of_taken {s : State}
    (h : ¬(s.lks.state = .off ∨ s.lks.state = .releasing ∧ s.lks.dest = some .off)) :
    linkRetrainRequest s = (Answer.ok, retrain (endLoopback .host s)) :=
  if_neg (by simpa using h)

theorem retrain_of_pair {s : State} (h : s.lks.state = .waiting) (hw : s.lks.wait = some .pair) : retrain s = s := by
  simp only [retrain, h, if_pos hw]

theorem retrain_of_waiting {s : State} (h : s.lks.state = .waiting) (hw : s.lks.wait ≠ some .pair) :
    retrain s = beginAttempt .other s := by
  simp only [retrain, h, if_neg hw]

theorem retrain_of_attempt {s : State} (h : s.lks.state = .greeting ∨ s.lks.state = .training) :
    retrain s = beginAttempt .other (abandonAttempt s) := by
  obtain h | h := h <;> simp only [retrain, h]

theorem retrain_of_carrying {s : State} (h : s.lks.state = .carrying) :
    retrain s = dropOrderly .host .waiting none (trialEnd s) := by
  simp only [retrain, h, dropByReason]

theorem retrain_of_releasing {s : State} (h : s.lks.state = .releasing) :
    retrain s = s.onLks fun k => { k with releaseWait := none } := by
  simp only [retrain, h]

/-- LINK_RUNG_SET for a permitted rung of the ladder. -/
theorem linkRungSetRequest_of_permitted {s : State} {r : Nat} {g : RungRecord} (hr : rungIn s.lks.ladder r = some g)
    (hp : permitted s.psv.stage g = true) :
    linkRungSetRequest r s =
      (Answer.ok,
        if r = (endLoopback .host s).lks.rung then endLoopback .host s else newRung r (endLoopback .host s)) := by
  simp only [linkRungSetRequest, hr, if_pos hp]

section NewRung

variable {s : State} {r : Nat}

theorem newRung_of_idle (h : s.lks.state = .off ∨ s.lks.state = .greeting ∨ s.lks.state = .releasing) :
    newRung r s = (trialEnd s).onLks fun k => { k with rung := r } := by
  obtain h | h | h := h <;> simp [newRung, trialEnd, h]

theorem newRung_of_waiting (h : s.lks.state = .waiting) :
    newRung r s = rerunAttempt ((trialEnd s).onLks fun k => { k with rung := r }) := by
  simp [newRung, trialEnd, h]

theorem newRung_of_training (h : s.lks.state = .training) :
    newRung r s = beginAttempt .other (abandonAttempt ((trialEnd s).onLks fun k => { k with rung := r })) := by
  simp [newRung, trialEnd, h]

theorem newRung_of_carrying (h : s.lks.state = .carrying) :
    newRung r s =
      dropOrderly .host .waiting none (trialEnd ((trialEnd s).onLks fun k => { k with rung := r })) := by
  simp [newRung, trialEnd, dropByReason, h]

end NewRung

/-- Settles O28. -/
theorem linkRetrainAndRungSet : Obligations.LinkRetrainAndRungSet := by
  intro tag n rest s hs re set u
  have hlks : u.lks = s.lks := by simp only [u]; rw [endLoopback_eq]; rfl
  have hstate : u.lks.state = s.lks.state := congrArg Lks.state hlks
  have taken {t : State} (h : ¬(s.lks.state = .off ∨ s.lks.state = .releasing ∧ s.lks.dest = some .off))
      (ht : retrain u = t) : re Answer.ok t :=
    linkRetrain_answers hs ((linkRetrainRequest_of_taken (s := s.heard) h).trans (congrArg _ ht))
  refine ⟨fun h => linkRetrain_answers hs (linkRetrainRequest_of_refused h),
    fun h hw => taken (by simp [h]) (retrain_of_pair (hstate.trans h) (hlks ▸ hw)),
    fun h hw => taken (by simp [h]) (retrain_of_waiting (hstate.trans h) (hlks ▸ hw)),
    fun h => taken ?_ (retrain_of_attempt (hstate ▸ h)),
    fun h => taken (by simp [h]) (retrain_of_carrying (hstate.trans h)),
    fun h hd => taken (by simp [h, hd]) (retrain_of_releasing (hstate.trans h)),
    fun h => linkRungSet_answers hs ?_, fun g hg => ⟨fun hp => linkRungSet_answers hs ?_, fun hp => ?_⟩⟩
  · obtain h | h := h <;> simp [h]
  · have h : rungIn s.heard.lks.ladder n.toNat = none := h
    simp only [linkRungSetRequest, h]
  · have hg : rungIn s.heard.lks.ladder n.toNat = some g := hg
    simp only [linkRungSetRequest, hg]
    exact if_neg (Bool.eq_false_iff.mp hp)
  · intro v
    have hset : linkRungSetRequest n.toNat s.heard = _ := linkRungSetRequest_of_permitted hg hp
    have hrung : (endLoopback .host s.heard).lks.rung = s.lks.rung := congrArg Lks.rung hlks
    rw [hrung] at hset
    refine ⟨fun h => linkRungSet_answers hs (hset.trans (by rw [if_pos h])), fun h => ?_⟩
    rw [if_neg h] at hset
    have newly {t : State} (ht : newRung n.toNat u = t) : set Answer.ok t :=
      linkRungSet_answers hs (hset.trans (congrArg _ ht))
    exact ⟨fun h => newly (newRung_of_idle (hstate ▸ h)), fun h => newly (newRung_of_waiting (hstate.trans h)),
      fun h => newly (newRung_of_training (hstate.trans h)), fun h => newly (newRung_of_carrying (hstate.trans h))⟩

/-! ## The payload port (R34) -/

theorem payloadOpen_iff (s : State) : s.payloadOpen = true ↔ s.lks.state = .carrying ∧ s.mcr.loopback = none := by
  simp [State.payloadOpen]

/-- Settles O29. -/
theorem payloadCells : Obligations.PayloadCells := by
  intro c s ha opened
  have hopen : s.payloadOpen = true ↔ opened := payloadOpen_iff s
  refine ⟨fun h hn => does_of_event ha rfl (if_pos ?_), fun h => does_of_event ha rfl (if_neg ?_),
    fun h hn => does_of_event ha rfl ((if_pos (hopen.mpr h)).trans ?_),
    fun h hn => does_of_event ha rfl ((if_pos (hopen.mpr h)).trans ?_),
    fun h => does_of_event ha rfl (if_neg (mt hopen.mp h)), fun h => does_of_event ha rfl ?_,
    fun d ds h => does_of_event ha rfl ?_, fun h => does_of_event ha rfl ?_, fun d ds h => does_of_event ha rfl ?_,
    does_of_event ha rfl rfl⟩
  · rw [Bool.and_eq_true]
    exact ⟨hopen.mpr h, decide_eq_true hn⟩
  · rw [Bool.and_eq_true, hopen, decide_eq_true_eq]
    exact fun ⟨ho, hn⟩ => h.elim (· ho) (Nat.not_le.mpr hn)
  · exact congrArg (fun p => { s with lks := { s.lks with payload := p } }) (if_pos hn)
  · exact congrArg (fun p => { s with lks := { s.lks with payload := p } }) (if_neg (Nat.not_lt.mpr hn))
  · simp only [upstreamCellSent, h]
  · simp only [upstreamCellSent, h]
    rfl
  · simp only [downstreamCellHanded, h]
  · simp only [downstreamCellHanded, h]
    rfl

end Sys2Proof.Machine
end

section
/-! PROOFS. Chapter 03: drops with their storm steps, and the tests a storm asks for (R33, R58 to R60, R134). -/

namespace Sys2Proof.Machine
open Sys2Proof

/-! ## INTERNAL tests (R134, R135) -/

/-- No release is asked for where the waiting test is not disruptive, or none waits (R5). -/
theorem askRelease_of_mild {s : State} (h : s.pac.test.state ≠ .waiting ∨ ∃ i, s.pac.testInfo = some i ∧ i.disruptive = false) :
    askRelease s = s := by
  unfold askRelease
  dsimp only
  obtain h | ⟨i, hi, hd⟩ := h
  · rw [if_neg (by simp [h])]
  · simp only [hi]
    rw [if_neg (by simp [hd])]

/-- The head of a queue of one claims the pair: granted (R4, R136). -/
theorem claimHead_of_granted {s : State} {e : TestEntry} (hq : s.ltu.queue = [e]) (hg : s.testGrantable = true) :
    claimHead s =
      { s with
        ltu :=
          { s.ltu with
            queue := [{ e with phase := .settle }], run := some (TestRun.start e.kind (s.clock + 50)) }
        pac :=
          { s.pac with
            test := { state := .held, since := s.uptime }
            testInfo := some { job := e.job, origin := e.origin, disruptive := e.disruptive }
            releaseAsked := false, waitEnd := none, testRelayClosed := true } } := by
  let claiming : State := s.onLtu fun l => { l with queue := [{ e with phase := .claiming }] }
  have hclaim : claimTest e claiming = grantTest (claiming.onPac fun p =>
      { p with testInfo := some { job := e.job, origin := e.origin, disruptive := e.disruptive } }) := if_pos hg
  have hhead : claimHead s = askRelease (claimTest e claiming) := by simp only [claimHead, hq, claiming]
  rw [hhead, askRelease_of_mild (Or.inl _), hclaim]
  · rfl
  · rw [hclaim]
    exact ClaimState.noConfusion

/-- It waits (R4, R6). -/
theorem claimHead_of_waiting {s : State} {e : TestEntry} (hq : s.ltu.queue = [e]) (hg : s.testGrantable = false)
    (hd : e.disruptive = false) :
    claimHead s =
      { s with
        ltu := { s.ltu with queue := [{ e with phase := .claiming }] }
        pac :=
          { s.pac with
            test := { state := .waiting, since := s.uptime }
            testInfo := some { job := e.job, origin := e.origin, disruptive := e.disruptive }
            waitEnd := some (s.clock + 300000), testRelayClosed := false } } := by
  let claiming : State := s.onLtu fun l => { l with queue := [{ e with phase := .claiming }] }
  have hclaim : claimTest e claiming = _ := if_neg (Bool.eq_false_iff.mp hg)
  have hhead : claimHead s = askRelease (claimTest e claiming) := by simp only [claimHead, hq, claiming]
  rw [hhead, hclaim]
  exact askRelease_of_mild (Or.inr ⟨_, rfl, hd⟩)

section Request

variable {kind : TestKind} {s : State}

theorem requestTest_of_stage {origin : Origin} {repeats : Nat} {disruptive : Bool}
    (h : s.psv.stage = .conserve ∨ s.psv.stage = .lifeline) :
    requestTest kind origin repeats disruptive s = (.powerLimit, s) := if_pos (by simpa using h)

/-- A stage that allows no test is CONSERVE or LIFELINE. -/
theorem stage_of_not_allowed {stage : HoldStage} (h : ¬(stage ≠ .conserve ∧ stage ≠ .lifeline)) :
    stage = .conserve ∨ stage = .lifeline := by
  by_cases hc : stage = .conserve
  · exact .inl hc
  · exact .inr (Classical.not_not.mp fun hl => h ⟨hc, hl⟩)

/-- A request in a stage that allows it. -/
theorem requestTest_of_allowed {origin : Origin} {repeats : Nat} {disruptive : Bool}
    (h : s.psv.stage ≠ .conserve ∧ s.psv.stage ≠ .lifeline) :
    requestTest kind origin repeats disruptive s =
      match s.ltu.queue.find? (fun e => e.kind = kind && e.origin = origin) with
      | some e => (.accepted .merged e.job, s)
      | none =>
        if testQueueMax ≤ s.ltu.queue.length then (.queueFull, s)
        else
          let e : TestEntry :=
            { job := s.ltu.nextJob, kind := kind, origin := origin, repeats := repeats, disruptive := disruptive,
              arrival := s.uptime, phase := .queued }
          let s1 := s.onLtu fun l => { l with queue := l.queue ++ [e], nextJob := nextJobAfter s.ltu.nextJob }
          (.accepted .queued s.ltu.nextJob, if s.ltu.queue.isEmpty then claimHead s1 else s1) :=
  if_neg (by simpa using h)

end Request

/-- A request that is not disruptive leaves the link alone. -/
theorem requestTest_lks (kind : TestKind) (origin : Origin) (repeats : Nat) (s : State) :
    (requestTest kind origin repeats false s).2.lks = s.lks := by
  by_cases h : s.psv.stage ≠ .conserve ∧ s.psv.stage ≠ .lifeline
  case neg => rw [requestTest_of_stage (stage_of_not_allowed h)]
  rw [requestTest_of_allowed h]
  split
  · rfl
  · split
    · rfl
    · dsimp only
      split
      next hempty =>
        have hq : s.ltu.queue = [] := List.isEmpty_iff.mp hempty
        cases hg : s.testGrantable with
        | true =>
          rw [claimHead_of_granted (s := s.onLtu _) (by simp only [State.onLtu, hq]; rfl) hg]
          rfl
        | false =>
          rw [claimHead_of_waiting (s := s.onLtu _) (by simp only [State.onLtu, hq]; rfl) hg rfl]
          rfl
      · rfl

/-! ## The drop window and its storm steps (R58 to R60) -/

theorem stormStep_of_none {oldest : Nat} {s : State} (h : permittedBelow s.psv.stage s.lks.ladder s.lks.rung = none) :
    stormStep oldest s =
      let a := requestTest .foreignVoltage .internal 1 false s
      let b := requestTest .insulation .internal 1 false a.2
      report .linkFailing .lks .major [d32 s.lks.rung, d32 s.psv.stage.ctorIdx, d32 a.1.job, d32 b.1.job] b.2 := by
  simp only [stormStep, h]

theorem stormStep_of_some {oldest r : Nat} {s : State}
    (h : permittedBelow s.psv.stage s.lks.ladder s.lks.rung = some r) :
    stormStep oldest s =
      report .linkUnstable .lks .minor [d32 s.lks.rung, d32 r, d32 oldest] (s.onLks fun k => { k with rung := r }) := by
  simp only [stormStep, h]

/-- The record of a drop in the state `t`: the fault, the drop window, a storm step (R33, R58, R59). -/
def recordedDrop (window : List DropEntry) (rung : Nat) (ladder : List RungRecord) (clock : Nat) (stage : HoldStage)
    (wait : Nat) (r : DropReason) (t : State) : State :=
  let u := report .linkDown .lks .minor [d32 (5 + r.ctorIdx), d32 rung, d32 wait] t
  let w := (window.filter fun d => clock ≤ d.at_ + 600000) ++ [{ at_ := clock, reason := r }]
  if w.length < 3 then u.onLks fun k => { k with window := w }
  else
    let v := u.onLks fun k => { k with window := [] }
    match permittedBelow stage ladder rung with
    | some below =>
      report .linkUnstable .lks .minor [d32 rung, d32 below, d32 (((w.head?.map (·.at_)).getD 0) / 1000)]
        (v.onLks fun k => { k with rung := below })
    | none => stormStep (((w.head?.map (·.at_)).getD 0) / 1000) v

theorem recordDrop_eq (r : DropReason) (wait : Nat) (t : State) :
    recordDrop r wait t
      = recordedDrop t.lks.window t.lks.rung t.lks.ladder t.clock t.psv.stage wait r t := by
  let u := report .linkDown .lks .minor [d32 (5 + r.ctorIdx), d32 t.lks.rung, d32 wait] t
  have hk : u.lks = t.lks := report_lks _ _ _ _ _
  have hc : u.clock = t.clock := report_clock _ _ _ _ _
  have hp : u.psv = t.psv := report_psv _ _ _ _ _
  have henter : recordDrop r wait t = enterWindow r u := rfl
  rw [henter]
  unfold enterWindow recordedDrop
  dsimp only
  rw [hk, hc]
  generalize hw : (t.lks.window.filter fun d : DropEntry => t.clock ≤ d.at_ + 600000) ++ [DropEntry.mk t.clock r] = w
  change (t.lks.window.filter fun d : DropEntry => t.clock ≤ d.at_ + dropWindowMs) ++ [DropEntry.mk t.clock r] = w at hw
  rw [hw]
  by_cases h3 : w.length < 3
  · rw [if_pos h3, if_pos h3]
  · rw [if_neg h3, if_neg h3]
    cases hb : permittedBelow t.psv.stage t.lks.ladder t.lks.rung with
    | none => rfl
    | some below =>
      have hbelow : permittedBelow u.psv.stage u.lks.ladder u.lks.rung = some below := by rw [hp, hk]; exact hb
      rw [stormStep_of_some (s := u.onLks fun k => { k with window := [] }) hbelow, State.onLks, hk]

/-- The link as a drop leaves it besides its own marks: a trial in its watch has failed (R64, R65). -/
def afterTrial (clock : Nat) (k : Lks) : Lks :=
  match k.trial with
  | none => k
  | some x =>
    { k with
      trial := none, rung := x.former, barriers := k.barriers.setIfInBounds x.target (some (clock + 86400000)) }

/-- The backoff value that follows a drop (R33). -/
def nextBackoff (clock : Nat) (k : Lks) : Nat :=
  if (match k.carryingSince with | some t => decide (clock < t + 60000) | none => false) then min (2 * k.backoff) 480
  else k.backoff

theorem trialFail_eq (s : State) : trialFail s = { s with lks := afterTrial s.clock s.lks } := by
  cases h : s.lks.trial with
  | none => simp only [trialFail, afterTrial, h]
  | some x => simp only [trialFail, afterTrial, h]; rfl

theorem afterTrial_fields (clock : Nat) (k : Lks) :
    (afterTrial clock k).backoff = k.backoff ∧ (afterTrial clock k).carryingSince = k.carryingSince
      ∧ (afterTrial clock k).window = k.window ∧ (afterTrial clock k).ladder = k.ladder := by
  unfold afterTrial
  split <;> exact ⟨rfl, rfl, rfl, rfl⟩

theorem countFailure_trialFail (s : State) :
    countFailure (trialFail s) =
      { s with lks := { afterTrial s.clock s.lks with backoff := nextBackoff s.clock s.lks } } := by
  obtain ⟨hb, hc, _⟩ := afterTrial_fields s.clock s.lks
  rw [trialFail_eq]
  simp only [countFailure, State.onLks, State.earlyDrop, hc, hb]
  rfl

/-- A QUALITY drop (R33, R50, R56). -/
theorem qualityDrop_eq (s : State) :
    qualityDrop s =
      recordedDrop s.lks.window (afterTrial s.clock s.lks).rung (afterTrial s.clock s.lks).ladder s.clock s.psv.stage
        s.lks.backoff .quality
        (dropOrderly .quality .waiting (some s.lks.backoff)
          { s with lks := { afterTrial s.clock s.lks with backoff := nextBackoff s.clock s.lks } }) := by
  obtain ⟨_, _, hw, _⟩ := afterTrial_fields s.clock s.lks
  have hq : qualityDrop s = recordDrop .quality s.lks.backoff
      (dropOrderly .quality .waiting (some s.lks.backoff) (countFailure (trialFail s))) := rfl
  rw [hq, countFailure_trialFail, recordDrop_eq, ← hw]
  unfold dropOrderly
  rw [leaveCarrying_eq]
  rfl

/-- The part as a LOSS drop leaves it once the claim is released, before a waiting test is looked at. -/
def freedByLoss (s : State) : State :=
  { s with
    pac := { s.pac with link := { state := .free, since := s.uptime } }
    lks :=
      { afterTrial s.clock s.lks with
        lastDrop := some .loss, lossEnd := none, backoff := nextBackoff s.clock s.lks
        drops := s.lks.drops.setIfInBounds 0 (min ((s.lks.drops[0]?).getD 0 + 1) 65535) } }

theorem afterTrial_dropped (clock : Nat) (k : Lks) (r : Option DropReason) (d : Vector Nat 8) :
    afterTrial clock { k with lastDrop := r, drops := d } = { afterTrial clock k with lastDrop := r, drops := d } := by
  cases h : k.trial with
  | none => simp only [afterTrial, h]
  | some x => simp only [afterTrial, h]

/-- The claim a LOSS drop releases goes to a test that waits for it (R3, R4). -/
theorem releaseLink_of_waiting_test {s : State} (hl : s.pac.link.state = .held) :
    let freed : State := { s with pac := { s.pac with link := { state := .free, since := s.uptime } } }
    releaseLink s = if s.pac.test.state = .waiting ∧ freed.testGrantable = true then grantTest freed else freed := by
  intro freed
  have hre : releaseLink s = reexamine freed := if_neg (by simp [hl])
  rw [hre]
  by_cases h : s.pac.test.state = .waiting ∧ freed.testGrantable = true
  · exact (if_pos (by simpa [freed] using h)).trans (if_pos h).symm
  · refine (if_neg ?_).trans (Eq.trans ?_ (if_neg h).symm)
    · simpa [freed] using h
    · exact if_neg (by simp [freed])

/-- A LOSS drop (R28, R30, R33). -/
theorem lossDrop_eq {s t : State} (ht : (if s.pac.test.state = .waiting ∧ (freedByLoss s).testGrantable = true
      then grantTest (freedByLoss s) else freedByLoss s) = t) (hl : s.pac.link.state = .held) :
    lossDrop s =
      recordedDrop s.lks.window (afterTrial s.clock s.lks).rung (afterTrial s.clock s.lks).ladder s.clock s.psv.stage
        s.lks.backoff .loss
        (leaveCarrying .loss (toBackoff s.lks.backoff (.drop .loss) t)) := by
  have hmarked : (countFailure (trialFail (countDrop .loss s))).onLks (fun k => { k with lossEnd := none })
      = { freedByLoss s with pac := s.pac } := by
    rw [countFailure_trialFail]
    simp only [State.onLks, countDrop]
    rw [afterTrial_dropped]
    rfl
  have hreleased : releaseLink { freedByLoss s with pac := s.pac } = t :=
    (releaseLink_of_waiting_test (s := { freedByLoss s with pac := s.pac }) hl).trans ht
  have hd : lossDrop s = recordDrop .loss s.lks.backoff (leaveCarrying .loss (toBackoff s.lks.backoff (.drop .loss)
      (releaseLink ((countFailure (trialFail (countDrop .loss s))).onLks (fun k => { k with lossEnd := none }))))) := rfl
  rw [hd, hmarked, hreleased, recordDrop_eq]
  have hgranted : t.lks = (freedByLoss s).lks ∧ t.clock = s.clock ∧ t.psv = s.psv := by
    rw [← ht]
    split <;> exact ⟨rfl, rfl, rfl⟩
  obtain ⟨hk, hc, hp⟩ := hgranted
  obtain ⟨_, _, hw, _⟩ := afterTrial_fields s.clock s.lks
  let x := leaveCarrying .loss (toBackoff s.lks.backoff (.drop .loss) t)
  have hx : x.lks.window = t.lks.window ∧ x.lks.rung = t.lks.rung ∧ x.lks.ladder = t.lks.ladder ∧ x.clock = t.clock
      ∧ x.psv = t.psv := by
    simp only [x]
    rw [leaveCarrying_eq]
    exact ⟨rfl, rfl, rfl, rfl, rfl⟩
  obtain ⟨h1, h2, h3, h4, h5⟩ := hx
  rw [h1, h2, h3, h4, h5, hk, hc, hp, ← hw]
  rfl

/-- Settles O31. -/
theorem lossAndQualityDrops : Obligations.LossAndQualityDrops := by
  refine ⟨fun s => ?drops, fun oldest s h => ?storm, fun kind s => ?request⟩
  case drops =>
    intro k wait early next kept recorded
    refine ⟨qualityDrop_eq s, fun hl => ?_⟩
    intro freed dropped
    refine ⟨fun h => lossDrop_eq (if_neg ?_) hl, fun e rest hw hg hq => lossDrop_eq ((if_pos ⟨hw, hg⟩).trans ?_) hl⟩
    · exact fun ⟨h1, h2⟩ => h.elim (· h1) (fun hf => Bool.eq_false_iff.mp hf h2)
    · have hq : (freedByLoss s).ltu.queue = e :: rest := hq
      simp only [grantTest, Ltu.settle, State.onLtu, State.onPac, hq]
      rfl
  case storm =>
    intro a b job
    have hjob : ∀ x, job x = x.job := fun x => by cases x <;> rfl
    refine ⟨?_, (requestTest_lks _ _ _ _).trans (requestTest_lks _ _ _ _)⟩
    rw [stormStep_of_none h, hjob, hjob]
  case request =>
    intro asked same allowed l
    refine ⟨fun h => requestTest_of_stage (stage_of_not_allowed h), fun before e after ha hq he hb => ?_, fun ha hall => ?_⟩
    · have hfind : l.queue.find? (fun e => e.kind = kind && e.origin = .internal) = some e := by
        refine List.find?_eq_some_iff_append.mpr ⟨by simpa using he, before, after, hq, fun x hx => ?_⟩
        refine Bool.not_eq_true' _ ▸ Bool.eq_false_iff.mpr fun hx' => hb x hx ?_
        simpa only [Bool.and_eq_true, decide_eq_true_eq] using hx'
      simp only [asked]
      rw [requestTest_of_allowed ha, hfind]
    · have hfind : l.queue.find? (fun e => e.kind = kind && e.origin = .internal) = none :=
        List.find?_eq_none.mpr fun x hx => by simpa [same] using hall x hx
      have hasked : asked = _ := requestTest_of_allowed ha
      rw [hfind] at hasked
      refine ⟨fun h => hasked.trans (if_pos h), fun h => ?_⟩
      have hasked := hasked.trans (if_neg (Nat.not_le.mpr h))
      intro e next claim answer
      refine ⟨fun hq => ?_, fun hq hg => ?_, fun hq hg => ?_⟩
      · refine hasked.trans (congrArg _ (if_neg ?_))
        simpa using hq
      · refine hasked.trans (congrArg _ ((if_pos (List.isEmpty_iff.mpr hq)).trans ?_))
        rw [claimHead_of_granted (e := e) (s := s.onLtu _) (by simp only [State.onLtu, l] at *; rw [hq]; rfl) hg]
        rfl
      · refine hasked.trans (congrArg _ ((if_pos (List.isEmpty_iff.mpr hq)).trans ?_))
        rw [claimHead_of_waiting (e := e) (s := s.onLtu _) (by simp only [State.onLtu, l] at *; rw [hq]; rfl) hg rfl]
        rfl

end Sys2Proof.Machine
end

section
/-! PROOFS. Chapter 03: the seconds of CARRYING, the intervals, step-ups and the timers of line quality. -/

namespace Sys2Proof.Machine
open Sys2Proof

/-! ## Step-ups (R62, R63) -/

theorem stepUpDue_carrying {s : State} {target : Nat} (h : s.stepUpDue = some target) :
    s.lks.state = .carrying ∧ s.lks.stepClock = 21600 := by
  unfold State.stepUpDue at h
  split at h
  · exact absurd h (by simp)
  · split at h
    next hc =>
      simp only [Bool.and_eq_true, decide_eq_true_eq] at hc
      exact ⟨hc.1, hc.2.1⟩
    next => exact absurd h (by simp)

theorem stepUpCheck_of_none {s : State} (h : s.stepUpDue = none) : stepUpCheck s = s := by
  simp only [stepUpCheck, h]

theorem stepUpCheck_of_some {s : State} {target : Nat} (h : s.stepUpDue = some target) :
    stepUpCheck s =
      dropOrderly .stepTrial .waiting none
        { s with
          lks :=
            { s.lks with
              trial := some { former := s.lks.rung, target := target, watchEnd := none }, rung := target } } := by
  simp only [stepUpCheck, h]
  rfl

/-- Outside CARRYING, and with a step-up clock that is not full, no step-up is due. -/
theorem stepUpCheck_of_idle {s : State} (h : ¬(s.lks.state = .carrying ∧ s.lks.stepClock = 21600)) : stepUpCheck s = s := by
  refine stepUpCheck_of_none ?_
  cases hd : s.stepUpDue with
  | none => rfl
  | some target => exact absurd (stepUpDue_carrying hd) h

/-! ## After the drop of a line report -/

theorem recordedDrop_lks_state (window : List DropEntry) (rung : Nat) (ladder : List RungRecord) (clock : Nat)
    (stage : HoldStage) (wait : Nat) (r : DropReason) (t : State) :
    (recordedDrop window rung ladder clock stage wait r t).lks.state = t.lks.state := by
  unfold recordedDrop
  dsimp only
  split
  · simp [State.onLks]
  · split
    · simp [State.onLks]
    · unfold stormStep
      split
      · simp [State.onLks]
      · rw [report_lks, requestTest_lks, requestTest_lks]
        simp [State.onLks]

/-- A QUALITY drop goes by RELEASING. -/
theorem qualityDrop_state (s : State) : (qualityDrop s).lks.state = .releasing := by
  rw [qualityDrop_eq, recordedDrop_lks_state]
  unfold dropOrderly
  rw [leaveCarrying_eq]
  rfl

/-! ## The classification of a second (R49 to R51) -/

/-- The second is SEVERE. -/
def secondSevere (k : Lks) (r : LineReport) : Prop := r.signalLost = true ∨ k.params.severe ≤ r.unguarded

/-- Its margin is below the rung's. -/
def secondLow (k : Lks) (r : LineReport) : Prop :=
  match rungIn k.ladder k.rung with | some g => r.margin < g.minMargin | none => False

theorem classify_severe_iff (k : Lks) (r : LineReport) : classify k.params r = .severe ↔ secondSevere k r := by
  unfold classify secondSevere
  split
  next h => simpa using h
  next h =>
    have h : ¬(r.signalLost = true ∨ k.params.severe ≤ r.unguarded) := by simpa using h
    split <;> simp [h]

theorem classify_of_mild {k : Lks} {r : LineReport} (h : ¬secondSevere k r) :
    classify k.params r = if r.unguarded = 0 then .clean else .errored := by
  unfold secondSevere at h
  exact if_neg (by simpa using h)

theorem lowMargin_iff (k : Lks) (r : LineReport) : k.lowMargin r = true ↔ secondLow k r := by
  unfold Lks.lowMargin secondLow
  cases rungIn k.ladder k.rung <;> simp

/-- An interval that has counted a second, from what each kind of second adds. -/
theorem count_eq {k : Lks} {r : LineReport} {i i' : Interval}
    (hsevere : secondSevere k r → i'.severe = i.severe + 1 ∧ i'.errored = i.errored ∧ i'.clean = i.clean)
    (hmild : ¬secondSevere k r →
      i'.severe = i.severe ∧ (r.unguarded = 0 → i'.clean = i.clean + 1 ∧ i'.errored = i.errored)
        ∧ (r.unguarded ≠ 0 → i'.errored = i.errored + 1 ∧ i'.clean = i.clean))
    (hlow : secondLow k r → i'.lowMargin = i.lowMargin + 1) (hhigh : ¬secondLow k r → i'.lowMargin = i.lowMargin)
    (hi' : i' =
      { i with
        severe := i'.severe, errored := i'.errored, clean := i'.clean, lowMargin := i'.lowMargin
        blocks := min (i.blocks + r.blocks) 4294967295
        unguarded := min (i.unguarded + r.unguarded) 4294967295
        guarded := min (i.guarded + r.guarded) 4294967295 }) :
    Interval.count (classify k.params r) (k.lowMargin r) r i = i' ∧ i'.seconds = i.clean + i.errored + i.severe + 1 := by
  have hmargin : (if k.lowMargin r then i.lowMargin + 1 else i.lowMargin) = i'.lowMargin := by
    by_cases h : secondLow k r
    · rw [if_pos ((lowMargin_iff k r).mpr h), hlow h]
    · rw [if_neg (mt (lowMargin_iff k r).mp h), hhigh h]
  have hcounts : (if classify k.params r = .clean then i.clean + 1 else i.clean) = i'.clean
      ∧ (if classify k.params r = .errored then i.errored + 1 else i.errored) = i'.errored
      ∧ (if classify k.params r = .severe then i.severe + 1 else i.severe) = i'.severe
      ∧ i'.seconds = i.clean + i.errored + i.severe + 1 := by
    unfold Interval.seconds
    by_cases h : secondSevere k r
    case pos =>
      obtain ⟨h1, h2, h3⟩ := hsevere h
      rw [(classify_severe_iff k r).mpr h, h1, h2, h3]
      exact ⟨rfl, rfl, rfl, by omega⟩
    case neg =>
      obtain ⟨h1, hclean, herrored⟩ := hmild h
      rw [classify_of_mild h]
      by_cases h0 : r.unguarded = 0
      · obtain ⟨h2, h3⟩ := hclean h0
        rw [if_pos h0, h1, h2, h3]
        exact ⟨rfl, rfl, rfl, by omega⟩
      · obtain ⟨h2, h3⟩ := herrored h0
        rw [if_neg h0, h1, h2, h3]
        exact ⟨rfl, rfl, rfl, by omega⟩
  obtain ⟨hclean, herrored, hsev, hseconds⟩ := hcounts
  refine ⟨?_, hseconds⟩
  rw [hi']
  unfold Interval.count
  rw [hclean, herrored, hsev, hmargin]
  rfl

/-! ## A line report taken (R46, R50, R52, R62) -/

section Taken

variable {r : LineReport} {s u : State}

/-- The second counted, and the interval closed where it is whole. -/
def counted (r : LineReport) (s : State) : State :=
  closeComplete (countSecond r ((s.reach s.lks.reportAt).onLks fun k => { k with reportAt := k.reportAt + 1000 }))

/-- The close has dropped the link: nothing follows. -/
theorem takeReport_of_dropped (hc : s.lks.state = .carrying) (hu : counted r s = u) (hd : u.lks.state ≠ .carrying) :
    takeReport r s = u := by
  have h2 : (if u.lks.state = .carrying && severeLimit ≤ u.lks.consecutiveSevere then qualityDrop u else u) = u :=
    if_neg (by simp [hd])
  have ht : takeReport r s = if s.lks.stepClock < stepClockFull then stepUpCheck u else u := by
    refine (if_pos hc).trans ?_
    dsimp only
    rw [show closeComplete _ = u from hu, h2]
  rw [ht, stepUpCheck_of_idle fun h => hd h.1, ite_self]

/-- The tenth SEVERE second in a row. -/
theorem takeReport_of_severe (hc : s.lks.state = .carrying) (hu : counted r s = u) (hs : u.lks.state = .carrying)
    (h10 : 10 ≤ u.lks.consecutiveSevere) : takeReport r s = qualityDrop u := by
  have h2 : (if u.lks.state = .carrying && severeLimit ≤ u.lks.consecutiveSevere then qualityDrop u else u)
      = qualityDrop u := if_pos (Bool.and_eq_true_iff.mpr ⟨decide_eq_true hs, decide_eq_true h10⟩)
  have ht : takeReport r s = if s.lks.stepClock < stepClockFull then stepUpCheck (qualityDrop u) else qualityDrop u := by
    refine (if_pos hc).trans ?_
    dsimp only
    rw [show closeComplete _ = u from hu, h2]
  rw [ht, stepUpCheck_of_idle (by simp [qualityDrop_state]), ite_self]

/-- Neither: the step-up clock is looked at where it has become full. -/
theorem takeReport_of_mild (hc : s.lks.state = .carrying) (hu : counted r s = u) (h10 : u.lks.consecutiveSevere < 10) :
    takeReport r s = if s.lks.stepClock < 21600 then stepUpCheck u else u := by
  have h2 : (if u.lks.state = .carrying && severeLimit ≤ u.lks.consecutiveSevere then qualityDrop u else u) = u :=
    if_neg fun h => Nat.not_le.mpr h10 (of_decide_eq_true (Bool.and_eq_true_iff.mp h).2)
  refine (if_pos hc).trans ?_
  dsimp only
  rw [show closeComplete _ = u from hu, h2]
  rfl

theorem takeReport_of_clock_short (hc : s.lks.state = .carrying) (hu : counted r s = u)
    (h10 : u.lks.consecutiveSevere < 10) (hf : ¬(u.lks.stepClock = 21600 ∧ s.lks.stepClock < 21600)) :
    takeReport r s = u := by
  rw [takeReport_of_mild hc hu h10]
  split
  next h => exact stepUpCheck_of_idle fun hfull => hf ⟨hfull.2, h⟩
  next => rfl

theorem takeReport_of_idle (h : s.lks.state ≠ .carrying) : takeReport r s = s := if_neg h

end Taken

/-! ## The close of an interval (R52, R56) -/

theorem closeComplete_of_short {s : State} {i : Interval} (hi : s.lks.interval = some i) (h : i.seconds < 60) :
    closeComplete s = s := by
  simp only [closeComplete, hi]
  exact if_pos h

/-- A whole interval closes COMPLETE and the next begins. -/
def nextInterval (i : Interval) (s : State) : State :=
  beginInterval
    (notice (.intervalEnd { i with closing := some .complete })
      { s with
        lks :=
          { s.lks with
            history := (s.lks.history ++ [{ i with closing := some .complete }]).drop (s.lks.history.length - 31) } })

theorem closeComplete_of_whole {s : State} {i : Interval} (hi : s.lks.interval = some i) (h : ¬i.seconds < 60) :
    closeComplete s =
      if s.lks.params.quality ≤ i.severe then raiseRetrain (nextInterval i s) else nextInterval i s := by
  have hnext : beginInterval (appendInterval { i with closing := some .complete } s) = nextInterval i s := by
    have hlen : s.lks.history.length + 1 - 32 = s.lks.history.length - 31 := by omega
    unfold nextInterval
    rw [← hlen]
    rfl
  simp only [closeComplete, hi]
  refine (if_neg h).trans ?_
  rw [hnext]
  rfl

theorem raiseRetrain_of_deferred {s : State} (h : s.lks.retrainEnd ≠ none) : raiseRetrain s = s :=
  if_pos (Option.isSome_iff_ne_none.mpr h)

theorem noCall_iff (s : State) : s.noCall = true ↔ ¬(s.hpc1.state = .connected ∨ s.hpc2.state = .connected) := by
  simp [State.noCall]

theorem raiseRetrain_of_free {s : State} (h : s.lks.retrainEnd = none) (hc : s.noCall = true) :
    raiseRetrain s = qualityDrop s := by
  simp [raiseRetrain, h, hc]

theorem raiseRetrain_of_call {s : State} (h : s.lks.retrainEnd = none) (hc : ¬s.noCall = true) :
    raiseRetrain s = { s with lks := { s.lks with retrainEnd := some (s.clock + 120000) } } := by
  simp [raiseRetrain, h, hc]
  rfl

/-- What a whole interval leaves, but where its retrain is made at once. -/
theorem closeComplete_kept {s : State} {i : Interval} (hi : s.lks.interval = some i) (h : ¬i.seconds < 60)
    (hr : ¬(s.lks.params.quality ≤ i.severe ∧ s.lks.retrainEnd = none)
      ∨ (s.hpc1.state = .connected ∨ s.hpc2.state = .connected)) :
    closeComplete s =
      if s.lks.params.quality ≤ i.severe ∧ s.lks.retrainEnd = none then
        { nextInterval i s with
          lks := { (nextInterval i s).lks with retrainEnd := some ((nextInterval i s).clock + 120000) } }
      else nextInterval i s := by
  rw [closeComplete_of_whole hi h]
  by_cases hq : s.lks.params.quality ≤ i.severe ∧ s.lks.retrainEnd = none
  · obtain ⟨hq1, hq2⟩ := hq
    have hcall := hr.resolve_left (not_not_intro ⟨hq1, hq2⟩)
    rw [if_pos hq1, if_pos ⟨hq1, hq2⟩]
    exact raiseRetrain_of_call (s := nextInterval i s) hq2 (mt (noCall_iff s).mp (not_not_intro hcall))
  · rw [if_neg hq]
    split
    next hq1 => exact raiseRetrain_of_deferred (s := nextInterval i s) fun h => hq ⟨hq1, h⟩
    next => rfl

theorem closeComplete_dropped {s : State} {i : Interval} (hi : s.lks.interval = some i) (h : ¬i.seconds < 60)
    (hq : s.lks.params.quality ≤ i.severe) (hr : s.lks.retrainEnd = none)
    (hcall : ¬(s.hpc1.state = .connected ∨ s.hpc2.state = .connected)) :
    closeComplete s = qualityDrop (nextInterval i s) := by
  rw [closeComplete_of_whole hi h, if_pos hq]
  exact raiseRetrain_of_free (s := nextInterval i s) hr ((noCall_iff s).mpr hcall)

/-! ## The occasions of a report (log 5) -/

theorem closesInterval_iff {s : State} {i : Interval} (hc : s.lks.state = .carrying) (hi : s.lks.interval = some i) :
    s.closesInterval = true ↔ i.clean + i.errored + i.severe + 1 = 60 := by
  simp [State.closesInterval, hc, hi, Interval.seconds, intervalS]

theorem reachesSevereLimit_iff {s : State} {r : LineReport} (hc : s.lks.state = .carrying) :
    s.reachesSevereLimit r = true ↔ secondSevere s.lks r ∧ s.lks.consecutiveSevere = 9 := by
  simp [State.reachesSevereLimit, hc, classify_severe_iff, severeLimit]

theorem fillsStepClock_iff {s : State} {r : LineReport} (hc : s.lks.state = .carrying) :
    s.fillsStepClock r = true ↔ (¬secondSevere s.lks r ∧ ¬secondLow s.lks r) ∧ s.lks.stepClock = 21599 := by
  simp [State.fillsStepClock, hc, classify_severe_iff, stepClockFull, ← lowMargin_iff]

/-- What a report leaves before the interval is looked at. -/
theorem countSecond_eq {r : LineReport} {s : State} {i i' : Interval} {consecutive clock : Nat}
    (hi : s.lks.interval = some i) (hcount : Interval.count (classify s.lks.params r) (s.lks.lowMargin r) r i = i')
    (hsevere : secondSevere s.lks r → consecutive = min (s.lks.consecutiveSevere + 1) 10)
    (hmild : ¬secondSevere s.lks r → consecutive = 0) (hstop : secondSevere s.lks r ∨ secondLow s.lks r → clock = 0)
    (hrun : ¬secondSevere s.lks r → ¬secondLow s.lks r → clock = min (s.lks.stepClock + 1) 21600) :
    countSecond r ((s.reach s.lks.reportAt).onLks fun k => { k with reportAt := k.reportAt + 1000 }) =
      { s with
        clock := max s.clock s.lks.reportAt
        lks :=
          { s.lks with
            reportAt := s.lks.reportAt + 1000, consecutiveSevere := consecutive, stepClock := clock,
            interval := some i' } } := by
  have hconsecutive : (if classify s.lks.params r = .severe then min (s.lks.consecutiveSevere + 1) severeLimit else 0)
      = consecutive := by
    by_cases h : secondSevere s.lks r
    · rw [if_pos ((classify_severe_iff _ _).mpr h), hsevere h]
      rfl
    · rw [if_neg (mt (classify_severe_iff _ _).mp h), hmild h]
  have hclock : (if classify s.lks.params r = .severe || s.lks.lowMargin r then 0
      else min (s.lks.stepClock + 1) stepClockFull) = clock := by
    by_cases h : secondSevere s.lks r ∨ secondLow s.lks r
    · rw [if_pos (by simpa [classify_severe_iff, lowMargin_iff] using h), hstop h]
    · rw [if_neg (by simpa [classify_severe_iff, ← Bool.not_eq_true, lowMargin_iff] using h),
        hrun (fun h1 => h (Or.inl h1)) fun h2 => h (Or.inr h2)]
      rfl
  have hraw : countSecond r ((s.reach s.lks.reportAt).onLks fun k => { k with reportAt := k.reportAt + 1000 }) =
    { s with
      clock := max s.clock s.lks.reportAt
      lks :=
        { s.lks with
          reportAt := s.lks.reportAt + 1000
          consecutiveSevere :=
            if classify s.lks.params r = .severe then min (s.lks.consecutiveSevere + 1) severeLimit else 0
          stepClock :=
            if classify s.lks.params r = .severe || s.lks.lowMargin r then 0
            else min (s.lks.stepClock + 1) stepClockFull
          interval := s.lks.interval.map (Interval.count (classify s.lks.params r) (s.lks.lowMargin r) r) } } := rfl
  rw [hraw, hi, Option.map_some, hcount, hconsecutive, hclock]

/-- The step-up clock that one more second fills. -/
theorem stepClock_of_full {n : Nat} (h : min (n + 1) 21600 = 21600) (hn : n < 21600) : n = 21599 := by omega

/-- Settles O30: the report is taken second by second; its occasions carry the same report. -/
theorem lineReportsCountSeconds : Obligations.LineReportsCountSeconds := by
  intro r s ha severe low
  refine ⟨fun hc => ⟨?_, ?_, ?_, ?_⟩, fun i i' consecutive clock hc hi hsevere hmild hlow hhigh hstop hrun hi' => ?_⟩
  · exact does_of_event ha rfl (takeReport_of_idle hc)
  · exact does_of_event ha rfl (if_neg (by simp [State.closesInterval, hc]))
  · exact does_of_event ha rfl (if_neg (by simp [State.reachesSevereLimit, hc]))
  · exact does_of_event ha rfl (if_neg (by simp [State.fillsStepClock, hc]))
  intro seconds t whole closed call retrain at60 full
  obtain ⟨hcount, hseconds⟩ := count_eq (k := s.lks) (r := r) (i := i) (i' := i')
    (fun h => ⟨(hsevere h).1, (hsevere h).2.1, (hsevere h).2.2.1⟩) (fun h => ⟨(hmild h).1, (hmild h).2.2⟩) hlow hhigh hi'
  have ht : counted r s = closeComplete t := congrArg closeComplete
    (countSecond_eq hi hcount (fun h => (hsevere h).2.2.2) (fun h => (hmild h).2.1) hstop hrun)
  have hti : t.lks.interval = some i' := rfl
  have short (h : seconds < 60) : counted r s = t := ht.trans (closeComplete_of_short hti (hseconds ▸ h))
  have hwhole (h : seconds = 60) : ¬i'.seconds < 60 := by rw [hseconds]; omega
  have kept (h : seconds = 60) (hr : ¬retrain ∨ call) : counted r s = at60 :=
    ht.trans (closeComplete_kept hti (hwhole h) hr)
  have hat60 : at60.lks.state = .carrying ∧ at60.lks.consecutiveSevere = consecutive ∧ at60.lks.stepClock = clock := by
    simp only [at60]
    split <;> exact ⟨hc, rfl, rfl⟩
  obtain ⟨h60s, h60c, h60k⟩ := hat60
  have report {x : State} (h : takeReport r s = x) : Does (.lineReport r) s x := does_of_event ha rfl h
  have close {x : State} (h60 : seconds = 60) (h : takeReport r s = x) : Does (.intervalClose r) s x :=
    does_of_event ha rfl ((if_pos ((closesInterval_iff hc hi).mpr h60)).trans h)
  refine ⟨fun h h10 hf => ?_, fun h h10 => ?_, fun h h10 hf => ?_, fun h hr hcall => ?_,
    fun h hr => ⟨fun h10 hf => ?_, fun h10 => ?_, fun h10 hf => ?_⟩, fun h => ?_, fun h hs h9 => ?_, fun h => ?_,
    fun h => ?_, fun x => ⟨fun target => stepUpCheck_of_some, stepUpCheck_of_none⟩⟩
  · exact report (takeReport_of_clock_short hc (short h) h10 hf)
  · exact report (takeReport_of_severe hc (short h) hc (Nat.le_of_eq h10.symm))
  · have htake : takeReport r s = stepUpCheck t := (takeReport_of_mild hc (short h) h10).trans (if_pos hf.2)
    refine ⟨report htake, does_of_event ha rfl ((if_pos ((fillsStepClock_iff hc).mpr ?_)).trans htake)⟩
    obtain ⟨hfull, hshort⟩ := hf
    have hgood : ¬(severe ∨ low) := fun hbad => absurd (hfull.symm.trans (hstop hbad)) (by decide)
    obtain ⟨hns, hnl⟩ := not_or.mp hgood
    exact ⟨⟨hns, hnl⟩, stepClock_of_full ((hrun hns hnl).symm.trans hfull) hshort⟩
  · have htake : takeReport r s = qualityDrop closed := by
      refine takeReport_of_dropped hc (ht.trans (closeComplete_dropped hti (hwhole h) hr.1 hr.2 hcall)) ?_
      rw [qualityDrop_state]
      exact LinkState.noConfusion
    exact ⟨report htake, close h htake⟩
  · have htake := takeReport_of_clock_short hc (kept h hr) (h60c ▸ h10) (h60k ▸ hf)
    exact ⟨report htake, close h htake⟩
  · have htake := takeReport_of_severe hc (kept h hr) h60s (by omega)
    exact ⟨report htake, close h htake⟩
  · have htake := (takeReport_of_mild hc (kept h hr) (h60c ▸ h10)).trans (if_pos hf.2)
    exact ⟨report htake, close h htake⟩
  · exact does_of_event ha rfl (if_neg (mt (closesInterval_iff hc hi).mp h))
  · refine does_of_event ha rfl ((if_pos ((reachesSevereLimit_iff hc).mpr ⟨hs, h9⟩)).trans ?_)
    refine takeReport_of_severe hc (short h) hc ?_
    have h10 : consecutive = 10 := by rw [(hsevere hs).2.2.2, h9]; rfl
    exact Nat.le_of_eq h10.symm
  · refine does_of_event ha rfl (if_neg (mt (reachesSevereLimit_iff hc).mp ?_))
    exact fun ⟨h1, h2⟩ => h.elim (· h1) (· h2)
  · refine does_of_event ha rfl (if_neg (mt (fillsStepClock_iff hc).mp ?_))
    exact fun ⟨⟨h1, h2⟩, h3⟩ => h.elim h1 (·.elim h2 (· h3))

end Sys2Proof.Machine
end

section
/-! PROOFS. Chapter 03: impulses, ring guard and the timers of line quality (R47, R48, R57, R58, R61, R63, R65). -/

namespace Sys2Proof.Machine
open Sys2Proof

theorem barrier_eq (k : Lks) (n : Fin 8) : k.barrier n = k.barriers[n] := by
  simp [Lks.barrier]

/-- A barrier falls, and a step-up may be due (R65). -/
theorem barrierExpires_eq (n : Fin 8) (s : State) :
    barrierExpires n s = stepUpCheck { s with lks := { s.lks with barriers := s.lks.barriers.set n none } } := by
  have hset : s.lks.barriers.setIfInBounds n none = s.lks.barriers.set n none := by
    ext i hi
    simp [Vector.getElem_setIfInBounds, Vector.getElem_set]
  simp only [barrierExpires, State.onLks, hset]

theorem windowEnd_of_cons {k : Lks} {d : DropEntry} {ds : List DropEntry} (h : k.window = d :: ds) :
    k.windowEnd = some (d.at_ + 600000) := by
  simp only [Lks.windowEnd, h]
  rfl

theorem watchEnd_of_some {k : Lks} {t : Trial} (h : k.trial = some t) : k.watchEnd = t.watchEnd := by
  simp only [Lks.watchEnd, h]
  rfl

/-- Settles O32. -/
theorem qualityEventsAndTimers : Obligations.QualityEventsAndTimers := by
  intro s ha
  refine ⟨fun ms guarded => does_of_event ha rfl rfl, fun h => does_of_idle_timer ha rfl h,
    fun e he => does_of_timer ha rfl he rfl, fun h => does_of_idle_timer ha rfl h,
    fun e he => does_of_timer ha rfl he rfl, fun h => does_of_idle_timer ha rfl ?_,
    fun d ds h => does_of_timer ha rfl (windowEnd_of_cons h) ?_,
    fun h => does_of_idle_timer ha rfl (carriedFor_of_other h),
    fun e hc he => does_of_timer ha rfl (carriedFor_of_carrying hc he) rfl, fun h => does_of_idle_timer ha rfl ?_,
    fun t e ht he => does_of_timer ha rfl ((watchEnd_of_some ht).trans he) rfl,
    fun n h => does_of_idle_timer ha rfl ((barrier_eq s.lks n).trans h),
    fun n e he => does_of_timer ha rfl ((barrier_eq s.lks n).trans he) (barrierExpires_eq n _)⟩
  · simp only [Lks.windowEnd, h]
    rfl
  · simp only [State.onLks, h]
    rfl
  · cases ht : s.lks.trial with
    | none => simp only [Lks.watchEnd, ht]; rfl
    | some t => exact (watchEnd_of_some ht).trans (h t ht)

end Sys2Proof.Machine
end

section
/-! PROOFS. Chapter 01: LIFELINE_SELECT (R13). -/

namespace Sys2Proof.Machine
open Sys2Proof

theorem restsIn_iff (p : RelayPos) (s : State) :
    s.restsIn p = true ↔ s.pac.relay.pos = p ∧ s.pac.relay.move = none := by
  simp [State.restsIn]

section Select

variable {tag n : Byte} {rest : List Byte} {s : State}

theorem lifelineSelect_answers {ans : Answer} {t : State} (hs : s.ready)
    (hb : lifelineSelectRequest n.toNat s.heard = (ans, t)) :
    Answers (.lifelineSelect tag (n :: rest)) tag 0x28 s ans t :=
  answers_of_body (decode := arg8) (body := lifelineSelectRequest) hs rfl rfl hb

theorem selectCopper_of_rest (h : s.pac.relay.move = none) (hp : s.pac.relay.pos = .copper) :
    selectCopper s = (Answer.ok, copperCauseAtRest .host s) := by
  rw [selectCopper, (restsIn_iff _ _).mpr ⟨hp, h⟩, copperCause_of_rest h hp]
  rfl

/-- A COPPER cause where the relay does not rest there is accepted. -/
theorem selectCopper_of_away (h : ¬(s.pac.relay.pos = .copper ∧ s.pac.relay.move = none)) :
    selectCopper s = (Answer.refuse .accepted, copperCause .host s) := by
  rw [selectCopper, Bool.eq_false_iff.mpr (mt (restsIn_iff _ _).mp h)]
  rfl

/-- The table of a LOCAL request, past its two refusals (R13). -/
theorem selectLocal_of_allowed (hp : s.psv.stage ≠ .lifeline) (ha : s.mpt.autonomous = false) :
    selectLocal s =
      if s.pac.relay.move.isSome then (Answer.refuse .busy, s)
      else
        match s.pac.relay.pos with
        | .localPort => (Answer.ok, s)
        | .copper =>
          if s.pac.copperActive then
            (Answer.refuse .accepted, s.onPac fun p => { p with relay := { p.relay with deferred := true } })
          else (Answer.refuse .accepted, startLocalMove false s) :=
  (if_neg hp).trans (if_neg (by simp [ha]))

end Select

/-- Settles O33. -/
theorem lifelineSelectMovesRelay : Obligations.LifelineSelectMovesRelay := by
  intro tag n rest s hs ans moving r
  have copper {a : Answer} {t : State} (hn : n = 0x00) (h : selectCopper s.heard = (a, t)) : ans a t := by
    subst hn
    exact lifelineSelect_answers hs h
  have toLocal {a : Answer} {t : State} (hn : n = 0x01) (h : selectLocal s.heard = (a, t)) : ans a t := by
    subst hn
    exact lifelineSelect_answers hs h
  refine ⟨fun h => lifelineSelect_answers hs ?_, fun hn hm hp hd => copper hn ?_, fun hn hm hp hd => copper hn ?_,
    fun hn hm hp => copper hn ?_, fun m hn hm ht => copper hn ?_, fun m hn hm ht => copper hn ?_,
    fun hn hp => toLocal hn (if_pos hp), fun hn hp ha => toLocal hn ((if_neg hp).trans (if_pos ha)),
    fun hn hp ha => ⟨fun hm => toLocal hn ?_, fun hm hpos => toLocal hn ?_, fun hm hpos hc => toLocal hn ?_,
      fun hm hpos hc => toLocal hn ?_⟩⟩
  · unfold lifelineSelectRequest
    split
    · omega
    · omega
    · rfl
  · rw [selectCopper_of_rest (s := s.heard) hm hp, copperCauseAtRest_of_plain (s := s.heard) hd]
    exact congrArg (fun d => (Answer.ok, { s.heard with pac := { s.pac with relay := { r with reason := .host, deferred := d } } }))
      hd.symm
  · rw [selectCopper_of_rest (s := s.heard) hm hp, copperCauseAtRest_of_deferred (s := s.heard) hd]
    rfl
  · rw [selectCopper_of_away (s := s.heard) fun h => absurd (h.1.symm.trans hp) RelayPos.noConfusion,
      copperCause_of_local (s := s.heard) hm hp]
    rfl
  · rw [selectCopper_of_away (s := s.heard) fun h => absurd (h.2.symm.trans hm) (Option.some_ne_none m).symm,
      copperCause_of_toLocal (s := s.heard) hm ht]
    rfl
  · rw [selectCopper_of_away (s := s.heard) fun h => absurd (h.2.symm.trans hm) (Option.some_ne_none m).symm,
      copperCause_of_toCopper (s := s.heard) hm ht]
    rfl
  · rw [selectLocal_of_allowed (s := s.heard) hp ha]
    exact if_pos (Option.isSome_iff_ne_none.mpr hm)
  all_goals
    rw [selectLocal_of_allowed (s := s.heard) hp ha]
    refine (if_neg (by simp [show s.heard.pac.relay.move = none from hm])).trans ?_
  · have hpos : s.heard.pac.relay.pos = .localPort := hpos
    simp only [hpos]
  · have hpos : s.heard.pac.relay.pos = .copper := hpos
    simp only [hpos]
    exact if_pos hc
  · have hpos : s.heard.pac.relay.pos = .copper := hpos
    simp only [hpos]
    exact if_neg (Bool.eq_false_iff.mp hc)

end Sys2Proof.Machine
end

section
/-! PROOFS. Chapter 01: the copper side and exchange ringing (R2, R8, R9), and what PAC's end of a test does (R141, R144). -/

namespace Sys2Proof.Machine
open Sys2Proof

/-! ## The pair's re-examination (R1, R3, R4) -/

/-- Nothing is granted where no claim waits that may be. -/
theorem reexamine_of_blocked {s : State} (ht : s.pac.test.state = .waiting → s.testGrantable = false)
    (hl : s.pac.link.state = .waiting → s.linkGrantable = false) : reexamine s = s := by
  refine (if_neg fun h => ?_).trans (if_neg fun h => ?_)
  · obtain ⟨h1, h2⟩ := Bool.and_eq_true_iff.mp h
    exact Bool.false_ne_true ((ht (of_decide_eq_true h1)).symm.trans h2)
  · obtain ⟨h1, h2⟩ := Bool.and_eq_true_iff.mp h
    exact Bool.false_ne_true ((hl (of_decide_eq_true h1)).symm.trans h2)

theorem reexamine_of_none {s : State} (ht : s.pac.test.state ≠ .waiting) (hl : s.pac.link.state ≠ .waiting) :
    reexamine s = s := reexamine_of_blocked (fun h => absurd h ht) fun h => absurd h hl

theorem testGrantable_iff (s : State) :
    s.testGrantable = true ↔
      s.pac.link.state ≠ .held ∧ s.pac.lifeline.state = .free ∧ s.pac.hazardEnd = none ∧ s.pac.ringSession = false := by
  simp [State.testGrantable, and_assoc]

/-! ## The end of a held test (R2, R141, R144) -/

theorem freeTest_of_held {s : State} (h : s.pac.test.state = .held) :
    freeTest s =
      { s with
        pac :=
          { s.pac with
            test := { state := .free, since := s.uptime }
            testInfo := none, releaseAsked := false, waitEnd := none, testRelayClosed := false } } :=
  if_neg (by simp [h])

theorem freeTest_of_free {s : State} (h : s.pac.test.state = .free) : freeTest s = s := if_pos h

theorem holdLifeline_of_free {s : State} (h : s.pac.lifeline.state = .free) :
    holdLifeline s = { s with pac := { s.pac with lifeline := { state := .held, since := s.uptime } } } :=
  if_neg (by simp [h])

section Abort

variable {reason : AbortReason} {between : State → State} {s : State}

theorem abortTest_of_held (h : s.pac.test.state = .held) :
    abortTest reason between s = cutHead true reason (between (freeTest s)) := if_pos h

theorem abortTest_of_not_held (h : s.pac.test.state ≠ .held) : abortTest reason between s = between s := if_neg h

end Abort

/-! The faults of a result stay in FLG and MPT. -/

theorem resultFault_pac (r : TestResult) (s : State) : (resultFault r s).pac = s.pac := by
  unfold resultFault; split <;> simp
theorem resultFault_lks (r : TestResult) (s : State) : (resultFault r s).lks = s.lks := by
  unfold resultFault; split <;> simp
theorem resultFault_ltu (r : TestResult) (s : State) : (resultFault r s).ltu = s.ltu := by
  unfold resultFault; split <;> simp

/-- No release is asked of a link that does not hold the pair (R5). -/
theorem askRelease_of_free_link {s : State} (h : s.pac.link.state ≠ .held) : askRelease s = s :=
  if_neg (by simp [h])

/-- A head asks for a pair that is not to be had, from a link that does not hold it (R4, R5, R6). -/
theorem claimHead_of_denied {s : State} {e : TestEntry} {rest : List TestEntry} (hq : s.ltu.queue = e :: rest)
    (hg : s.testGrantable = false) (hl : s.pac.link.state ≠ .held) :
    claimHead s =
      { s with
        ltu := { s.ltu with queue := { e with phase := .claiming } :: rest }
        pac :=
          { s.pac with
            test := { state := .waiting, since := s.uptime }
            testInfo := some { job := e.job, origin := e.origin, disruptive := e.disruptive }
            waitEnd := some (s.clock + 300000), testRelayClosed := false } } := by
  let claiming : State := s.onLtu fun l => { l with queue := { e with phase := .claiming } :: rest }
  have hclaim : claimTest { e with phase := .claiming } claiming = _ := if_neg (Bool.eq_false_iff.mp hg)
  have hhead : claimHead s = askRelease (claimTest { e with phase := .claiming } claiming) := by
    simp only [claimHead, hq]
    rfl
  rw [hhead, hclaim]
  exact askRelease_of_free_link hl

/-- How LTU ends its head when PAC has freed the claim and grants no other test. -/
def endedTest (reason : AbortReason) (e : TestEntry) (l : Ltu) (t : TestsSettings) (uptime : Nat) : TestResult :=
  testResult t e l.run (cutStatus l.run) (some reason) uptime

/-- The TEST_DONE notice of a result, then its fault (R141, R143). -/
def testDone (r : TestResult) (u : State) : State :=
  resultFault r
    (notice (.testDone r.job r.kind r.origin r.status r.abort r.completed r.repeats r.worst r.uptime) u)

section CutHead

variable {reason : AbortReason} {e : TestEntry} {rest : List TestEntry} {s : State}

/-- The head ends. -/
theorem cutHead_eq (hq : s.ltu.queue = e :: rest) (hf : s.pac.test.state = .free) :
    let r := endedTest reason e s.ltu s.sst.contents.tests s.uptime
    cutHead true reason s =
      reexamine (testDone r (claimHead
        { s with
          ltu :=
            { s.ltu with
              queue := rest, run := none
              results := s.ltu.results.setIfInBounds e.kind.ctorIdx (some r) } })) := by
  intro r
  have hcut : cutHead true reason s = finishTest true true e (cutStatus s.ltu.run) (some reason) s := by
    simp only [cutHead, hq]
  have herase : eraseFirst (fun x => decide (x.job = e.job)) s.ltu.queue = rest := by
    rw [hq]
    exact if_pos (decide_eq_true rfl)
  rw [hcut]
  unfold finishTest
  simp only [if_true]
  unfold handOver
  simp only [if_true]
  rw [freeTest_of_free (s := s.onLtu _) hf]
  simp only [State.onLtu, herase]
  rfl

theorem cutHead_of_last (hq : s.ltu.queue = [e]) (hf : s.pac.test.state = .free) :
    let r := endedTest reason e s.ltu s.sst.contents.tests s.uptime
    cutHead true reason s =
      reexamine (testDone r
        { s with
          ltu :=
            { s.ltu with
              queue := [], run := none
              results := s.ltu.results.setIfInBounds e.kind.ctorIdx (some r) } }) := cutHead_eq hq hf

/-- The next entry waits for the pair. -/
theorem cutHead_of_next {next : TestEntry} {more : List TestEntry} (hq : s.ltu.queue = e :: next :: more)
    (hf : s.pac.test.state = .free) (hl : s.pac.link.state ≠ .held) (hg : s.testGrantable = false) :
    let r := endedTest reason e s.ltu s.sst.contents.tests s.uptime
    cutHead true reason s =
      testDone r
        { s with
          ltu :=
            { s.ltu with
              queue := { next with phase := .claiming } :: more, run := none
              results := s.ltu.results.setIfInBounds e.kind.ctorIdx (some r) }
          pac :=
            { s.pac with
              test := { state := .waiting, since := s.uptime }
              testInfo := some { job := next.job, origin := next.origin, disruptive := next.disruptive }
              waitEnd := some (s.clock + 300000), testRelayClosed := false } } := by
  intro r
  let ended : State :=
    { s with
      ltu :=
        { s.ltu with
          queue := next :: more, run := none, results := s.ltu.results.setIfInBounds e.kind.ctorIdx (some r) } }
  have hclaim := claimHead_of_denied (s := ended) (e := next) (rest := more) rfl hg hl
  have hcut : cutHead true reason s = reexamine (testDone r (claimHead ended)) := cutHead_eq hq hf
  rw [hcut, hclaim]
  refine reexamine_of_blocked (fun _ => ?_) fun _ => ?_
  · simp only [State.testGrantable, testDone, resultFault_pac, notice_pac]
    exact hg
  · simp only [State.linkGrantable, testDone, resultFault_pac, notice_pac]
    rfl

end CutHead

end Sys2Proof.Machine
end

section
/-! PROOFS. Chapter 01: the copper side follows the phone, and exchange ringing (R8, R9). -/

namespace Sys2Proof.Machine
open Sys2Proof

/-! ## The phone on the copper side (R8) -/

theorem copperOffHookDue_iff (s : State) :
    (s.restsIn .copper && (s.hpc1.loopClosed && !s.pac.copperOffHook)) = true
      ↔ (s.pac.relay.pos = .copper ∧ s.pac.relay.move = none) ∧ s.pac.copperOffHook = false ∧ s.hpc1.loopClosed = true := by
  rw [Bool.and_eq_true, restsIn_iff, Bool.and_eq_true, Bool.not_eq_true', and_comm (a := s.hpc1.loopClosed = true)]

theorem copperOnHookDue_iff (s : State) :
    (s.restsIn .copper && (!s.hpc1.loopClosed && s.pac.copperOffHook)) = true
      ↔ (s.pac.relay.pos = .copper ∧ s.pac.relay.move = none) ∧ s.pac.copperOffHook = true ∧ s.hpc1.loopClosed = false := by
  rw [Bool.and_eq_true, restsIn_iff, Bool.and_eq_true, Bool.not_eq_true', and_comm (a := s.hpc1.loopClosed = false)]

theorem copperActivates_of_active {reason : AbortReason} {s : State} (h : s.pac.copperActive = true) :
    copperActivates reason s = s := if_pos h

/-- The copper side becomes active. -/
theorem copperActivates_of_idle {reason : AbortReason} {s : State} (h : s.pac.copperActive = false) :
    copperActivates reason s =
      abortTest reason holdLifeline
        { s with pac := { s.pac with copperActive := true }, hpc1 := { s.hpc1 with state := .copperActive } } :=
  if_neg (Bool.eq_false_iff.mp h)

/-- LIFELINE is held while no test holds the pair. -/
theorem abortTest_holdLifeline {reason : AbortReason} {s : State} (ht : s.pac.test.state ≠ .held)
    (hl : s.pac.lifeline.state = .free) :
    abortTest reason holdLifeline s =
      { s with pac := { s.pac with lifeline := { state := .held, since := s.uptime } } } :=
  (abortTest_of_not_held ht).trans (holdLifeline_of_free hl)

/-- A test that holds the pair ends, and LIFELINE is held. -/
theorem abortTest_held_holdLifeline {reason : AbortReason} {s : State} (ht : s.pac.test.state = .held)
    (hl : s.pac.lifeline.state = .free) :
    abortTest reason holdLifeline s =
      cutHead true reason
        { s with
          pac :=
            { s.pac with
              lifeline := { state := .held, since := s.uptime }
              test := { state := .free, since := s.uptime }
              testInfo := none, releaseAsked := false, waitEnd := none, testRelayClosed := false } } := by
  rw [abortTest_of_held ht, freeTest_of_held ht]
  exact congrArg (cutHead true reason) (holdLifeline_of_free (s := State.mk ..) hl)

theorem tryReturnLocal_of_link {s : State} (h : s.lks.state ≠ .carrying) : tryReturnLocal s = s :=
  if_neg (mt (tryReturnLocal_iff s).mp fun hr => h hr.2.2.2.1)

/-- The copper side as it becomes idle. -/
def copperIdled (s : State) : State :=
  { s with
    pac := { s.pac with copperActive := false, lifeline := { state := .free, since := s.uptime } }
    hpc1 := { s.hpc1 with state := .copperIdle } }

theorem copperIdles_eq {s : State} (h : s.pac.copperActive = true) :
    copperIdles s =
      let s2 := reexamine (stepUpCheck (copperIdled s))
      if s2.pac.relay.deferred then startLocalMove true s2 else tryReturnLocal s2 := if_pos h

/-- With the link OFF and no claim waiting nothing but a deferred LOCAL request follows. -/
theorem copperIdles_of_off {s : State} (h : s.pac.copperActive = true) (hk : s.lks.state = .off)
    (ht : s.pac.test.state ≠ .waiting) (hl : s.pac.link.state ≠ .waiting) :
    copperIdles s =
      if s.pac.relay.deferred then startLocalMove true (copperIdled s) else copperIdled s := by
  have hcheck : stepUpCheck (copperIdled s) = copperIdled s :=
    stepUpCheck_of_idle fun hc => absurd (hk.symm.trans hc.1) LinkState.noConfusion
  have hre : reexamine (copperIdled s) = copperIdled s := reexamine_of_none ht hl
  have hreturn : tryReturnLocal (copperIdled s) = copperIdled s :=
    tryReturnLocal_of_link fun hc => absurd (hk.symm.trans hc) LinkState.noConfusion
  rw [copperIdles_eq h]
  dsimp only
  rw [hcheck, hre, hreturn]
  rfl

/-- Settles O34. -/
theorem copperSideFollowsPhone : Obligations.CopperSideFollowsPhone := by
  refine ⟨fun s ha => ⟨fun h => ?_, fun h => ?_, fun hr ho hc => ⟨fun hact => ?_, fun hact => ⟨?_, fun ht hl => ?_, fun ht hl => ?_⟩⟩,
    fun hr ho hc => ?onhook⟩,
    fun reason e rest s hq hf hl hg => ⟨fun hrest => ?_, fun next more hrest => ?_⟩⟩
  · refine does_of_idle_timer ha rfl (if_neg (mt (copperOffHookDue_iff s).mp ?_))
    rintro ⟨h1, h2, h3⟩
    exact h.elim (· h1) fun h => h.elim (fun h => absurd (h.symm.trans h2) Bool.noConfusion)
      fun h => absurd (h.symm.trans h3) Bool.noConfusion
  · refine does_of_idle_timer ha rfl (if_neg (mt (copperOnHookDue_iff s).mp ?_))
    rintro ⟨h1, h2, h3⟩
    exact h.elim (· h1) fun h => h.elim (fun h => absurd (h.symm.trans h2) Bool.noConfusion)
      fun h => absurd (h.symm.trans h3) Bool.noConfusion
  · refine does_of_timer ha rfl (if_pos ((copperOffHookDue_iff s).mpr ⟨hr, ho, hc⟩)) ?_
    unfold copperOffhook
    dsimp only
    rw [if_pos hact]
    exact copperActivates_of_active hact
  · refine does_of_timer ha rfl (if_pos ((copperOffHookDue_iff s).mpr ⟨hr, ho, hc⟩)) ?_
    unfold copperOffhook
    dsimp only
    rw [if_neg (Bool.eq_false_iff.mp hact)]
    exact copperActivates_of_idle hact
  · exact abortTest_holdLifeline ht hl
  · exact abortTest_held_holdLifeline ht hl
  case onhook =>
    intro now u
    have due : s.copperOnHookDue = some (s.hpc1.loopSince + 1000) := if_pos ((copperOnHookDue_iff s).mpr ⟨hr, ho, hc⟩)
    refine ⟨fun hring => does_of_timer ha rfl due (if_pos hring),
      fun hring => ⟨does_of_timer ha rfl due (if_neg (Bool.eq_false_iff.mp hring)), fun hact hk ht hl hd => ?_⟩⟩
    exact (copperIdles_of_off (s := u) hact hk ht hl).trans (if_neg (Bool.eq_false_iff.mp hd))
  · subst hrest
    exact cutHead_of_last hq hf
  · subst hrest
    exact cutHead_of_next hq hf hl hg

/-! ## Exchange ringing (R9) -/

/-- The part as an exchange ringing session begins with its first burst (R9, R48, R185). -/
def sessionBegun (s : State) : State :=
  wakeCause .exchangeRing none
    (notice (.exchangeRing true s.pac.relay.pos (s.pac.relay.move.map (·.target)) s.uptime)
      { s with
        pac := { s.pac with ringBurst := true, sessionEnd := none, ringSession := true }
        lks := { s.lks with ringGuard := some (s.clock + 200) } })

/-- Then follows the copper side, or the held test. -/
theorem burstStart_of_new {s : State} (hb : s.pac.ringBurst = false) (hs : s.pac.ringSession = false) :
    burstStart s =
      if s.pac.relay.pos = .copper ∧ s.pac.relay.move = none ∧ s.pac.copperActive = false then
        copperActivates .ringing (sessionBegun s)
      else abortTest .ringing id (sessionBegun s) := by
  have hnew : burstStart s =
      if (sessionBegun s).restsIn .copper && !(sessionBegun s).pac.copperActive then
        copperActivates .ringing (sessionBegun s)
      else abortTest .ringing id (sessionBegun s) :=
    (if_neg (Bool.eq_false_iff.mp hb)).trans (if_neg (Bool.eq_false_iff.mp hs))
  have hrests : ((sessionBegun s).restsIn .copper && !(sessionBegun s).pac.copperActive) = true
      ↔ s.pac.relay.pos = .copper ∧ s.pac.relay.move = none ∧ s.pac.copperActive = false := by
    rw [Bool.and_eq_true, restsIn_iff, Bool.not_eq_true']
    exact and_assoc
  rw [hnew]
  simp only [hrests]

/-- The part as a session ends (R9). -/
def sessionOver (s : State) : State :=
  notice (.exchangeRing false s.pac.relay.pos (s.pac.relay.move.map (·.target)) s.uptime)
    { s with pac := { s.pac with ringSession := false, sessionEnd := none } }

/-- Then the copper side becomes idle, or the waiting claims are looked at. -/
theorem sessionEnds_eq (s : State) :
    sessionEnds s =
      if s.pac.relay.pos = .copper ∧ s.pac.relay.move = none ∧ s.pac.copperActive = true ∧ s.pac.copperOffHook = false
      then copperIdles (sessionOver s) else reexamine (sessionOver s) := by
  have hidles : ((sessionOver s).restsIn .copper
        && ((sessionOver s).pac.copperActive && !(sessionOver s).pac.copperOffHook)) = true
      ↔ s.pac.relay.pos = .copper ∧ s.pac.relay.move = none ∧ s.pac.copperActive = true ∧ s.pac.copperOffHook = false := by
    rw [Bool.and_eq_true, restsIn_iff, Bool.and_eq_true, Bool.not_eq_true']
    exact and_assoc
  have hs : sessionEnds s =
      if (sessionOver s).restsIn .copper
          && ((sessionOver s).pac.copperActive && !(sessionOver s).pac.copperOffHook)
      then copperIdles (sessionOver s) else reexamine (sessionOver s) := rfl
  rw [hs]
  simp only [hidles]

/-- Settles O35. -/
theorem exchangeRingingSession : Obligations.ExchangeRingingSession := by
  refine ⟨fun s ha => ⟨fun h => does_of_event ha rfl (if_pos h),
    fun h => does_of_event ha rfl (if_neg (Bool.eq_false_iff.mp h)), fun h => does_of_event ha rfl (if_pos h),
    fun h => ⟨fun hs => ?_, fun hs hp hm ht => ?_⟩, fun h => does_of_idle_timer ha rfl h,
    fun e he hp hm ht hl => ?_⟩, fun s ha => ⟨fun hb hs => ?begins, fun e he => ?ends⟩⟩
  · exact does_of_event ha rfl ((if_neg (Bool.eq_false_iff.mp h)).trans (if_pos hs))
  · refine does_of_event ha rfl ((burstStart_of_new h hs).trans ((if_neg fun hc => ?_).trans ?_))
    · exact absurd (hp.symm.trans hc.1) RelayPos.noConfusion
    · rw [abortTest_of_not_held (s := sessionBegun s) ht, sessionBegun, hp, hm]
      rfl
  · refine does_of_timer ha rfl he ((sessionEnds_eq _).trans ((if_neg fun hc => ?_).trans ?_))
    · exact absurd (hp.symm.trans hc.1) RelayPos.noConfusion
    · rw [reexamine_of_none (s := sessionOver { s with clock := max s.clock e }) ht hl, sessionOver]
      dsimp only
      rw [hp, hm]
      rfl
  case begins =>
    have begun {t : State} (h : burstStart s = t) : Does .exchangeBurstStart s t := does_of_event ha rfl h
    refine ⟨fun hr hl => ?_, fun hr => ⟨fun ht => ?_, fun ht => ?_⟩⟩
    · have hrings : burstStart s = abortTest .ringing holdLifeline _ :=
        (burstStart_of_new hb hs).trans ((if_pos hr).trans (copperActivates_of_idle (s := sessionBegun s) hr.2.2))
      exact ⟨fun ht => begun (hrings.trans (abortTest_holdLifeline ht hl)),
        fun ht => begun (hrings.trans (abortTest_held_holdLifeline ht hl))⟩
    · exact begun ((burstStart_of_new hb hs).trans ((if_neg hr).trans (abortTest_of_not_held (s := sessionBegun s) ht)))
    · refine begun ((burstStart_of_new hb hs).trans ((if_neg hr).trans ((abortTest_of_held (s := sessionBegun s) ht).trans ?_)))
      exact congrArg (cutHead true .ringing) (freeTest_of_held (s := sessionBegun s) ht)
  case ends =>
    intro now u idles
    refine ⟨fun h => does_of_timer ha rfl he ((sessionEnds_eq now).trans (if_neg h)),
      fun h => ⟨does_of_timer ha rfl he ((sessionEnds_eq now).trans (if_pos h)), fun hk ht hl hd => ?_,
        fun hk ht hl hd => ?_⟩⟩
    · exact (copperIdles_of_off (s := u) h.2.2.1 hk ht hl).trans (if_neg (Bool.eq_false_iff.mp hd))
    · exact (copperIdles_of_off (s := u) h.2.2.1 hk ht hl).trans (if_pos hd)

end Sys2Proof.Machine
end

section
/-! PROOFS. Chapter 01: the hazard hold (R10, R11). -/

namespace Sys2Proof.Machine
open Sys2Proof

theorem holdEnd_iff (p : Pac) (e : Nat) : p.holdEnd = some e ↔ p.hazardEnd = some e ∧ p.hazardHigh = false := by
  unfold Pac.holdEnd
  cases p.hazardHigh <;> simp

theorem holdEnd_none_iff (p : Pac) : p.holdEnd = none ↔ p.hazardEnd = none ∨ p.hazardHigh = true := by
  unfold Pac.holdEnd
  cases p.hazardHigh <;> simp

/-! ## What the re-examination grants (R1, R3, R4) -/

/-- TEST is granted before LINK. -/
theorem reexamine_of_test {u : State} (ht : u.pac.test.state = .waiting) (hg : u.testGrantable = true) :
    reexamine u =
      { u with
        pac :=
          { u.pac with
            test := { state := .held, since := u.uptime }
            releaseAsked := false, waitEnd := none, testRelayClosed := true }
        ltu :=
          match u.ltu.queue with
          | [] => u.ltu
          | x :: xs =>
            { u.ltu with
              queue := { x with phase := .settle } :: xs, run := some (TestRun.start x.kind (u.clock + 50)) } } :=
  if_pos (Bool.and_eq_true_iff.mpr ⟨decide_eq_true ht, hg⟩)

theorem reexamine_of_link {u : State} (ht : u.pac.test.state = .free) (hl : u.pac.link.state = .waiting)
    (hz : u.pac.hazardEnd = none) :
    reexamine u =
      linkNotice u.lks.state .other
        { u with
          pac := { u.pac with link := { state := .held, since := u.uptime } }
          lks := { u.lks with state := .greeting, wait := none, greetingEnd := some (u.clock + 20000) } } := by
  have hg : (u.pac.link.state = .waiting && u.linkGrantable) = true :=
    Bool.and_eq_true_iff.mpr ⟨decide_eq_true hl, (linkGrantable_iff u).mpr ⟨ht, hz⟩⟩
  exact (if_neg (by simp [ht])).trans (if_pos hg)

/-- While the hold runs nothing is granted. -/
theorem reexamine_of_hazard {s : State} (hz : s.pac.hazardEnd ≠ none) : reexamine s = s :=
  reexamine_of_blocked
    (fun _ => Bool.eq_false_iff.mpr (mt (testGrantable_iff s).mp fun h => hz h.2.2.1))
    (fun _ => Bool.eq_false_iff.mpr (mt (linkGrantable_iff s).mp fun h => hz h.2))

/-! ## The end of the link's claim (R10, R30, R31) -/

/-- The link's claim is released, and nothing else. -/
def linkFreed (s : State) : State := { s with pac := { s.pac with link := { state := .free, since := s.uptime } } }

theorem releaseLink_of_hazard {s : State} (hl : s.pac.link.state = .held) (hz : s.pac.hazardEnd ≠ none) :
    releaseLink s = linkFreed s :=
  (if_neg (by simp [hl])).trans (reexamine_of_hazard (s := s.onPac _) hz)

/-- The part once the hazard has ended the link's claim and counted the drop. -/
structure HazardDropped (s x : State) : Prop where
  pac : x.pac = { s.pac with link := { state := .free, since := s.uptime } }
  rung : x.lks.rung = s.lks.rung
  lastDrop : x.lks.lastDrop = some .hazard
  drops : x.lks.drops = s.lks.drops.setIfInBounds 6 (min ((s.lks.drops[6]?).getD 0 + 1) 65535)
  psv : x.psv = s.psv
  sst : x.sst = s.sst
  clock : x.clock = s.clock

/-- An attempt that a hazard ends, before its claim is released. -/
def abandoned (s : State) : State :=
  trialEnd ((countDrop .hazard s).onLks fun k => { k with greetingEnd := none, trainingEnd := none })

theorem abandonAttempt_of_hazard {s : State} (hl : s.pac.link.state = .held) (hz : s.pac.hazardEnd ≠ none) :
    abandonAttempt (countDrop .hazard s) = linkFreed (abandoned s) :=
  releaseLink_of_hazard (s := abandoned s) hl hz

/-- Where a hazard takes the link, by the state that holds the claim. -/
theorem linkHazard_cases {s : State} (hl : s.pac.link.state = .held) (hz : s.pac.hazardEnd ≠ none)
    (ho : s.lks.state ≠ .off) (hw : s.lks.state ≠ .waiting) :
    ∃ x, HazardDropped s x
      ∧ (s.lks.state = .carrying → linkHazard s = leaveCarrying .hazard (beginAttempt (.drop .hazard) x))
      ∧ (s.lks.state = .releasing → s.lks.dest = some .off →
          linkHazard s = toOff (.drop .hazard) x ∧ x.lks.state = .releasing)
      ∧ (s.lks.state ≠ .carrying → s.lks.state ≠ .releasing ∨ s.lks.dest ≠ some .off →
          linkHazard s = beginAttempt (.drop .hazard) x) := by
  cases hst : s.lks.state with
  | off => exact absurd hst ho
  | waiting => exact absurd hst hw
  | carrying =>
    let d := countDrop .hazard (trialEnd s)
    have hfreed : releaseLink d = linkFreed d := releaseLink_of_hazard hl hz
    have hlink : linkHazard s = leaveCarrying .hazard (beginAttempt (.drop .hazard) (releaseLink d)) := by
      simp only [linkHazard, hst, d]
    exact ⟨linkFreed d, ⟨rfl, rfl, rfl, rfl, rfl, rfl, rfl⟩, fun _ => hfreed ▸ hlink,
      fun h => absurd h LinkState.noConfusion, fun h => absurd rfl h⟩
  | greeting =>
    have hlink : linkHazard s = beginAttempt (.drop .hazard) (abandonAttempt (countDrop .hazard s)) := by
      simp only [linkHazard, hst]
    exact ⟨linkFreed (abandoned s), ⟨rfl, rfl, rfl, rfl, rfl, rfl, rfl⟩, fun h => absurd h LinkState.noConfusion,
      fun h => absurd h LinkState.noConfusion, fun _ _ => abandonAttempt_of_hazard hl hz ▸ hlink⟩
  | training =>
    have hlink : linkHazard s = beginAttempt (.drop .hazard) (abandonAttempt (countDrop .hazard s)) := by
      simp only [linkHazard, hst]
    exact ⟨linkFreed (abandoned s), ⟨rfl, rfl, rfl, rfl, rfl, rfl, rfl⟩, fun h => absurd h LinkState.noConfusion,
      fun h => absurd h LinkState.noConfusion, fun _ _ => abandonAttempt_of_hazard hl hz ▸ hlink⟩
  | releasing =>
    let r := (countDrop .hazard s).onLks fun k => { k with releaseWait := none }
    let d := r.onLks fun k => { k with releasingEnd := none }
    have hlink : linkHazard s = endReleasing r := by simp only [linkHazard, hst, r]
    have hfreed : releaseLink d = linkFreed d := releaseLink_of_hazard hl hz
    have hend := hlink.trans (endReleasing_of_released (s := r) hfreed rfl)
    refine ⟨linkFreed d, ⟨rfl, rfl, rfl, rfl, rfl, rfl, rfl⟩, fun h => absurd h LinkState.noConfusion,
      fun _ hd => ⟨hend.trans ?_, hst⟩, fun _ hd => hend.trans ?_⟩
    · have hd : r.lks.dest = some .off := hd
      rw [hd]
    · have hd : r.lks.dest ≠ some .off := hd.resolve_left (not_not_intro rfl)
      have hr : r.lks.releaseWait = none := rfl
      rw [hr]
      cases hdest : r.lks.dest with
      | none => rfl
      | some d =>
        cases d with
        | off => exact absurd hdest hd
        | waiting => rfl

/-- The attempt that follows asks for the pair and does not get it while the hold runs. -/
theorem beginAttempt_of_hazard {cause : LinkCause} {x : State} (hz : x.pac.hazardEnd ≠ none) :
    let l := x.sst.contents.link
    let rung := if (rungIn l.ladder x.lks.rung).isSome then x.lks.rung else floorOf l.ladder
    let y := beginAttempt cause x
    (y.lks.state = .waiting ∧ y.lks.lastDrop = x.lks.lastDrop ∧ y.lks.drops = x.lks.drops
        ∧ y.lks.greetingEnd = none ∧ y.lks.trainingEnd = none ∧ y.lks.releasingEnd = none)
      ∧ (permittedFrom x.psv.stage l.ladder rung = none → y.lks.wait = some .noPermittedRung ∧ y.pac = x.pac)
      ∧ (∀ r, permittedFrom x.psv.stage l.ladder rung = some r →
          y.lks.wait = some .pair ∧ y.lks.rung = r
            ∧ y.pac = { x.pac with link := { state := .waiting, since := x.uptime } }) := by
  intro l rung y
  obtain ⟨hnone, hsome, _⟩ := attemptBegins cause x
  cases hp : permittedFrom x.psv.stage l.ladder rung with
  | none =>
    obtain ⟨hk, hpac, _⟩ := hnone hp
    have hk : y.lks = _ := hk
    rw [hk]
    exact ⟨⟨rfl, rfl, rfl, rfl, rfl, rfl⟩, fun _ => ⟨rfl, hpac⟩, fun r h => absurd h (by simp)⟩
  | some r =>
    obtain ⟨_, _, hwait⟩ := hsome r hp
    obtain ⟨hk, hpac⟩ := hwait (Or.inr hz)
    have hk : y.lks = _ := hk
    rw [hk]
    exact ⟨⟨rfl, rfl, rfl, rfl, rfl, rfl⟩, fun h => absurd h (by simp), fun r' h => ⟨rfl, Option.some.inj h, hpac⟩⟩

/-! ## The held test (R141, R144) -/

/-- What the end of the head leaves while a hazard hold runs. -/
theorem cutHead_of_hazard {e : TestEntry} {rest : List TestEntry} {s : State} (hq : s.ltu.queue = e :: rest)
    (hf : s.pac.test.state = .free) (hl : s.pac.link.state ≠ .held) (hz : s.pac.hazardEnd ≠ none) :
    let t := cutHead true .hazard s
    let r := endedTest .hazard e s.ltu s.sst.contents.tests s.uptime
    (t.ltu.results = s.ltu.results.setIfInBounds e.kind.ctorIdx (some r) ∧ t.ltu.run = none
        ∧ t.pac.link = s.pac.link ∧ t.lks = s.lks)
      ∧ (rest = [] → t.ltu.queue = [] ∧ t.pac = s.pac)
      ∧ (∀ next more, rest = next :: more →
          t.ltu.queue = { next with phase := .claiming } :: more
            ∧ t.pac =
                { s.pac with
                  test := { state := .waiting, since := s.uptime }
                  testInfo := some { job := next.job, origin := next.origin, disruptive := next.disruptive }
                  waitEnd := some (s.clock + 300000), testRelayClosed := false }) := by
  intro t r
  have hdone (u : State) : (testDone r u).ltu = u.ltu ∧ (testDone r u).pac = u.pac ∧ (testDone r u).lks = u.lks :=
    ⟨resultFault_ltu _ _, resultFault_pac _ _, resultFault_lks _ _⟩
  cases rest with
  | nil =>
    have ht : t = _ := cutHead_of_last (reason := .hazard) hq hf
    rw [reexamine_of_hazard (s := testDone r _) (by rw [(hdone _).2.1]; exact hz)] at ht
    rw [ht, (hdone _).1, (hdone _).2.1, (hdone _).2.2]
    exact ⟨⟨rfl, rfl, rfl, rfl⟩, fun _ => ⟨rfl, rfl⟩, fun _ _ h => absurd h (by simp)⟩
  | cons next more =>
    have hg : s.testGrantable = false := Bool.eq_false_iff.mpr (mt (testGrantable_iff s).mp fun h => hz h.2.2.1)
    have ht : t = _ := cutHead_of_next (reason := .hazard) hq hf hl hg
    rw [ht, (hdone _).1, (hdone _).2.1, (hdone _).2.2]
    refine ⟨⟨rfl, rfl, rfl, rfl⟩, fun h => absurd h (by simp), fun next' more' h => ?_⟩
    obtain ⟨rfl, rfl⟩ := List.cons.inj h
    exact ⟨rfl, rfl⟩

/-- The hold is started and the held test ended, then the link's claim, then the fault (R10). -/
theorem hazard_eq (peak : Nat) (s : State) :
    let held : State :=
      { wakeCause .hazard none s with
        pac := { s.pac with hazardHigh := true, hazardEnd := some (s.clock + 30000) } }
    let t := abortTest .hazard id held
    hazard peak s =
      report .hazardVoltage .pac .critical [d32 peak, d32 (if s.pac.relay.pos = .copper then 0 else 1)]
        (if t.pac.link.state = .held then linkHazard t else t) := by
  have hpos : s.pac.relay.pos.ctorIdx = if s.pac.relay.pos = .copper then 0 else 1 := by
    cases s.pac.relay.pos <;> rfl
  intro held t
  rw [← hpos]
  rfl

/-- Settles O36. -/
theorem hazardHold : Obligations.HazardHold := by
  refine ⟨fun s ha => ?_, fun s hl hz ht ho hw => ?_, fun e rest s hq hf hl hz => cutHead_of_hazard hq hf hl hz⟩
  · intro held
    refine ⟨fun peak ht => does_of_event ha rfl ?_, fun peak ht => does_of_event ha rfl ?_,
      fun h => does_of_event ha rfl (if_neg (Bool.eq_false_iff.mp h)), fun h => does_of_event ha rfl (if_pos h),
      fun h => does_of_idle_timer ha rfl ((holdEnd_none_iff _).mpr h), fun e he hh => ?_⟩
    · have habort : abortTest .hazard id held = held := abortTest_of_not_held ht
      have h := hazard_eq peak s
      dsimp only at h
      rw [habort] at h
      exact h
    · have habort : abortTest .hazard id held = cutHead true .hazard (freeTest held) := abortTest_of_held ht
      rw [freeTest_of_held (s := held) ht] at habort
      have h := hazard_eq peak s
      dsimp only at h
      rw [habort] at h
      exact h
    · intro now u testMay
      have hu : u.pac = { s.pac with hazardEnd := none } := clearFault_pac _ _ _
      have hltu : u.ltu = s.ltu := clearFault_ltu _ _ _
      have hlks : u.lks = s.lks := clearFault_lks _ _ _
      have hclock : u.clock = now.clock := clearFault_clock _ _ _
      have huptime : u.uptime = now.uptime := by simp only [State.uptime, hclock]
      have hmay : u.testGrantable = true ↔ testMay := by
        rw [testGrantable_iff, hu]
        exact ⟨fun ⟨h1, h2, _, h4⟩ => ⟨h1, h2, h4⟩, fun ⟨h1, h2, h4⟩ => ⟨h1, h2, rfl, h4⟩⟩
      have htest : u.pac.test.state = s.pac.test.state := by rw [hu]
      have hlink : u.pac.link.state = s.pac.link.state := by rw [hu]
      have hfree : u.linkGrantable = true ↔ s.pac.test.state = .free := by
        rw [linkGrantable_iff, hu]
        exact and_iff_left rfl
      refine ⟨does_of_timer ha rfl ((holdEnd_iff _ _).mpr ⟨he, hh⟩) rfl, fun ht hm => ?_, fun ht hm => ?_,
        fun ht hl => ?_, fun ht hl => ?_⟩
      · rw [← hclock, ← huptime, ← hltu]
        exact reexamine_of_test (htest.trans ht) (hmay.mpr hm)
      · refine reexamine_of_blocked (fun _ => Bool.eq_false_iff.mpr (mt hmay.mp hm)) fun _ => ?_
        exact Bool.eq_false_iff.mpr (mt hfree.mp (by simp [ht]))
      · rw [← hclock, ← huptime, ← hlks]
        exact reexamine_of_link (htest.trans ht) (hlink.trans hl) (by rw [hu])
      · exact reexamine_of_none (by rw [htest]; exact ht) (by rw [hlink]; exact hl)
  · intro t ladder rung
    obtain ⟨x, hx, hcarrying, hoff, hother⟩ := linkHazard_cases hl hz ho hw
    have hxz : x.pac.hazardEnd ≠ none := by rw [hx.pac]; exact hz
    have huptime : x.uptime = s.uptime := by simp only [State.uptime, hx.clock]
    obtain ⟨⟨hy1, hy2, hy3, hy4, hy5, hy6⟩, hnone, hsome⟩ := beginAttempt_of_hazard (cause := .drop .hazard) hxz
    rw [hx.psv, hx.sst, hx.rung] at hnone hsome
    rw [hx.pac] at hnone
    rw [hx.pac, huptime] at hsome
    generalize hy : beginAttempt (.drop .hazard) x = y at *
    have hclock : y.clock = s.clock := by
      obtain ⟨_, _, _, _, _, _, _, _, _, hc⟩ := (beginAttempt_besideLink (.drop .hazard) x).fields
      rw [← hy, hc, hx.clock]
    by_cases hc : s.lks.state = .carrying
    case pos =>
      have hleft : t = leaveCarrying .hazard y := hcarrying hc
      have hmcr : t.mcr.flight = none ∧ t.mcr.loopback = none := by
        rw [hleft]
        exact leaveCarrying_mcr _ _
      rw [leaveCarrying_eq, hclock] at hleft
      refine ⟨?_, fun h => absurd (hc.symm.trans h) LinkState.noConfusion, fun _ => ?_, fun _ => ?_⟩
      · rw [hleft]
        exact ⟨hy2.trans hx.lastDrop, hy3.trans hx.drops, hy4, hy5, hy6⟩
      · intro absence
        have habsence (p : Pac) : absence p = { p with absenceFrom := some s.clock, absenceTaken := false } := if_pos hc
        rw [habsence, hleft]
        refine ⟨hy1, fun h => ⟨(hnone h).1, ?_⟩, fun r h => ⟨(hsome r h).1, (hsome r h).2.1, ?_⟩⟩
        · rw [(hnone h).2]
        · rw [habsence, (hsome r h).2.2]
      · rw [hleft] at hmcr ⊢
        exact ⟨rfl, rfl, rfl, rfl, hmcr⟩
    case neg =>
      by_cases hr : s.lks.state = .releasing ∧ s.lks.dest = some .off
      case pos =>
        obtain ⟨hoff, hxs⟩ := hoff hr.1 hr.2
        have hto : t = toOff (.drop .hazard) x := hoff
        rw [hto]
        exact ⟨⟨hx.lastDrop, hx.drops, rfl, rfl, rfl⟩, fun _ _ => ⟨rfl, hx.pac⟩,
          fun h => (h.elim (· hr.1) (· hr.2)).elim, fun h => absurd h hc⟩
      case neg =>
        have hto : t = y := hother hc (Classical.not_and_iff_not_or_not.mp hr)
        rw [hto]
        refine ⟨⟨hy2.trans hx.lastDrop, hy3.trans hx.drops, hy4, hy5, hy6⟩, fun h1 h2 => absurd ⟨h1, h2⟩ hr, fun _ => ?_,
          fun h => absurd h hc⟩
        intro absence
        have habsence (p : Pac) : absence p = p := if_neg hc
        rw [habsence]
        exact ⟨hy1, hnone, fun r h => by rw [habsence]; exact hsome r h⟩

end Sys2Proof.Machine
end

section
/-! PROOFS. Chapter 01: the pair's waits and the relay's moves (R6, R12, R16 to R18). -/

namespace Sys2Proof.Machine
open Sys2Proof

theorem notice_autonomous (n : Notice) (s : State) : (notice n s).mpt.autonomous = s.mpt.autonomous := by
  unfold notice State.onMpt Mpt.queueNotice
  dsimp only
  split
  · rfl
  · split <;> rfl

/-- A move to LOCAL keeps the reason for which the relay came to COPPER (R12). -/
theorem startLocalMove_of_reason {carriesOut : Bool} {s : State} {reason : CopperReason}
    (h : s.pac.relay.reason = reason) :
    startLocalMove carriesOut s =
      { s with
        pac :=
          { s.pac with
            copperOffHook := false
            relay :=
              { s.pac.relay with
                deferred := false
                move := some
                  { target := .localPort, doneAt := s.clock + 30, reason := reason, carriesOut := carriesOut } } }
        hpc1 := { s.hpc1 with state := .switching } } := by
  subst h
  rfl

theorem pairUnavailable_of_cons {s : State} {x : TestEntry} {xs : List TestEntry} (h : s.ltu.queue = x :: xs) :
    pairUnavailable s = finishTest true true x .pairUnavailable none (freeTest s) := by
  simp only [pairUnavailable, h]

theorem holdLifeline_eq (s : State) :
    holdLifeline s =
      { s with
        pac :=
          { s.pac with
            lifeline := if s.pac.lifeline.state = .held then s.pac.lifeline else { state := .held, since := s.uptime } } } := by
  by_cases h : s.pac.lifeline.state = .held
  · rw [if_pos h]
    exact if_pos h
  · rw [if_neg h]
    exact if_neg h

theorem completeMove_of_copper {s : State} {m : RelayMove} (h : s.pac.relay.move = some m) (ht : m.target = .copper) :
    completeMove s = arriveCopper m s := by
  simp only [completeMove, h]
  exact if_pos ht

theorem completeMove_of_local {s : State} {m : RelayMove} (h : s.pac.relay.move = some m) (ht : m.target = .localPort) :
    completeMove s = arriveLocal m s := by
  simp only [completeMove, h]
  exact if_neg fun hc => absurd (ht.symm.trans hc) RelayPos.noConfusion

/-- The relay as it has come to COPPER (R12, R18). -/
def arrivedCopper (m : RelayMove) (s : State) : State :=
  notice (.lifelinePosition .copper m.reason none)
    { s with
      pac :=
        { s.pac with
          copperOffHook := false, relay := { s.pac.relay with pos := .copper, move := none, reason := m.reason } }
      hpc1 := { s.hpc1 with state := .copperIdle, loopSince := s.clock } }

theorem arriveCopper_of_none {s : State} {m : RelayMove} (h : (arrivedCopper m s).stepUpDue = none) :
    arriveCopper m s =
      if s.pac.ringSession then copperActivates .ringing (arrivedCopper m s) else tryReturnLocal (arrivedCopper m s) := by
  have hcheck : stepUpCheck (arrivedCopper m s) = arrivedCopper m s := stepUpCheck_of_none h
  have harrive : arriveCopper m s =
      if (stepUpCheck (arrivedCopper m s)).pac.ringSession then
        copperActivates .ringing (stepUpCheck (arrivedCopper m s))
      else tryReturnLocal (stepUpCheck (arrivedCopper m s)) := rfl
  rw [harrive, hcheck]
  rfl

/-- A step-up that is due drops the link first (log 35). -/
theorem arriveCopper_of_some {s : State} {m : RelayMove} {target : Nat} (h : (arrivedCopper m s).stepUpDue = some target) :
    let u := arrivedCopper m s
    let dropped := dropOrderly .stepTrial .waiting none
      { u with
        lks :=
          { u.lks with
            trial := some { former := u.lks.rung, target := target, watchEnd := none }, rung := target } }
    arriveCopper m s = if s.pac.ringSession then copperActivates .ringing dropped else tryReturnLocal dropped := by
  intro u dropped
  have hcheck : stepUpCheck (arrivedCopper m s) = dropped := stepUpCheck_of_some h
  have harrive : arriveCopper m s =
      if (stepUpCheck (arrivedCopper m s)).pac.ringSession then
        copperActivates .ringing (stepUpCheck (arrivedCopper m s))
      else tryReturnLocal (stepUpCheck (arrivedCopper m s)) := rfl
  have hring : dropped.pac.ringSession = s.pac.ringSession := by
    have hd : dropped = _ := leaveCarrying_eq _ _
    rw [hd]
    rfl
  rw [harrive, hcheck, hring]

theorem absenceEnd_of_pending {p : Pac} {e : Nat} (he : p.absenceFrom = some e) (ht : p.absenceTaken = false) :
    p.absenceEnd = some (e + 60000) := by
  rw [Pac.absenceEnd, if_neg (by simp [ht]), he]
  rfl

theorem absenceEnd_of_idle {p : Pac} (h : p.absenceFrom = none ∨ p.absenceTaken = true) : p.absenceEnd = none := by
  unfold Pac.absenceEnd
  obtain h | h := h
  · rw [h]
    exact ite_self _
  · exact if_pos h

/-- Settles O37. -/
theorem pairTimers : Obligations.PairTimers := by
  intro s ha
  have done {m : RelayMove} (hm : s.pac.relay.move = some m) : (s.pac.relay.move.map (·.doneAt)) = some m.doneAt := by
    rw [hm]; rfl
  refine ⟨fun h => does_of_idle_timer ha rfl h, fun e x xs he hq => does_of_timer ha rfl he (pairUnavailable_of_cons hq),
    fun h => does_of_idle_timer ha rfl (by rw [h]; rfl), fun m hm ht => ?copper, fun m hm ht => ?_,
    fun h => does_of_idle_timer ha rfl (absenceEnd_of_idle h), fun e he ht => ?absence⟩
  case copper =>
    intro now p u returns
    have arrives {t : State} (h : arriveCopper m { s with clock := now } = t) : Does .relayMoveComplete s t :=
      does_of_timer ha rfl (done hm) ((completeMove_of_copper (s := { s with clock := now }) hm ht).trans h)
    have hreturns := tryReturnLocal_iff u
    have hauto : u.mpt.autonomous = s.mpt.autonomous := notice_autonomous _ _
    refine ⟨fun hring hdue => ?_, fun hring hdue hact htest => ?_, fun target hdue => ⟨fun hring => ?_, fun hring => ?_⟩⟩
    · have hlocal := (arriveCopper_of_none (s := { s with clock := now }) hdue).trans (if_neg (Bool.eq_false_iff.mp hring))
      refine ⟨fun h => arrives (hlocal.trans (if_neg (mt hreturns.mp ?_))),
        fun h => arrives (hlocal.trans ((if_pos (hreturns.mpr ?_)).trans ?_))⟩
      · exact fun ⟨_, _, h3, h4, h5, h6, h7⟩ => h ⟨h4, h3, h5, h6, hauto ▸ h7⟩
      · obtain ⟨h4, h3, h5, h6, h7⟩ := h
        exact ⟨rfl, rfl, h3, h4, h5, h6, hauto.trans h7⟩
      · obtain ⟨_, h3, _⟩ := h
        exact startLocalMove_of_reason (s := u) h3
    · refine arrives ((arriveCopper_of_none (s := { s with clock := now }) hdue).trans ((if_pos hring).trans ?_))
      refine (copperActivates_of_idle (s := u) hact).trans ((abortTest_of_not_held ?_).trans (holdLifeline_eq _))
      exact htest
    · exact arrives ((arriveCopper_of_some (s := { s with clock := now }) hdue).trans (if_neg (Bool.eq_false_iff.mp hring)))
    · exact arrives ((arriveCopper_of_some (s := { s with clock := now }) hdue).trans (if_pos hring))
  · exact does_of_timer ha rfl (done hm) (completeMove_of_local (s := { s with clock := max s.clock m.doneAt }) hm ht)
  case absence =>
    intro now u due
    have hdue : u.autoLifelineDue = true ↔ due := by
      rw [autoLifelineDue_iff]
      refine ⟨fun ⟨h1, h2, h3, h4, h5, _⟩ => ⟨h1, h2, h3, h4, h5⟩, fun ⟨h1, h2, h3, h4, h5⟩ => ⟨h1, h2, h3, h4, h5, e, he, ?_⟩⟩
      exact Nat.le_max_right _ _
    refine ⟨fun h => does_of_timer ha rfl (absenceEnd_of_pending he ht) (autoLifeline_of_not_due (mt hdue.mp h)),
      fun h => does_of_timer ha rfl (absenceEnd_of_pending he ht) (autoLifeline_of_due (hdue.mpr h))⟩

end Sys2Proof.Machine
end

section
/-! PROOFS. Chapter 04: PORT_ENABLE, PORT_DISABLE, entry to IDLE and the reports of a port (R69, R77, R87, R88). -/

namespace Sys2Proof.Machine
open Sys2Proof

/-! ## Requests that name a port -/

theorem onNamedPort_portNumber (p : PortId) (f : PortId → State → Answer × State) (s : State) :
    onNamedPort (BitVec.ofNat 8 (portNumber p)).toNat f s = f p s := by
  cases p <;> rfl

theorem heard_port (p : PortId) (s : State) : s.heard.port p = s.port p := rfl

section Requests

variable {p : PortId} {tag : Byte} {rest : List Byte} {s t : State} {ans : Answer}

theorem portEnable_answers (hs : s.ready) (hb : enableOn p s.heard = (ans, t)) :
    Answers (.portEnable tag (BitVec.ofNat 8 (portNumber p) :: rest)) tag 0x30 s ans t :=
  answers_of_body (decode := arg8) (body := fun n => onNamedPort n enableOn) hs rfl rfl
    ((onNamedPort_portNumber p enableOn _).trans hb)

theorem portDisable_answers (hs : s.ready) (hb : disableOn p s.heard = (ans, t)) :
    Answers (.portDisable tag (BitVec.ofNat 8 (portNumber p) :: rest)) tag 0x31 s ans t :=
  answers_of_body (decode := arg8) (body := fun n => onNamedPort n disableOn) hs rfl rfl
    ((onNamedPort_portNumber p disableOn _).trans hb)

theorem enableOn_of_disabled (h : (s.port p).state = .disabled) :
    enableOn p s =
      if p = .two ∧ (s.psv.stage = .conserve ∨ s.psv.stage = .lifeline) then (Answer.refuse .powerLimit, s)
      else (Answer.ok, enterIdle p s) := by
  simp [enableOn, h]

theorem enableOn_of_fault (h : (s.port p).state = .fault) :
    enableOn p s =
      if (s.port p).latched = true ∧ (s.port p).wiringBad = false then (Answer.ok, enterIdle p s)
      else (Answer.refuse .wrongState, s) := by
  simp [enableOn, h]

theorem enableOn_of_local (hl : (s.port p).state.isLocal = true) (hd : (s.port p).state ≠ .disabled)
    (hf : (s.port p).state ≠ .fault) : enableOn p s = (Answer.ok, s) := by
  unfold enableOn
  dsimp only
  split
  · contradiction
  · contradiction
  · exact if_pos hl

theorem enableOn_of_driven (hl : (s.port p).state.isLocal = false) : enableOn p s = (Answer.refuse .wrongState, s) := by
  unfold enableOn
  dsimp only
  split
  next h => exact absurd (h ▸ hl) Bool.noConfusion
  next h => exact absurd (h ▸ hl) Bool.noConfusion
  · exact if_neg (Bool.eq_false_iff.mp hl)

theorem disableOn_of_driven (hl : (s.port p).state.isLocal = false) : disableOn p s = (Answer.refuse .wrongState, s) :=
  if_pos (by simp [hl])

theorem disableOn_of_disabled (h : (s.port p).state = .disabled) :
    disableOn p s = (Answer.ok, s.onPort p fun q => { q with cause := some .request }) :=
  (if_neg (by simp [h, PortState.isLocal])).trans (if_pos h)

theorem disableOn_of_local (hl : (s.port p).state.isLocal = true) (hd : (s.port p).state ≠ .disabled) :
    disableOn p s = (Answer.ok, enterDisabled .request p s) :=
  (if_neg (by simp [hl])).trans (if_neg hd)

end Requests

/-! ## The stop of a sequencer, and the line faults of a port that has left FAULT -/

theorem stopSeq_of_idle {cause : Option DoneCause} {p : PortId} {s : State} (h : (s.seq p).run = none) :
    stopSeq cause p s = s := by
  simp only [stopSeq, h]

theorem clearWiring_of_other {p : PortId} {old : PortState} {s : State} (h : old ≠ .fault) : clearWiring p old s = s :=
  if_neg h

theorem clearWiring_stage (p : PortId) (old : PortState) (s : State) : (clearWiring p old s).psv = s.psv := by
  unfold clearWiring
  split
  · rw [clearFault_psv, clearFault_psv]
  · rfl

theorem enterDisabled_of_quiet {cause : DisableCause} {p : PortId} {s : State} (hr : (s.seq p).run = none)
    (hf : (s.port p).state ≠ .fault) :
    enterDisabled cause p s = portChanged p (s.port p).state (s.onPort p (Port.toDisabled cause)) := by
  unfold enterDisabled
  dsimp only
  rw [stopSeq_of_idle hr, clearWiring_of_other hf]

/-! ## Entry to IDLE (R70, R77, R86, R90) -/

theorem senseStopped_iff (st : PortState) :
    st.senseStopped = true ↔ st = .disabled ∨ st = .fault ∨ st = .switching := by
  cases st <;> simp [PortState.senseStopped]

theorem shedAtIdle_eq (p : PortId) (s : State) :
    shedAtIdle p s =
      if p = .two ∧ (s.psv.stage = .conserve ∨ s.psv.stage = .lifeline) then
        s.onPort p fun q => { q with state := .disabled, cause := some .power }
      else s := by
  unfold shedAtIdle
  cases p <;> simp

/-- The record of a port that enters IDLE, its debouncer started afresh or not. -/
theorem toIdle_eq {fresh : Prop} [Decidable fresh] {restart : Bool} (h : restart = true ↔ fresh) (now : Nat)
    (settings : PortSettings) :
    Port.toIdle restart now settings = fun q =>
      { q with
        state := .idle, cause := none, fault := none, latched := false
        offHook := if fresh then false else q.heldOffHook
        heldOffHook := if fresh then false else q.heldOffHook
        pulse := none, dialMarker := false, autoMarker := false, receiverEnd := none, howlerEnd := none, retryEnd := none,
        retryOut := false
        loopSince := if fresh then now else q.loopSince
        wiringBad := if fresh then false else q.wiringBad
        copy := some settings
        voice := q.voice.close } := by
  funext q
  cases restart with
  | true => simp [Port.toIdle, h.mp rfl]
  | false => simp [Port.toIdle, mt h.mpr Bool.false_ne_true]

/-! ## The reports of a change of state (R42, R57, R62, R69) -/

theorem quiet_iff (st : PortState) : st.quiet = true ↔ st = .idle ∨ st = .disabled ∨ st = .copperIdle := by
  cases st <;> simp [PortState.quiet]

/-- A port's new state is told: the end of its call, then the step-up check. -/
def reported (old new : PortState) (s : State) : State :=
  let called := if old = .connected then askRelease (callsEnded s) else s
  if new = .idle ∨ new = .disabled ∨ new = .copperIdle then stepUpCheck called else called

theorem portChanged_of_same {p : PortId} {old : PortState} {s : State} (h : (s.port p).state = old) :
    portChanged p old s = s := if_pos h

theorem portChanged_of_new {p : PortId} {old : PortState} {s : State} (h : (s.port p).state ≠ old) :
    portChanged p old s =
      if p = .one then autoLifeline (reported old (s.port p).state s) else reported old (s.port p).state s := by
  refine (if_neg h).trans ?_
  simp only [quiet_iff]
  rfl

theorem callsEnded_of_call {s : State} (h : ¬s.noCall = true) : callsEnded s = s := if_neg h

/-- What the end of the last call lets be made. -/
theorem callsEnded_of_free {s : State} (h : s.noCall = true) :
    (s.lks.retrainEnd = none → s.lks.powerDropEnd = none → callsEnded s = s)
      ∧ (s.lks.retrainEnd ≠ none → s.lks.powerDropEnd = none → callsEnded s = qualityDrop s)
      ∧ (s.lks.retrainEnd = none → s.lks.powerDropEnd ≠ none → callsEnded s = powerDrop s)
      ∧ (s.lks.retrainEnd ≠ none → s.lks.powerDropEnd ≠ none →
          callsEnded s = qualityDrop { s with free := s.free + 1 }
            ∨ callsEnded s = powerDrop { s with free := s.free + 1 }) := by
  unfold callsEnded
  rw [if_pos h]
  cases s.lks.retrainEnd <;> cases s.lks.powerDropEnd <;> simp [State.choose]
  exact (Nat.mod_two_eq_zero_or_one (Config.freeChoice s.free)).imp (fun h => by simp [h]) fun h => by simp [h]

/-- Settles O38. -/
theorem portEnableDisableAndIdle : Obligations.PortEnableDisableAndIdle := by
  refine ⟨fun p tag rest s hs => ?_, fun p told s => ?idle, fun p old s => ?changed, fun s => ?calls, fun s => ?lifeline⟩
  · intro args en dis q shed
    have enabled {a : Answer} {t : State} (h : enableOn p s.heard = (a, t)) : en a t := portEnable_answers hs h
    have disabled {a : Answer} {t : State} (h : disableOn p s.heard = (a, t)) : dis a t := portDisable_answers hs h
    refine ⟨fun h hshed => enabled ((enableOn_of_disabled (s := s.heard) h).trans (if_pos hshed)),
      fun h hshed => enabled ((enableOn_of_disabled (s := s.heard) h).trans (if_neg hshed)),
      fun h hl hw => enabled ((enableOn_of_fault (s := s.heard) h).trans (if_pos ⟨hl, hw⟩)),
      fun h hlw => enabled ((enableOn_of_fault (s := s.heard) h).trans (if_neg fun ⟨h1, h2⟩ => ?_)),
      fun hl hd hf => enabled (enableOn_of_local hl hd hf),
      fun hl => ⟨enabled (enableOn_of_driven hl), disabled (disableOn_of_driven hl)⟩,
      fun h => disabled (disableOn_of_disabled h),
      fun hl hd => ⟨disabled (disableOn_of_local hl hd), fun hr hf => enterDisabled_of_quiet hr hf⟩⟩
    exact hlw.elim (fun h => absurd (h.symm.trans h1) Bool.noConfusion) fun h => absurd (h.symm.trans h2) Bool.noConfusion
  case idle =>
    intro q shed fresh idle clear hstage
    refine ⟨?_, rfl⟩
    have hfresh : (false || q.state.senseStopped) = true ↔ fresh := senseStopped_iff q.state
    have hidle : told ((stopSeq (some .port) p s).onPort p
        (Port.toIdle (false || q.state.senseStopped) s.clock (s.sst.contents.ports.of p))) = idle := by
      rw [toIdle_eq hfresh]
      rfl
    have henter : enterIdleWith (some .port) false told p s =
        portChanged p q.state (shedAtIdle p (clearWiring p q.state (told ((stopSeq (some .port) p s).onPort p
          (Port.toIdle (false || q.state.senseStopped) s.clock (s.sst.contents.ports.of p)))))) := rfl
    rw [henter, hidle, show clearWiring p q.state idle = clear from rfl, shedAtIdle_eq]
    have hclear : clear.psv = idle.psv := clearWiring_stage p q.state idle
    rw [hclear, hstage]
  case changed =>
    exact ⟨fun h => portChanged_of_same h, fun h hp => (portChanged_of_new h).trans (if_neg (by simp [hp])),
      fun h hp => (portChanged_of_new h).trans (if_pos hp)⟩
  case calls =>
    intro call retrain power powerDropped drawn
    refine ⟨fun h => callsEnded_of_call (mt (noCall_iff s).mp (not_not_intro h)), fun h hr hp => ?_, fun h hr hp => ?_,
      fun h hr hp => ?_, fun h hr hp => ?_⟩
    all_goals obtain ⟨h1, h2, h3, h4⟩ := callsEnded_of_free ((noCall_iff s).mpr h)
    · exact h1 (Classical.not_not.mp hr) (Classical.not_not.mp hp)
    · exact h2 hr (Classical.not_not.mp hp)
    · exact h3 (Classical.not_not.mp hr) hp
    · exact h4 hr hp
  case lifeline =>
    intro due
    have hdue : s.autoLifelineDue = true ↔ due := by
      rw [autoLifelineDue_iff]
      exact ⟨fun ⟨h1, h2, h3, h4, h5, h6⟩ => ⟨h1, h2, h3, h4, h6, h5⟩, fun ⟨h1, h2, h3, h4, h6, h5⟩ => ⟨h1, h2, h3, h4, h5, h6⟩⟩
    exact ⟨fun h => autoLifeline_of_not_due (mt hdue.mp h), fun h => autoLifeline_of_due (hdue.mpr h)⟩

end Sys2Proof.Machine
end

section
/-! PROOFS. Chapter 04: PORT_RING, PORT_CONNECT and PORT_RELEASE (R78, R81). -/

namespace Sys2Proof.Machine
open Sys2Proof

/-! ## Changes of one port's record -/

theorem onPort_congr {p : PortId} {s : State} {f g : Port → Port} (h : f (s.port p) = g (s.port p)) :
    s.onPort p f = s.onPort p g := by
  cases p with
  | one => exact congrArg (fun q => { s with hpc1 := q }) h
  | two => exact congrArg (fun q => { s with hpc2 := q }) h

theorem onPort_onPort (p : PortId) (s : State) (f g : Port → Port) :
    (s.onPort p f).onPort p g = s.onPort p fun q => g (f q) := by
  cases p <;> rfl

theorem onPort_self {p : PortId} {s : State} {f : Port → Port} (h : f (s.port p) = s.port p) : s.onPort p f = s := by
  refine (onPort_congr (g := id) h).trans ?_
  cases p <;> rfl

theorem abandonDigit_of_none {q : Port} (h : q.pulse = none) : q.abandonDigit = q :=
  if_neg (by simp [h])

section Requests

variable {p : PortId} {tag n : Byte} {rest : List Byte} {s t : State} {ans : Answer}

theorem portRing_answers (hs : s.ready) (hb : ringOn n.toNat p s.heard = (ans, t)) :
    Answers (.portRing tag (BitVec.ofNat 8 (portNumber p) :: n :: rest)) tag 0x32 s ans t :=
  answers_of_body (decode := arg88) (body := fun a => onNamedPort a.1 (ringOn a.2))
    (a := ((BitVec.ofNat 8 (portNumber p)).toNat, n.toNat)) hs rfl rfl ((onNamedPort_portNumber p (ringOn n.toNat) _).trans hb)

theorem portConnect_answers (hs : s.ready) (hb : connectOn p s.heard = (ans, t)) :
    Answers (.portConnect tag (BitVec.ofNat 8 (portNumber p) :: rest)) tag 0x33 s ans t :=
  answers_of_body (decode := arg8) (body := fun n => onNamedPort n connectOn) hs rfl rfl
    ((onNamedPort_portNumber p connectOn _).trans hb)

theorem portRelease_answers (hs : s.ready) (hb : releaseOn p s.heard = (ans, t)) :
    Answers (.portRelease tag (BitVec.ofNat 8 (portNumber p) :: rest)) tag 0x34 s ans t :=
  answers_of_body (decode := arg8) (body := fun n => onNamedPort n releaseOn) hs rfl rfl
    ((onNamedPort_portNumber p releaseOn _).trans hb)

end Requests

section PerState

variable {p : PortId} {s : State}

/-- An off-hook is due on a fed port whose loop is closed and whose hook reads ON_HOOK (R70, R71). -/
theorem offHookDue_iff (q : Port) (t : Nat) :
    q.offHookDue = some t ↔
      (q.state.fed = true ∧ q.loopClosed = true ∧ q.offHook = false) ∧ t = q.loopSince + q.settings.offHookMs := by
  unfold Port.offHookDue Port.current
  constructor
  · intro h
    obtain ⟨hdue, ht⟩ := Option.ite_none_right_eq_some.mp h
    simp only [Bool.and_eq_true, Bool.not_eq_true'] at hdue
    exact ⟨⟨hdue.1.2, hdue.1.1, hdue.2⟩, (Option.some.inj ht).symm⟩
  · rintro ⟨⟨hf, hl, ho⟩, rfl⟩
    simp only [hf, hl, ho, Bool.and_self, Bool.not_false, if_true]

/-- The recognition of an off-hook under way in IDLE (R78). -/
theorem recognising_of_idle (h : (s.port p).state = .idle) :
    recognising p s = true ↔
      (s.port p).loopClosed = true ∧ (s.port p).offHook = false
        ∧ s.clock < (s.port p).loopSince + (s.port p).settings.offHookMs := by
  simp only [recognising, Option.any_eq_true, offHookDue_iff, h, decide_eq_true_eq]
  simp [PortState.fed, PortState.feed, and_assoc]

theorem ringOn_of_idle {n : Nat} (hn : n ≤ 15) (h : (s.port p).state = .idle) :
    ringOn n p s =
      if recognising p s then (Answer.refuse .offHook, s)
      else (Answer.ok, startProgram p n (s.onPort p fun q => { q with state := .ringing })) :=
  (if_neg (by omega)).trans (if_neg (by simp [h]))

theorem connectOn_of_offhook (h : (s.port p).state = .offhook) :
    connectOn p s = (Answer.ok, (stopSeq (some .port) p s).onPort p (Port.toConnected s.clock)) := by
  simp only [connectOn, h]

theorem connectOn_of_connected (h : (s.port p).state = .connected) : connectOn p s = (Answer.ok, s) := by
  simp only [connectOn, h]

theorem connectOn_of_other (ho : (s.port p).state ≠ .offhook) (hc : (s.port p).state ≠ .connected) :
    connectOn p s = (Answer.refuse .wrongState, s) := by
  unfold connectOn
  split
  · contradiction
  · contradiction
  · rfl

theorem releaseOn_of_offhook (h : (s.port p).state = .offhook) :
    releaseOn p s = (Answer.ok, restartReceiver p (startReleaseTone p s)) := by
  simp only [releaseOn, h]

theorem releaseOn_of_connected (h : (s.port p).state = .connected) :
    releaseOn p s =
      (Answer.ok, portChanged p .connected (startReleaseTone p (s.onPort p (Port.toOffhook s.clock)))) := by
  simp only [releaseOn, h]

theorem releaseOn_of_ringing (h : (s.port p).state = .ringing) : releaseOn p s = (Answer.ok, enterIdle p s) := by
  simp only [releaseOn, h]

theorem releaseOn_of_other (ho : (s.port p).state ≠ .offhook) (hc : (s.port p).state ≠ .connected)
    (hr : (s.port p).state ≠ .ringing) : releaseOn p s = (Answer.refuse .wrongState, s) := by
  unfold releaseOn
  split
  · contradiction
  · contradiction
  · contradiction
  · rfl

/-- A port that goes off-hook keeps its settings. -/
theorem startReleaseTone_toOffhook :
    startReleaseTone p (s.onPort p (Port.toOffhook s.clock))
      = startTone p (s.port p).settings.releaseTone (s.onPort p (Port.toOffhook s.clock)) := by
  rw [startReleaseTone, State.onPort_port]
  rfl

end PerState

/-! ## Time stands still while tones are started -/

theorem grantBurst_clock (p : PortId) (load : Nat) (s : State) : (grantBurst p load s).clock = s.clock := by
  simp [grantBurst]

theorem tryHead_clock (s : State) : (tryHead s).clock = s.clock := by
  unfold tryHead
  split
  · rfl
  · split
    · exact grantBurst_clock _ _ _
    · rfl

theorem tryWaits_clock (s : State) : (tryWaits s).clock = s.clock := (tryHead_clock _).trans (tryHead_clock _)

theorem idleCheck_clock (s : State) : (idleCheck s).clock = s.clock := by
  unfold idleCheck
  split <;> rfl

theorem endBurst_clock (p : PortId) (s : State) : (endBurst p s).clock = s.clock := by
  unfold endBurst
  split
  · exact (idleCheck_clock _).trans (tryWaits_clock _)
  · rfl

theorem leaveWaits_clock (p : PortId) (s : State) : (leaveWaits p s).clock = s.clock := by
  unfold leaveWaits
  split
  · exact (idleCheck_clock _).trans (tryWaits_clock _)
  · rfl

theorem stopSeq_clock (cause : Option DoneCause) (p : PortId) (s : State) : (stopSeq cause p s).clock = s.clock := by
  unfold stopSeq
  dsimp only
  repeat' split
  all_goals simp [clearMarkers, endBurst_clock, leaveWaits_clock]

/-- The run of a tone program as it has begun. -/
def toneRun (n : Nat) (s : State) : SeqRun :=
  { SeqRun.start n (s.program n) with endAt := s.clock + (s.segmentOf (SeqRun.start n (s.program n))).durationMs }

/-- The first segment of a program without RING_ON is none itself. -/
theorem firstSegment_of_tone {n : Nat} {s : State} (h : (s.program n).rings = false) :
    (s.segmentOf (SeqRun.start n (s.program n))).kind ≠ .ringOn := by
  intro hk
  refine Bool.eq_false_iff.mp h (List.any_eq_true.mpr ?_)
  unfold State.segmentOf at hk
  simp only [SeqRun.start] at hk
  cases hs : (s.program n).segments[0]? with
  | none => rw [hs] at hk; exact absurd hk (by decide)
  | some g =>
    rw [hs] at hk
    refine ⟨g, ?_, by simpa using hk⟩
    refine List.mem_of_getElem? (i := 0) ?_
    rw [List.getElem?_take_of_lt (Nat.succ_pos _)]
    exact hs

/-- A program without RING_ON begins at once with its first segment (R100). -/
theorem startProgram_of_tone {p : PortId} {n : Nat} {s : State} (h : (s.program n).rings = false) :
    startProgram p n s = s.onSeq p fun q => { q with run := some (toneRun n s) } := by
  let u := s.onSeq p fun q => { q with run := some (SeqRun.start n (s.program n)) }
  have hrun : (u.seq p).run = some (SeqRun.start n (s.program n)) := by simp [u]
  have hseg : u.segmentOf (SeqRun.start n (s.program n)) = s.segmentOf (SeqRun.start n (s.program n)) := by
    simp [u, State.segmentOf, State.program]
  have hbegin : beginSegment p u = (false, s.onSeq p fun q => { q with run := some (toneRun n s) }) := by
    simp only [beginSegment, hrun, hseg, if_neg (firstSegment_of_tone h)]
    cases p <;> rfl
  have hstart : startProgram p n s = runSegments skipFuel p u := rfl
  rw [hstart]
  unfold skipFuel runSegments
  rw [hbegin]

theorem startTone_clock (p : PortId) (n : Nat) (s : State) : (startTone p n s).clock = s.clock := by
  unfold startTone
  dsimp only
  split
  · exact stopSeq_clock _ _ _
  next h =>
    rw [startProgram_of_tone (Bool.eq_false_iff.mpr h), State.onSeq_clock]
    exact stopSeq_clock _ _ _

/-- Settles O39. -/
theorem portRingConnectRelease : Obligations.PortRingConnectRelease := by
  intro p tag n rest s hs args ring connect release q now underWay
  have rings {a : Answer} {t : State} (h : ringOn n.toNat p s.heard = (a, t)) : ring a t := portRing_answers hs h
  have connects {a : Answer} {t : State} (h : connectOn p s.heard = (a, t)) : connect a t := portConnect_answers hs h
  have releases {a : Answer} {t : State} (h : releaseOn p s.heard = (a, t)) : release a t := portRelease_answers hs h
  refine ⟨fun h => rings (if_pos (by omega)),
    fun h => ⟨fun hi => rings ((if_neg (by omega)).trans (if_pos (bne_iff_ne.mpr hi))),
      fun hi hu => rings ((ringOn_of_idle (s := s.heard) h hi).trans (if_pos ((recognising_of_idle (s := s.heard) hi).mpr hu))),
      fun hi hu => rings ((ringOn_of_idle (s := s.heard) h hi).trans
        (if_neg (mt (recognising_of_idle (s := s.heard) hi).mp hu)))⟩,
    fun h => connects (connectOn_of_connected h), fun ho hc => connects (connectOn_of_other ho hc),
    fun h => connects (connectOn_of_offhook h), fun h hr hp => connects ((connectOn_of_offhook (s := s.heard) h).trans ?_),
    fun h => releases ((releaseOn_of_offhook (s := s.heard) h).trans ?_),
    fun h => releases ((releaseOn_of_connected (s := s.heard) h).trans ?_),
    fun h => releases (releaseOn_of_ringing h), fun ho hc hr => releases (releaseOn_of_other ho hc hr)⟩
  · rw [stopSeq_of_idle (s := s.heard) hr]
    refine congrArg (Prod.mk Answer.ok) (onPort_congr ?_)
    have habandon : (s.heard.port p).abandonDigit = s.heard.port p := abandonDigit_of_none hp
    rw [Port.toConnected, habandon]
    rfl
  · have hclock : (startReleaseTone p s.heard).clock = now := startTone_clock _ _ _
    rw [restartReceiver, State.after, hclock]
    rfl
  · rw [startReleaseTone_toOffhook]
    rfl

end Sys2Proof.Machine
end

section
/-! PROOFS. Chapter 04: the hook: off-hook, breaks, hang-up and dial pulses (R71 to R73, R77, R79, R82, R83, R91). -/

namespace Sys2Proof.Machine
open Sys2Proof

/-! ## Bursts and waits of the ring supply stay beside the ports (R111 to R113) -/

/-- The two states differ in the link's ring guard, the sequencers and the ring supply only. -/
def State.SameBesideRing (s t : State) : Prop :=
  t = { s with lks := t.lks, seq1 := t.seq1, seq2 := t.seq2, rsc := t.rsc }

theorem State.SameBesideRing.trans {s t u : State} (h : s.SameBesideRing t) (h' : t.SameBesideRing u) :
    s.SameBesideRing u :=
  Eq.trans h' (congrArg (fun x : State => { x with lks := u.lks, seq1 := u.seq1, seq2 := u.seq2, rsc := u.rsc }) h)

theorem State.SameBesideRing.fields {s t : State} (h : s.SameBesideRing t) :
    t.mpt = s.mpt ∧ t.pac = s.pac ∧ t.hpc1 = s.hpc1 ∧ t.hpc2 = s.hpc2 ∧ t.psv = s.psv ∧ t.sst = s.sst
      ∧ t.clock = s.clock := by
  unfold State.SameBesideRing at h
  rw [h]
  exact ⟨rfl, rfl, rfl, rfl, rfl, rfl, rfl⟩

theorem tryHead_besideRing (s : State) : s.SameBesideRing (tryHead s) := by
  unfold tryHead
  split
  · rfl
  next e _ _ =>
    split
    · unfold grantBurst
      cases e.port <;> rfl
    · rfl

theorem idleCheck_besideRing (s : State) : s.SameBesideRing (idleCheck s) := by
  unfold idleCheck
  split <;> rfl

theorem endBurst_besideRing (p : PortId) (s : State) : s.SameBesideRing (endBurst p s) := by
  unfold endBurst
  split
  · refine State.SameBesideRing.trans ?_ (idleCheck_besideRing _)
    refine State.SameBesideRing.trans ?_ ((tryHead_besideRing _).trans (tryHead_besideRing _))
    rfl
  · rfl

theorem leaveWaits_besideRing (p : PortId) (s : State) : s.SameBesideRing (leaveWaits p s) := by
  unfold leaveWaits
  split
  · refine State.SameBesideRing.trans ?_ (idleCheck_besideRing _)
    refine State.SameBesideRing.trans ?_ ((tryHead_besideRing _).trans (tryHead_besideRing _))
    rfl
  · rfl

/-- The sequencer's stop, but for its markers and its notice. -/
theorem stopSeq_of_run {cause : Option DoneCause} {p : PortId} {s : State} {r : SeqRun} (h : (s.seq p).run = some r) :
    ∃ t, s.SameBesideRing t
      ∧ stopSeq cause p s =
          match cause with
          | none => clearMarkers p t
          | some c => notice (.seqDone p r.program c r.pass r.pending s.uptime) (clearMarkers p t) := by
  let s1 := s.onSeq p fun q => { q with run := none }
  let s2 := if r.burst then endBurst p s1 else s1
  let s3 := if r.phase = .waitingSupply then leaveWaits p s2 else s2
  have h1 : s.SameBesideRing s1 := by cases p <;> rfl
  have h2 : s1.SameBesideRing s2 := by
    simp only [s2]
    split
    · exact endBurst_besideRing _ _
    · rfl
  have h3 : s2.SameBesideRing s3 := by
    simp only [s3]
    split
    · exact leaveWaits_besideRing _ _
    · rfl
  refine ⟨s3, (h1.trans h2).trans h3, ?_⟩
  simp only [stopSeq, h]
  cases cause <;> rfl

theorem stopSeq_autonomous (cause : Option DoneCause) (p : PortId) (s : State) :
    (stopSeq cause p s).mpt.autonomous = s.mpt.autonomous := by
  cases h : (s.seq p).run with
  | none => rw [stopSeq_of_idle h]
  | some r =>
    obtain ⟨t, hside, ht⟩ := stopSeq_of_run (cause := cause) h
    obtain ⟨hmpt, _⟩ := hside.fields
    have hmarkers : (clearMarkers p t).mpt.autonomous = s.mpt.autonomous := by
      rw [clearMarkers, State.onPort_mpt, hmpt]
    rw [ht]
    cases cause with
    | none => exact hmarkers
    | some c => exact (notice_autonomous _ _).trans hmarkers

/-! ## Off-hook (R71, R77, R79, R91) -/

theorem offHookDue_of_none {q : Port} (h : q.state.fed = false ∨ q.loopClosed = false ∨ q.offHook = true) :
    q.offHookDue = none := by
  refine if_neg ?_
  simp only [Port.current]
  rcases h with h | h | h <;> simp [h]

/-- The off-hook taken in IDLE while the part is ACTIVE. -/
theorem offhookWakes_of_active {p : PortId} {s : State} (hm : s.psv.mode = .active) :
    let u := notice (.portEvent p .offhook s.uptime false)
      { s.onPort p (fun q => { q.toOffhook s.clock with heldOffHook := false }) with
        psv := { s.psv with sleepGranted := false } }
    offhookWakes p s = if s.mpt.autonomous then startAutoTone p u else startDialTone p u := by
  intro u
  have hw : offhookWakes p s = offhookInIdle p (s.onPsv fun q => { q with sleepGranted := false }) := by
    rw [offhookWakes, wakeCause_of_active _ _ hm]
    exact if_neg (by simp [hm])
  have hu : portEvent p .offhook ((s.onPsv fun q => { q with sleepGranted := false }).onPort p
      fun q => { q.toOffhook s.clock with heldOffHook := false }) = u := by
    cases p <;> rfl
  have hi : offhookInIdle p (s.onPsv fun q => { q with sleepGranted := false }) = offhookTone p u :=
    congrArg (offhookTone p) hu
  have hauto : u.mpt.autonomous = s.mpt.autonomous := by
    rw [notice_autonomous]
    exact congrArg Mpt.autonomous (State.onPort_mpt _ _ _)
  rw [hw, hi, offhookTone, hauto]

theorem offhookWakes_of_quiescent {p : PortId} {s : State} (hm : s.psv.mode = .quiescent) :
    offhookWakes p s = (wakeCause .offHook (some p) s).onPort p fun q => { q with heldOffHook := true } := if_pos hm

/-- The ring trip. -/
theorem ringTrip_eq (p : PortId) (s : State) :
    let u := notice (.portEvent p .answered s.uptime false)
      ((stopSeq (some .port) p s).onPort p (Port.toOffhook s.clock))
    ringTrip p s = if s.mpt.autonomous then startAutoTone p u else u := by
  intro u
  have huptime : ((stopSeq (some .port) p s).onPort p (Port.toOffhook s.clock)).uptime = s.uptime := by
    simp only [State.uptime, State.onPort_clock, stopSeq_clock]
  have hu : portEvent p .answered ((stopSeq (some .port) p s).onPort p (Port.toOffhook s.clock)) = u := by
    rw [portEvent, huptime]
  have hauto : u.mpt.autonomous = s.mpt.autonomous := by
    rw [notice_autonomous, State.onPort_mpt, stopSeq_autonomous]
  rw [ringTrip, hu, hauto]

section Recognised

variable {p : PortId} {s : State}

theorem offhookRecognised_of_idle (h : (s.port p).state = .idle) :
    offhookRecognised p s = offhookWakes p (s.onPort p fun q => { q with offHook := true }) := by
  simp only [offhookRecognised, h]

theorem offhookRecognised_of_ringing (h : (s.port p).state = .ringing) :
    offhookRecognised p s = ringTrip p (s.onPort p fun q => { q with offHook := true }) := by
  simp only [offhookRecognised, h]

theorem offhookRecognised_of_other (hi : (s.port p).state ≠ .idle) (hr : (s.port p).state ≠ .ringing) :
    offhookRecognised p s = s.onPort p fun q => { q with offHook := true } := by
  unfold offhookRecognised
  dsimp only
  split
  · contradiction
  · contradiction
  · rfl

theorem takeHeldOffHook_of_idle (hh : (s.port p).heldOffHook = true) (h : (s.port p).state = .idle) :
    takeHeldOffHook p s = offhookWakes p (s.onPort p fun q => { q with heldOffHook := false }) := by
  refine (if_pos hh).trans ?_
  simp only [State.onPort_port, h]

theorem takeHeldOffHook_of_ringing (hh : (s.port p).heldOffHook = true) (h : (s.port p).state = .ringing) :
    takeHeldOffHook p s = ringTrip p (s.onPort p fun q => { q with heldOffHook := false }) := by
  refine (if_pos hh).trans ?_
  simp only [State.onPort_port, h]

end Recognised

end Sys2Proof.Machine
end

section
/-! PROOFS. Chapter 04: breaks, hang-up and dial pulses (R72, R73, R82, R83), and the events of the hook together. -/

namespace Sys2Proof.Machine
open Sys2Proof

/-! ## The class of a break (R72) -/

section Class

variable {c : PortSettings} {ms : Nat}

theorem breakClass_of_glitch (h : ms < c.glitchMs) : breakClass c ms = .glitch := if_pos h

theorem breakClass_of_pulse (h1 : c.glitchMs ≤ ms) (h2 : ms ≤ c.pulseMs) : breakClass c ms = .dialPulse :=
  (if_neg (Nat.not_lt.mpr h1)).trans (if_pos h2)

theorem breakClass_of_indeterminate (h1 : c.glitchMs ≤ ms) (h2 : c.pulseMs < ms) (h3 : ms < c.flashMs) :
    breakClass c ms = .indeterminate :=
  (if_neg (Nat.not_lt.mpr h1)).trans ((if_neg (Nat.not_le.mpr h2)).trans (if_pos h3))

/-- A long break: a flash, or a hang-up. -/
theorem breakClass_of_long (h1 : c.glitchMs ≤ ms) (h2 : c.pulseMs < ms) (h3 : c.flashMs ≤ ms) :
    breakClass c ms = if ms < c.hangUpMs then .flash else .hangUp :=
  (if_neg (Nat.not_lt.mpr h1)).trans ((if_neg (Nat.not_le.mpr h2)).trans (if_neg (Nat.not_lt.mpr h3)))

theorem breakClass_long_iff :
    breakClass c ms = .flash ∨ breakClass c ms = .hangUp ↔ c.glitchMs ≤ ms ∧ c.pulseMs < ms ∧ c.flashMs ≤ ms := by
  unfold breakClass
  repeat' split
  all_goals simp
  all_goals omega

theorem breakClass_of_hangUp (h : breakClass c ms = .hangUp) : c.hangUpMs ≤ ms := by
  unfold breakClass at h
  repeat' split at h
  all_goals simp_all

end Class

/-! ## A classed break (R72, R73, R82) -/

section Take

variable {p : PortId} {k : BreakClass} {s : State}

theorem takeBreak_of_other (ho : (s.port p).state ≠ .offhook) (hc : (s.port p).state ≠ .connected) :
    takeBreak k p s = s := by
  unfold takeBreak
  split <;> simp_all

theorem takeBreak_of_connected (hc : (s.port p).state = .connected) (hk : k ≠ .flash) : takeBreak k p s = s := by
  unfold takeBreak
  split <;> simp_all

theorem takeBreak_of_flash (h : (s.port p).state = .offhook ∨ (s.port p).state = .connected) :
    takeBreak .flash p s = flash p s := by
  obtain h | h := h <;> simp only [takeBreak, h]

theorem takeBreak_glitch_none (ho : (s.port p).state = .offhook)
    (h : ∀ d, (s.port p).pulse = some d → d.endWaits = false) : takeBreak .glitch p s = s := by
  simp only [takeBreak, ho, glitch]
  split
  next d hd => exact if_neg (Bool.eq_false_iff.mp (h d hd))
  · rfl

theorem takeBreak_glitch_some {d : PulseDigit} (ho : (s.port p).state = .offhook) (hd : (s.port p).pulse = some d)
    (hw : d.endWaits = true) : takeBreak .glitch p s = pulseDigitEnds d.count p s := by
  simp only [takeBreak, ho, glitch, hd]
  exact if_pos hw

theorem takeBreak_pulse (ho : (s.port p).state = .offhook) : takeBreak .dialPulse p s = dialPulse p s := by
  simp only [takeBreak, ho]

theorem takeBreak_indeterminate (ho : (s.port p).state = .offhook) :
    takeBreak .indeterminate p s = s.onPort p Port.abandonDigit := by
  simp only [takeBreak, ho]

/-- A flash, and the digit it abandons. -/
theorem flash_eq :
    flash p s =
      notice (.portEvent p (.flash (s.port p).state) s.uptime false)
        (s.onPort p fun q =>
          { q with
            pulse := none
            counts :=
              { q.counts with
                abandoned := if q.pulse = none then q.counts.abandoned else min (q.counts.abandoned + 1) 65535
                flashes := min (q.counts.flashes + 1) 65535 } }) := by
  have hq : ∀ q : Port,
      { q.abandonDigit with counts := { q.abandonDigit.counts with flashes := up16 q.counts.flashes } } =
      { q with
        pulse := none
        counts :=
          { q.counts with
            abandoned := if q.pulse = none then q.counts.abandoned else min (q.counts.abandoned + 1) 65535
            flashes := min (q.counts.flashes + 1) 65535 } } := by
    intro q
    cases h : q.pulse with
    | none => rw [abandonDigit_of_none h, if_pos rfl, ← h]; rfl
    | some d =>
      rw [Port.abandonDigit, if_pos (by simp [h]), if_neg (by simp)]
      rfl
  have huptime (f : Port → Port) : (s.onPort p f).uptime = s.uptime := by simp only [State.uptime, State.onPort_clock]
  rw [flash, portEvent, huptime]
  exact congrArg (notice _) (onPort_congr (hq _))

end Take

/-! ## The end of a break, and the hang-up -/

theorem hangUpDue_of_none {q : Port} (h : q.state.hangsUp = false ∨ q.offHook = false ∨ q.loopClosed = true) :
    q.hangUpDue = none := by
  refine if_neg ?_
  simp only [Port.inBreak]
  rcases h with h | h | h <;> simp [h]

theorem hangUpDue_of_some {q : Port} (h1 : q.state.hangsUp = true) (h2 : q.offHook = true) (h3 : q.loopClosed = false) :
    q.hangUpDue = some (q.loopSince + q.settings.hangUpMs) :=
  if_pos (by simp [Port.inBreak, h1, h2, h3])

theorem breakEndsAt_port (ms : Nat) (q : Port) (p : PortId) (s : State) : (breakEndsAt ms q s).port p = s.port p := by
  unfold breakEndsAt
  split <;> rfl

theorem hangUp_breakEndsAt (ms : Nat) (q : Port) (p : PortId) (s : State) :
    hangUp p (breakEndsAt ms q s) =
      enterIdleWith (some .port) false (portEvent p (.hungUp (some (s.port p).state))) p (breakEndsAt ms q s) := by
  rw [hangUp, breakEndsAt_port]

section End

variable {p : PortId} {ms : Nat} {s : State}

theorem breakEnd_of_rest (h : (s.port p).state.fed = false ∨ (s.port p).offHook = false) :
    breakEnd p ms s = closeLoop p s :=
  if_neg (by rcases h with h | h <;> simp [h])

/-- A break that was a hang-up. -/
theorem breakEnd_of_hangUp (hf : (s.port p).state.fed = true) (ho : (s.port p).offHook = true)
    (hk : breakClass (s.port p).settings ms = .hangUp) (hh : (s.port p).state.hangsUp = true) :
    breakEnd p ms s =
      closeLoop p (breakEndsAt ms (s.port p)
        (hangUp p (breakEndsAt (s.port p).settings.hangUpMs (s.port p) s))) :=
  (if_pos (by simp [hf, ho])).trans (if_pos (by simp [hk, hh]))

/-- The part as the loop closes again after a shorter break. -/
def loopBack (p : PortId) (ms : Nat) (s : State) : State := closeLoop p (breakEndsAt ms (s.port p) s)

theorem breakEnd_of_short (hf : (s.port p).state.fed = true) (ho : (s.port p).offHook = true)
    (h : breakClass (s.port p).settings ms ≠ .hangUp ∨ (s.port p).state.hangsUp = false) :
    breakEnd p ms s = takeBreak (breakClass (s.port p).settings ms) p (loopBack p ms s) :=
  (if_pos (by simp [hf, ho])).trans (if_neg (by rcases h with h | h <;> simp [h]))

theorem loopBack_port : (loopBack p ms s).port p =
    { s.port p with loopClosed := true, loopSince := (breakEndsAt ms (s.port p) s).clock } := by
  rw [loopBack, closeLoop, State.onPort_port, breakEndsAt_port]

end End

/-! ## Dial pulses (R73, R75) -/

theorem dialPulse_of_offhook {p : PortId} {s : State} (h : (s.port p).state = .offhook) :
    let u := s.onPort p fun q =>
      { q with
        pulse := some
          { count := min ((match q.pulse with | some d => d.count | none => 0) + 1) 11
            endAt := s.clock + q.settings.interDigitMs, endWaits := false }
        receiverEnd := some (s.clock + 20000) }
    dialPulse p s = if (s.port p).dialMarker then stopSeq (some .port) p u else u := by
  intro u
  let pulsed := s.onPort p fun q => { q with pulse := some (PulseDigit.next (s.after q.settings.interDigitMs) q.pulse) }
  have hrestart : restartReceiver p pulsed = u := by
    rw [restartReceiver, State.after, State.onPort_clock, onPort_onPort]
    refine onPort_congr ?_
    cases (s.port p).pulse <;> rfl
  have hmarker : (u.port p).dialMarker = (s.port p).dialMarker := by rw [State.onPort_port]
  have hstate : (pulsed.port p).state = .offhook := by rw [State.onPort_port]; exact h
  have hd : dialPulse p s = dialling p pulsed := rfl
  rw [hd, dialling, if_pos hstate, hrestart]
  dsimp only
  rw [hmarker]

theorem pulseDigitEnds_of_digit {p : PortId} {n : Nat} {s : State} (h : n ≤ 10) :
    pulseDigitEnds n p s
      = collectDigit (Fin.ofNat 16 (n % 10)) .pulse p (s.onPort p fun q => { q with pulse := none }) :=
  if_neg (by simp only [pulseMax]; omega)

theorem pulseDigitEnds_of_invalid {p : PortId} {n : Nat} {s : State} (h : 11 ≤ n) :
    pulseDigitEnds n p s
      = s.onPort p fun q =>
          { q with pulse := none, counts := { q.counts with invalid := min (q.counts.invalid + 1) 65535 } } :=
  (if_pos h).trans (onPort_onPort _ _ _ _)

theorem hangsUp_iff (st : PortState) :
    st.hangsUp = true ↔ st = .offhook ∨ st = .connected ∨ st = .howler ∨ st = .lockout := by
  cases st <;> simp [PortState.hangsUp]

end Sys2Proof.Machine
end

section
/-! PROOFS. Chapter 04: the events of the hook. -/

namespace Sys2Proof.Machine
open Sys2Proof

/-- Only the markers of a port change while its sequencer is stopped. -/
theorem stopSeq_port (cause : Option DoneCause) (p : PortId) (s : State) :
    (stopSeq cause p s).port p =
      { s.port p with
        dialMarker := ((stopSeq cause p s).port p).dialMarker, autoMarker := ((stopSeq cause p s).port p).autoMarker } := by
  cases h : (s.seq p).run with
  | none => rw [stopSeq_of_idle h]
  | some r =>
    obtain ⟨t, hside, ht⟩ := stopSeq_of_run (cause := cause) h
    obtain ⟨_, _, h1, h2, _⟩ := hside.fields
    have hport : t.port p = s.port p := by cases p <;> assumption
    have hmarkers : (stopSeq cause p s).port p = { s.port p with dialMarker := false, autoMarker := false } := by
      rw [ht, ← hport]
      cases cause with
      | none => exact State.onPort_port _ _ _
      | some c => exact (notice_port _ _ _).trans (State.onPort_port _ _ _)
    rw [hmarkers]

/-- The off-hook recognised at the end of the off-hook time. -/
theorem offhookRecognised_cases (p : PortId) (now : State) :
    let q := now.port p
    let seen := now.onPort p fun q => { q with offHook := true }
    let offhook := fun q : Port =>
      { q with
        state := .offhook, pulse := none, receiverEnd := some (now.clock + 20000), howlerEnd := none
        voice := q.voice.close }
    (q.state = .idle → now.psv.mode = .active →
        let u := notice (.portEvent p .offhook now.uptime false)
          { seen.onPort p (fun q => { offhook q with heldOffHook := false }) with
            psv := { now.psv with sleepGranted := false } }
        offhookRecognised p now = if now.mpt.autonomous then startAutoTone p u else startDialTone p u)
      ∧ (q.state = .idle → now.psv.mode = .quiescent →
          offhookRecognised p now
            = (wakeCause .offHook (some p) seen).onPort p fun q => { q with heldOffHook := true })
      ∧ (q.state = .ringing →
          let u := notice (.portEvent p .answered now.uptime false)
            ((stopSeq (some .port) p seen).onPort p offhook)
          offhookRecognised p now = if now.mpt.autonomous then startAutoTone p u else u)
      ∧ (q.state ≠ .idle → q.state ≠ .ringing → offhookRecognised p now = seen) := by
  intro q seen offhook
  have hpsv : seen.psv = now.psv := State.onPort_psv _ _ _
  refine ⟨fun hi hm => ?_, fun hi hm => ?_, fun hr => ?_, fun hi hr => offhookRecognised_of_other hi hr⟩
  · refine (offhookRecognised_of_idle hi).trans ((offhookWakes_of_active (s := seen) (by rw [hpsv]; exact hm)).trans ?_)
    cases p <;> rfl
  · exact (offhookRecognised_of_idle hi).trans (offhookWakes_of_quiescent (s := seen) (by rw [hpsv]; exact hm))
  · refine (offhookRecognised_of_ringing hr).trans ((ringTrip_eq p seen).trans ?_)
    cases p <;> rfl

/-- Settles O40. -/
theorem hookEvents : Obligations.HookEvents := by
  refine ⟨fun p s => ⟨fun present => rfl, fun ha h => does_of_idle_timer ha rfl (offHookDue_of_none h),
    fun ha hf hl ho => ?recognised⟩, fun p s hm => ⟨fun h => if_neg (Bool.eq_false_iff.mp h), fun hh hi => ?_,
      fun hh hr => ?_⟩, fun p s ha => ?breaks, fun p s => ⟨fun h => dialPulse_of_offhook h,
        fun n hn => pulseDigitEnds_of_digit hn, fun n hn => pulseDigitEnds_of_invalid hn⟩⟩
  case recognised =>
    intro now seen offhook
    obtain ⟨hactive, hquiescent, hringing, hother⟩ := offhookRecognised_cases p now
    have hdue : (s.port p).offHookDue = some _ := (offHookDue_iff _ _).mpr ⟨⟨hf, hl, ho⟩, rfl⟩
    exact ⟨fun hi hm => does_of_timer ha rfl hdue (hactive hi hm),
      fun hi hm => does_of_timer ha rfl hdue (hquiescent hi hm), fun hr => does_of_timer ha rfl hdue (hringing hr),
      fun hi hr => does_of_timer ha rfl hdue (hother hi hr)⟩
  · refine (takeHeldOffHook_of_idle hh hi).trans ((offhookWakes_of_active (s := s.onPort p _) ?_).trans ?_)
    · rw [State.onPort_psv]
      exact hm
    · cases p <;> rfl
  · let taken := s.onPort p fun q => { q with heldOffHook := false }
    have hheld : ((stopSeq (some .port) p taken).port p).heldOffHook = false := by
      rw [stopSeq_port]
      exact congrArg Port.heldOffHook (State.onPort_port _ _ _)
    refine (takeHeldOffHook_of_ringing hh hr).trans ((ringTrip_eq p taken).trans ?_)
    have hoffhook : (stopSeq (some .port) p taken).onPort p (Port.toOffhook taken.clock)
        = (stopSeq (some .port) p taken).onPort p fun q => { q.toOffhook taken.clock with heldOffHook := false } :=
      onPort_congr (by rw [← hheld]; rfl)
    rw [hoffhook]
    cases p <;> rfl
  case breaks =>
    intro q c at_ close hungUp
    have ends {ms : Nat} {t : State} (h : breakEnd p ms s = t) : Does (.breakEnd p ms) s t := does_of_event ha rfl h
    refine ⟨fun h => does_of_idle_timer ha rfl (hangUpDue_of_none h), fun h1 h2 h3 => ?_, hangsUp_iff,
      fun ms h => ends (breakEnd_of_rest h), fun ms hf ho => ?_⟩
    · have hat : at_ c.hangUpMs s = { s with clock := max s.clock (q.loopSince + c.hangUpMs) } :=
        if_neg (Bool.eq_false_iff.mp h3)
      rw [hat]
      exact does_of_timer ha rfl (hangUpDue_of_some h1 h2 h3) rfl
    · intro back long
      have hport : back.port p = { q with loopClosed := true, loopSince := (breakEndsAt ms q s).clock } := loopBack_port
      have hstate : (back.port p).state = q.state := by rw [hport]
      have hpulse : (back.port p).pulse = q.pulse := by rw [hport]
      have short {k : BreakClass} {t : State} (hk : breakClass c ms = k) (hn : k ≠ .hangUp ∨ q.state.hangsUp = false)
          (ht : takeBreak k p back = t) : Does (.breakEnd p ms) s t :=
        ends ((breakEnd_of_short hf ho (hk ▸ hn)).trans (hk ▸ ht))
      refine ⟨fun hl hms hh => ?_, fun h1 h2 h3 => ?_, fun h1 h2 h3 => ?_,
        fun h => ⟨fun hg hd => ?_, fun d hg hd hw => ?_, fun h1 h2 => ?_, fun h1 h2 h3 => ⟨fun hp => ?_, fun hp => ?_⟩⟩,
        fun h hl hms => ?_⟩
      · obtain ⟨h1, h2, h3⟩ := hl
        have hk := (breakClass_of_long h1 h2 h3).trans (if_neg (Nat.not_lt.mpr hms))
        refine ends ((breakEnd_of_hangUp hf ho hk hh).trans ?_)
        rw [hangUp_breakEndsAt]
        rfl
      · refine short rfl (h3.symm.imp_left fun h hk => Nat.not_le.mpr h (breakClass_of_hangUp hk)) ?_
        exact takeBreak_of_other (hstate ▸ h1) (hstate ▸ h2)
      · refine short rfl (Or.inl fun hk => Nat.not_le.mpr h2 (breakClass_of_hangUp hk)) ?_
        exact takeBreak_of_connected (hstate.trans h1) fun hk => h3 (breakClass_long_iff.mp (Or.inl hk))
      · refine short (breakClass_of_glitch hg) (Or.inl BreakClass.noConfusion) ?_
        exact takeBreak_glitch_none (hstate.trans h) (hpulse ▸ hd)
      · refine short (breakClass_of_glitch hg) (Or.inl BreakClass.noConfusion) ?_
        exact takeBreak_glitch_some (hstate.trans h) (hpulse.trans hd) hw
      · exact short (breakClass_of_pulse h1 h2) (Or.inl BreakClass.noConfusion) (takeBreak_pulse (hstate.trans h))
      · refine short (breakClass_of_indeterminate h1 h2 h3) (Or.inl BreakClass.noConfusion) ?_
        exact (takeBreak_indeterminate (hstate.trans h)).trans (onPort_self (abandonDigit_of_none (hpulse.trans hp)))
      · refine short (breakClass_of_indeterminate h1 h2 h3) (Or.inl BreakClass.noConfusion) ?_
        refine (takeBreak_indeterminate (hstate.trans h)).trans (onPort_congr (if_pos ?_))
        rw [hpulse]
        exact Option.isSome_iff_ne_none.mpr hp
      · obtain ⟨h1, h2, h3⟩ := hl
        refine short ((breakClass_of_long h1 h2 h3).trans (if_pos hms)) (Or.inl BreakClass.noConfusion) ?_
        refine (takeBreak_of_flash (hstate ▸ h)).trans ?_
        rw [flash_eq, hstate]

end Sys2Proof.Machine
end

section
/-! PROOFS. Chapter 04: digits, HOWLER and LOCKOUT, line faults (R73 to R76, R80, R84 to R86). -/

namespace Sys2Proof.Machine
open Sys2Proof

/-! ## Pulse digits (R73) -/

theorem digitEnd_of_none {q : Port} (h : q.pulse = none) : q.digitEnd = none := by
  simp only [Port.digitEnd, h]

theorem digitEnd_of_some {q : Port} {d : PulseDigit} (h : q.pulse = some d) (hw : d.endWaits = false) :
    q.digitEnd = some d.endAt := by
  simp only [Port.digitEnd, h]
  exact if_neg (Bool.eq_false_iff.mp hw)

section InterDigit

variable {p : PortId} {s : State} {d : PulseDigit}

theorem interDigitEnds_of_break (h : (s.port p).pulse = some d) (ho : (s.port p).offHook = true)
    (hl : (s.port p).loopClosed = false) :
    interDigitEnds p s = s.onPort p fun q => { q with pulse := some { d with endWaits := true } } := by
  simp only [interDigitEnds, h]
  exact if_pos (by simp [Port.inBreak, ho, hl])

theorem interDigitEnds_of_rest (h : (s.port p).pulse = some d)
    (hr : (s.port p).offHook = false ∨ (s.port p).loopClosed = true) :
    interDigitEnds p s = pulseDigitEnds d.count p s := by
  simp only [interDigitEnds, h]
  exact if_neg (by rcases hr with hr | hr <;> simp [Port.inBreak, hr])

end InterDigit

/-! ## Tone digits (R74) -/

theorem recognises_iff (gap : Nat) (q : Port) :
    q.recognises gap = true ↔ q.state.feed = .full ∧ q.tone = none ∧ (q.toneEnd = none ∨ 40 ≤ gap) := by
  rw [Port.recognises, Bool.and_eq_true, Bool.and_eq_true, Bool.or_eq_true, decide_eq_true_iff,
    Option.isNone_iff_eq_none, Option.isNone_iff_eq_none]
  exact and_congr_right fun _ => and_congr_right fun _ => or_congr_right decide_eq_true_iff

theorem collectsTones_iff (q : Port) :
    q.collectsTones = true ↔ q.state = .offhook ∨ q.state = .connected ∧ q.settings.tonesInCall = true := by
  simp [Port.collectsTones]

theorem toneDigit_of_heard {p : PortId} {digit : Fin 16} {gap : Nat} {s : State} (hm : s.psv.mode = .active)
    (hr : (s.port p).recognises gap = true) :
    toneDigit p digit gap s =
      if (s.port p).collectsTones then
        collectDigit digit .tone p (s.onPort p fun q => { q with tone := some digit })
      else s.onPort p fun q => { q with tone := some digit } :=
  if_pos (by simp [hm, hr])

/-! ## Collected digits (R75) -/

/-- Dialling in a state whose port and time are as they were. -/
theorem dialling_eq {p : PortId} {t : State} {v : Port} {now : Nat} (hs : (t.port p).state = v.state)
    (hm : (t.port p).dialMarker = v.dialMarker) (hc : t.clock = now) :
    dialling p t =
      if v.state = .offhook then
        let w := t.onPort p fun q => { q with receiverEnd := some (now + 20000) }
        if v.dialMarker then stopSeq (some .port) p w else w
      else t := by
  have hrestart : restartReceiver p t = t.onPort p fun q => { q with receiverEnd := some (now + 20000) } := by
    rw [← hc]
    rfl
  have hmarker : ((restartReceiver p t).port p).dialMarker = v.dialMarker := by
    rw [restartReceiver, State.onPort_port]
    exact hm
  unfold dialling
  dsimp only
  rw [hs, hmarker, hrestart]

section Store

variable {digit : Fin 16} {method : DigitMethod} {p : PortId} {u : State}

theorem storeDigit_of_room (h : (u.port p).digits.length < 32) :
    let stored := u.onPort p fun q =>
      { q with
        digits := q.digits ++ [{ digit := digit, method := method, uptime := u.uptime }]
        counts := { q.counts with stored := min (q.counts.stored + 1) 65535 } }
    storeDigit digit method p u =
      if (u.port p).digits = [] then notice (.portEvent p .digitsPending u.uptime false) stored else stored := by
  intro stored
  let raw := u.onPort p fun q =>
    { q with
      digits := q.digits ++ [{ digit := digit, method := method, uptime := u.uptime }]
      counts := { q.counts with stored := up16 q.counts.stored } }
  have hstored : raw = stored := onPort_congr rfl
  have hstore : storeDigit digit method p u =
      if (u.port p).digits.isEmpty then portEvent p .digitsPending raw else raw :=
    if_pos (c := (u.port p).digits.length < digitMax) h
  have huptime : stored.uptime = u.uptime := by simp only [State.uptime, stored, State.onPort_clock]
  rw [hstore, hstored, portEvent, huptime]
  simp only [List.isEmpty_iff]

theorem storeDigit_of_full (h : 32 ≤ (u.port p).digits.length) :
    let lost := min ((u.port p).counts.overflow + 1) 65535
    storeDigit digit method p u =
      report .digitsLost (portSource p) .info [d32 lost]
        (u.onPort p fun q => { q with counts := { q.counts with overflow := lost } }) := by
  intro lost
  let raw := u.onPort p fun q =>
    { q with counts := { q.counts with overflow := up16 q.counts.overflow } }
  have hlost : raw = u.onPort p fun q => { q with counts := { q.counts with overflow := lost } } := onPort_congr rfl
  have hcount : (raw.port p).counts.overflow = lost := by
    simp only [raw, State.onPort_port]
    rfl
  have hstore : storeDigit digit method p u =
      report .digitsLost (portSource p) .info [d32 (raw.port p).counts.overflow] raw :=
    if_neg (c := (u.port p).digits.length < digitMax) (Nat.not_lt.mpr h)
  rw [hstore, hcount, hlost]

end Store

/-- A digit collected. -/
theorem collectDigit_cases (digit : Fin 16) (method : DigitMethod) (p : PortId) (u : State) :
    let v := u.port p
    let record : DigitRecord := { digit := digit, method := method, uptime := u.uptime }
    let restart := fun (t : State) =>
      if v.state = .offhook then
        let w := t.onPort p fun q => { q with receiverEnd := some (u.clock + 20000) }
        if v.dialMarker then stopSeq (some .port) p w else w
      else t
    (v.digits.length < 32 →
        let stored := u.onPort p fun q =>
          { q with
            digits := q.digits ++ [record]
            counts := { q.counts with stored := min (q.counts.stored + 1) 65535 } }
        collectDigit digit method p u
          = restart (if v.digits = [] then notice (.portEvent p .digitsPending u.uptime false) stored else stored))
      ∧ (32 ≤ v.digits.length →
          let lost := min (v.counts.overflow + 1) 65535
          collectDigit digit method p u
            = restart
                (report .digitsLost (portSource p) .info [d32 lost]
                  (u.onPort p fun q => { q with counts := { q.counts with overflow := lost } }))) := by
  intro v record restart
  have hcollect : collectDigit digit method p u = dialling p (storeDigit digit method p u) := rfl
  refine ⟨fun h => ?_, fun h => ?_⟩
  · rw [hcollect, storeDigit_of_room h]
    refine dialling_eq (v := v) ?_ ?_ ?_
    · split
      · rw [notice_port, State.onPort_port]
      · rw [State.onPort_port]
    · split
      · rw [notice_port, State.onPort_port]
      · rw [State.onPort_port]
    · split
      · rw [notice_clock, State.onPort_clock]
      · rw [State.onPort_clock]
  · rw [hcollect, storeDigit_of_full h]
    refine dialling_eq (v := v) ?_ ?_ ?_
    · rw [report_port, State.onPort_port]
    · rw [report_port, State.onPort_port]
    · rw [report_clock, State.onPort_clock]

/-! ## PORT_DIGITS_READ (R76) -/

theorem portDigitsRead_answers {p : PortId} {tag n : Byte} {rest : List Byte} {s t : State} {ans : Answer}
    (hs : s.ready) (hb : digitsOn n.toNat p s.heard = (ans, t)) :
    Answers (.portDigitsRead tag (BitVec.ofNat 8 (portNumber p) :: n :: rest)) tag 0x36 s ans t :=
  answers_of_body (decode := arg88) (body := fun a => onNamedPort a.1 (digitsOn a.2))
    (a := ((BitVec.ofNat 8 (portNumber p)).toNat, n.toNat)) hs rfl rfl
    ((onNamedPort_portNumber p (digitsOn n.toNat) _).trans hb)

theorem digitsOn_of_count {n : Nat} {p : PortId} {s : State} (h1 : 1 ≤ n) (h2 : n ≤ 32) :
    let all := (s.port p).digits
    let t := s.onPort p fun q => { q with digits := all.drop n }
    digitsOn n p s =
      (Answer.with .ok (listOf DigitRecord.encode (all.take n) ++ u8 (all.drop n).length),
        if all = [] then t else clearFault .digitsLost (portSource p) t) := by
  intro all t
  refine (if_neg fun h => ?_).trans ?_
  · rcases (Bool.or_eq_true _ _).mp h with h | h
    · exact absurd (eq_of_beq h) (Nat.one_le_iff_ne_zero.mp h1)
    · exact Nat.not_lt.mpr h2 (of_decide_eq_true h)
  · simp only [List.isEmpty_iff]
    rfl

/-- Settles O41. -/
theorem digitsCollectedAndRead : Obligations.DigitsCollectedAndRead := by
  refine ⟨fun p s ha => ⟨fun h => does_of_idle_timer ha rfl (digitEnd_of_none h), fun d hd hw => ?pulse,
    fun digit gap h => does_of_event ha rfl (if_neg ?_), fun digit gap hm hf ht hp => ?tone,
    fun h => does_of_event ha rfl (onPort_self (if_neg (by simp [h]))),
    fun h => does_of_event ha rfl (onPort_congr (if_pos (Option.isSome_iff_ne_none.mpr h))),
    fun digit method u => collectDigit_cases digit method p u⟩, fun p tag n rest s hs => ?read⟩
  case pulse =>
    intro u
    have due := digitEnd_of_some hd hw
    refine ⟨fun ho hl => does_of_timer ha rfl due (interDigitEnds_of_break (s := u) hd ho hl), fun hr => ⟨fun hn => ?_, fun hn => ?_⟩⟩
    · exact does_of_timer ha rfl due ((interDigitEnds_of_rest (s := u) hd hr).trans (pulseDigitEnds_of_digit hn))
    · exact does_of_timer ha rfl due ((interDigitEnds_of_rest (s := u) hd hr).trans (pulseDigitEnds_of_invalid hn))
  · rw [Bool.and_eq_true, decide_eq_true_eq, recognises_iff]
    rintro ⟨h1, h2, h3, h4⟩
    rcases h with h | h | h | ⟨h, hgap⟩
    · exact absurd (h1.symm.trans h) PowerMode.noConfusion
    · exact h h2
    · exact h h3
    · exact h4.elim h fun h4 => Nat.not_le.mpr hgap h4
  case tone =>
    intro u
    have hr : (s.port p).recognises gap = true := (recognises_iff gap _).mpr ⟨hf, ht, hp⟩
    have hheard := toneDigit_of_heard (digit := digit) hm hr
    refine ⟨fun h => ?_, fun ho hc => ?_, fun hc hn => ?_, fun hc hn => ?_⟩
    · exact does_of_event ha rfl (hheard.trans (if_pos ((collectsTones_iff _).mpr (Or.inl h))))
    · refine does_of_event ha rfl (hheard.trans (if_neg (mt (collectsTones_iff _).mp ?_)))
      exact not_or.mpr ⟨ho, fun h => hc h.1⟩
    · refine does_of_event ha rfl (hheard.trans (if_neg (mt (collectsTones_iff _).mp ?_)))
      exact not_or.mpr ⟨fun h => absurd (hc.symm.trans h) PortState.noConfusion, fun h => Bool.eq_false_iff.mp hn h.2⟩
    · exact does_of_event ha rfl (hheard.trans (if_pos ((collectsTones_iff _).mpr (Or.inr ⟨hc, hn⟩))))
  case read =>
    intro ans all left t data
    have reads {a : Answer} {t : State} (h : digitsOn n.toNat p s.heard = (a, t)) : ans a t := portDigitsRead_answers hs h
    refine ⟨fun h => reads (if_pos ((Bool.or_eq_true _ _).mpr (h.imp beq_iff_eq.mpr decide_eq_true))), fun h1 h2 he => reads ((digitsOn_of_count h1 h2).trans ?_),
      fun h1 h2 he => reads ((digitsOn_of_count h1 h2).trans ?_)⟩
    · exact congrArg (Prod.mk data) (if_pos he)
    · exact congrArg (Prod.mk data) (if_neg he)

end Sys2Proof.Machine
end

section
/-! PROOFS. Chapter 04: HOWLER and LOCKOUT, line faults (R80, R84 to R86). -/

namespace Sys2Proof.Machine
open Sys2Proof

/-! ## HOWLER and LOCKOUT (R80, R84) -/

section Idle

variable {p : PortId} {s : State} (h : (s.seq p).run = none)
include h

theorem grantBurst_run (a : PortId) (load : Nat) : ((grantBurst a load s).seq p).run = none := by
  have hcases : (grantBurst a load s).seq p = s.seq p
      ∨ ((grantBurst a load s).seq p).run =
          (s.seq p).run.map fun r =>
            { r with phase := .running, burst := true, endAt := s.after (s.segmentOf r).durationMs } := by
    cases p <;> cases a
    · exact Or.inr rfl
    · exact Or.inl rfl
    · exact Or.inl rfl
    · exact Or.inr rfl
  rcases hcases with hsame | hmapped
  · rw [hsame, h]
  · rw [hmapped, h, Option.map_none]

theorem tryHead_run : ((tryHead s).seq p).run = none := by
  unfold tryHead
  split
  · exact h
  · split
    · exact grantBurst_run (by rwa [State.onRsc_seq]) _ _
    · exact h

theorem idleCheck_run : ((idleCheck s).seq p).run = none := by
  unfold idleCheck
  split
  · rwa [State.onRsc_seq]
  · exact h

theorem endBurst_run (a : PortId) : ((endBurst a s).seq p).run = none := by
  unfold endBurst
  split
  · exact idleCheck_run (tryHead_run (tryHead_run (by rwa [ringEdge, State.onLks_seq, State.onRsc_seq])))
  · exact h

theorem leaveWaits_run (a : PortId) : ((leaveWaits a s).seq p).run = none := by
  unfold leaveWaits
  split
  · exact idleCheck_run (tryHead_run (tryHead_run (by rwa [State.onRsc_seq])))
  · exact h

end Idle

theorem stopSeq_run (cause : Option DoneCause) (p : PortId) (s : State) : ((stopSeq cause p s).seq p).run = none := by
  cases h : (s.seq p).run with
  | none => rw [stopSeq_of_idle h, h]
  | some r =>
    let s1 := s.onSeq p fun q => { q with run := none }
    let s2 := if r.burst then endBurst p s1 else s1
    let s3 := if r.phase = .waitingSupply then leaveWaits p s2 else s2
    have h1 : (s1.seq p).run = none := by cases p <;> rfl
    have h2 : (s2.seq p).run = none := by
      simp only [s2]
      split
      · exact endBurst_run h1 p
      · exact h1
    have h3 : (s3.seq p).run = none := by
      simp only [s3]
      split
      · exact leaveWaits_run h2 p
      · exact h2
    have h4 : ((clearMarkers p s3).seq p).run = none := by rwa [clearMarkers, State.onPort_seq]
    have hstop : stopSeq cause p s =
        match cause with
        | none => clearMarkers p s3
        | some c => notice (.seqDone p r.program c r.pass r.pending s.uptime) (clearMarkers p s3) := by
      simp only [stopSeq, h]
      cases cause <;> rfl
    rw [hstop]
    cases cause with
    | none => exact h4
    | some c => rwa [notice_seq]

theorem receiverDue_of_none {q : Port} (h : q.receiverEnd = none ∨ q.state ≠ .offhook) : q.receiverDue = none := by
  unfold Port.receiverDue
  split
  · exact h.resolve_right (not_not_intro ‹_›)
  · rfl

theorem howlerDue_of_none {q : Port} (h : q.howlerEnd = none ∨ q.state ≠ .howler) : q.howlerDue = none := by
  unfold Port.howlerDue
  split
  · exact h.resolve_right (not_not_intro ‹_›)
  · rfl

/-- A tone is started on a sequencer that no program runs on. -/
theorem startTone_of_idle {p : PortId} {n : Nat} {s : State} (h : (s.seq p).run = none) :
    startTone p n s = if (s.program n).rings then s else startProgram p n s := by
  unfold startTone
  rw [stopSeq_of_idle h]

theorem stopSeq_program (cause : Option DoneCause) (p : PortId) (n : Nat) (s : State) :
    (stopSeq cause p s).program n = s.program n := by
  simp only [State.program, stopSeq_sst]

theorem enterHowler_eq (p : PortId) (s : State) :
    let n := (s.port p).settings.howlerTone
    let u := (stopSeq (some .port) p s).onPort p (Port.toHowler s.clock)
    enterHowler p s = if (s.program n).rings then u else startProgram p n u := by
  intro n u
  have hrun : (u.seq p).run = none := by rw [State.onPort_seq, stopSeq_run]
  have hprogram : u.program n = s.program n := by
    rw [← stopSeq_program (some .port) p n s]
    simp only [State.program, u, State.onPort_sst]
  rw [enterHowler, startTone_of_idle hrun, hprogram]

/-- Settles O42. -/
theorem howlerAndLockout : Obligations.HowlerAndLockout := by
  intro p s ha q
  refine ⟨fun h => does_of_idle_timer ha rfl (receiverDue_of_none h), fun e hq he => ?_,
    fun h => does_of_idle_timer ha rfl (howlerDue_of_none h), fun e hq he => ?_⟩
  · exact does_of_timer ha rfl ((if_pos hq).trans he) (enterHowler_eq p _)
  · exact does_of_timer ha rfl ((if_pos hq).trans he) rfl

/-! ## Line faults (R85, R86) -/

section Fault

variable {p : PortId} {kind : WiringFault} {s : State}

theorem lineFault_of_unjudged
    (h : s.psv.mode = .quiescent ∨ (kind = .foreignVoltage ∧ s.rsc.bursting p = true)
      ∨ ((s.port p).state.fed = false ∧ (s.port p).state ≠ .fault)) : lineFault p kind s = s := by
  unfold lineFault
  dsimp only
  rcases h with h | ⟨rfl, h⟩ | ⟨h, hf⟩
  · exact if_pos (by simp [h])
  · exact if_pos (by simp [h])
  · rw [if_neg hf, PortState.watched, if_neg (Bool.eq_false_iff.mp h)]
    exact ite_self _

theorem lineFault_of_judged (hm : s.psv.mode = .active) (hk : kind = .overcurrent ∨ s.rsc.bursting p = false) :
    lineFault p kind s =
      if (s.port p).state = .fault then s.onPort p fun q => { q with wiringBad := true }
      else if (s.port p).state.watched then enterFault kind p s
      else s := by
  refine if_neg ?_
  rcases hk with rfl | hk
  · simp [hm]
  · simp [hm, hk]

theorem lineFaultGone_of_other (h : (s.port p).state ≠ .fault ∨ s.psv.mode = .quiescent) : lineFaultGone p s = s := by
  refine if_neg ?_
  rcases h with h | h <;> simp [h]

theorem lineFaultGone_of_fault (hm : s.psv.mode = .active) (hq : (s.port p).state = .fault) :
    lineFaultGone p s = tryRecover p (s.onPort p fun q => { q with wiringBad := false }) :=
  if_pos (by simp [hm, hq])

theorem tryRecover_of_kept
    (h : (s.port p).latched = true ∨ (s.port p).retryOut = false ∨ (s.port p).wiringBad = true) :
    tryRecover p s = s := by
  unfold tryRecover
  dsimp only
  split
  · rfl
  · refine if_neg ?_
    rcases h with h | h | h <;> simp [h]

theorem tryRecover_of_out (hq : (s.port p).state = .fault) (hk : (s.port p).fault = some kind)
    (hl : (s.port p).latched = false) (ho : (s.port p).retryOut = true) (hb : (s.port p).wiringBad = false) :
    tryRecover p s = enterIdleWith (some .port) false (portEvent p (.faultRecovered kind)) p s := by
  simp only [tryRecover, hk]
  exact if_pos (by simp [hq, hl, ho, hb])

theorem enterFault_eq :
    let q := s.port p
    let history := q.history.filter (fun t => s.clock ≤ t + 300000) ++ [s.clock]
    let latched := 3 ≤ history.length
    let u := report .portWiringFault (portSource p) .minor [d32 kind.ctorIdx, d32 q.state.ctorIdx]
      ((stopSeq (some .port) p s).onPort p (Port.toFault kind s.clock history))
    enterFault kind p s =
      portChanged p q.state
        (if latched then
          notice (.portEvent p (.faultLatched kind) s.uptime false)
            (report .portWiringLatched (portSource p) .major [d32 kind.ctorIdx] u)
        else notice (.portEvent p (.faultEntered kind) s.uptime false) u) := by
  intro q history latched u
  have hclock : u.clock = s.clock := by rw [report_clock, State.onPort_clock, stopSeq_clock]
  have hlatched : (u.port p).latched = decide latched := by
    rw [report_port, State.onPort_port]
    rfl
  have huptime : u.uptime = s.uptime := by simp only [State.uptime, hclock]
  have hreported : (report .portWiringLatched (portSource p) .major [d32 kind.ctorIdx] u).uptime = s.uptime := by
    rw [State.uptime, report_clock, hclock, State.uptime]
  have hlatch : latchOrRetry kind p u =
      if latched then
        notice (.portEvent p (.faultLatched kind) s.uptime false)
          (report .portWiringLatched (portSource p) .major [d32 kind.ctorIdx] u)
      else notice (.portEvent p (.faultEntered kind) s.uptime false) u := by
    rw [latchOrRetry, hlatched, portEvent, portEvent, hreported, huptime]
    simp only [decide_eq_true_eq]
  rw [← hlatch]
  rfl

theorem historyEnd_of_cons {q : Port} {t : Nat} {ts : List Nat} (h : q.history = t :: ts) :
    q.historyEnd = some (t + 300000) := by
  simp only [Port.historyEnd, h, List.head?_cons, Option.map_some]
  rfl

end Fault

/-- Settles O43. -/
theorem lineFaults : Obligations.LineFaults := by
  intro p s ha q now
  refine ⟨fun kind h => does_of_event ha rfl (lineFault_of_unjudged h), fun kind hm hk hf => ?enters,
    fun kind hm hk hq => does_of_event ha rfl ((lineFault_of_judged hm hk).trans (if_pos hq)),
    fun h => does_of_event ha rfl (lineFaultGone_of_other h), fun hm hq hk => ?_, fun kind hm hq hf ho hl => ?_,
    fun h => does_of_idle_timer ha rfl h, fun e he => ?retry, fun h => ?_, fun t ts h => ?_⟩
  case enters =>
    intro history latched u
    have hnot : q.state ≠ .fault := fun h => by
      rw [h] at hf
      exact Bool.false_ne_true hf
    exact does_of_event ha rfl
      (((lineFault_of_judged hm hk).trans ((if_neg hnot).trans (if_pos hf))).trans enterFault_eq)
  case retry =>
    intro u
    refine ⟨fun hb => does_of_timer ha rfl he ?_, fun kind hq hk hb hl => does_of_timer ha rfl he ?_⟩
    · exact tryRecover_of_kept (s := u) (Or.inr (Or.inr (by rw [State.onPort_port]; exact hb)))
    · refine tryRecover_of_out (s := u) ?_ ?_ ?_ ?_ ?_ <;> simp only [u, State.onPort_port]
      · exact hq
      · exact hk
      · exact hl
      · exact hb
  · refine does_of_event ha rfl ((lineFaultGone_of_fault hm hq).trans (tryRecover_of_kept ?_))
    rw [State.onPort_port]
    exact hk.elim (fun h => Or.inr (Or.inl h)) Or.inl
  · refine does_of_event ha rfl ((lineFaultGone_of_fault hm hq).trans (tryRecover_of_out (kind := kind) ?_ ?_ ?_ ?_ ?_))
    all_goals rw [State.onPort_port]
    · exact hq
    · exact hf
    · exact hl
    · exact ho
  · exact does_of_idle_timer ha rfl (congrArg (fun x : List Nat => x.head?.map _) h)
  · refine does_of_timer ha rfl (historyEnd_of_cons h) (onPort_congr ?_)
    exact congrArg (fun x : List Nat => { s.port p with history := x.tail }) h

end Sys2Proof.Machine
end

section
/-! PROOFS. Chapter 05: tone requests and the sequencer requests (R99 to R107). -/

namespace Sys2Proof.Machine
open Sys2Proof

/-! ## Sequencer records -/

section Seq

variable {p : PortId} {s : State}

theorem onSeq_congr {f g : Sequencer → Sequencer} (h : f (s.seq p) = g (s.seq p)) : s.onSeq p f = s.onSeq p g := by
  cases p
  · exact congrArg (fun x => { s with seq1 := x }) h
  · exact congrArg (fun x => { s with seq2 := x }) h

theorem onSeq_onSeq (f g : Sequencer → Sequencer) : (s.onSeq p f).onSeq p g = s.onSeq p (fun q => g (f q)) := by
  cases p <;> rfl

theorem onSeq_self {f : Sequencer → Sequencer} (h : f (s.seq p) = s.seq p) : s.onSeq p f = s := by
  cases p
  · exact congrArg (fun x => { s with seq1 := x }) h
  · exact congrArg (fun x => { s with seq2 := x }) h

theorem segmentOf_onSeq (r : SeqRun) (f : Sequencer → Sequencer) : (s.onSeq p f).segmentOf r = s.segmentOf r := by
  simp only [State.segmentOf, State.program, State.onSeq_sst]

theorem onSeq_map_of_run {r : SeqRun} (h : (s.seq p).run = some r) (f : SeqRun → SeqRun) :
    (s.onSeq p fun q => { q with run := q.run.map f }) = s.onSeq p fun q => { q with run := some (f r) } :=
  onSeq_congr (congrArg (fun x => { s.seq p with run := x }) (by rw [h, Option.map_some]))

theorem setPhase_of_run {r : SeqRun} (h : (s.seq p).run = some r) (phase : SeqPhase) :
    setPhase phase p s = s.onSeq p fun q => { q with run := some { r with phase := phase } } :=
  onSeq_map_of_run h _

end Seq

/-! ## Segments of tone or silence begin at once (R100) -/

/-- The run with its segment under way since `now`. -/
def SeqRun.begun (r : SeqRun) (s : State) : SeqRun :=
  { r with phase := .running, endAt := s.clock + (s.segmentOf r).durationMs, burst := false }

theorem beginSegment_of_tone {p : PortId} {s : State} {r : SeqRun} (h : (s.seq p).run = some r)
    (hk : (s.segmentOf r).kind ≠ .ringOn) :
    beginSegment p s = (false, s.onSeq p fun q => { q with run := some (r.begun s) }) := by
  simp only [beginSegment, h, if_neg hk]
  exact congrArg (Prod.mk false) (onSeq_map_of_run h _)

theorem runSegments_of_tone {p : PortId} {s : State} {r : SeqRun} (n : Nat) (h : (s.seq p).run = some r)
    (hk : (s.segmentOf r).kind ≠ .ringOn) :
    runSegments (n + 1) p s = s.onSeq p fun q => { q with run := some (r.begun s) } := by
  rw [runSegments, beginSegment_of_tone h hk]

/-- A run put on the sequencer begins with its segment of tone or silence. -/
theorem runSegments_put {p : PortId} {s : State} {r : SeqRun} (hk : (s.segmentOf r).kind ≠ .ringOn) :
    runSegments skipFuel p (s.onSeq p fun q => { q with run := some r })
      = s.onSeq p fun q => { q with run := some (r.begun s) } := by
  let t := s.onSeq p fun q => { q with run := some r }
  have hrun : (t.seq p).run = some r := by rw [State.onSeq_seq]
  have hseg : t.segmentOf r = s.segmentOf r := segmentOf_onSeq r _
  have hbegun : r.begun t = r.begun s := by rw [SeqRun.begun, SeqRun.begun, hseg, State.onSeq_clock]
  refine (runSegments_of_tone 3099 hrun (hseg ▸ hk)).trans ?_
  rw [hbegun]
  exact onSeq_onSeq _ _

/-! ## PORT_TONE (R104) -/

section Tone

variable {p : PortId} {n q : Nat} {s : State}

theorem toneOn_of_bad (h : 15 < n ∨ 1 < q) : toneOn n q p s = (Answer.refuse .badArgument, s) :=
  if_pos (by simpa using h)

theorem toneOn_of_checked (hn : n ≤ 15) (hq : q ≤ 1) (hv : (s.port p).state = .offhook ∨ (s.port p).state = .connected) :
    toneOn n q p s =
      if (s.program n).rings then (Answer.refuse .badArgument, s)
      else
        match (s.seq p).run with
        | none => toneOk .started p (startProgram p n s)
        | some r =>
          if q = 0 then (Answer.refuse .busy, s)
          else
            toneOk (if r.pending.isSome then .replaced else .queued) p
              (s.onSeq p fun q => { q with run := q.run.map fun r => { r with pending := some n } }) := by
  refine (if_neg (by simp [hn, hq])).trans (if_neg ?_)
  rcases hv with hv | hv <;> simp [hv]

theorem toneOn_of_silent (hn : n ≤ 15) (hq : q ≤ 1)
    (hv : ¬((s.port p).state = .offhook ∨ (s.port p).state = .connected)) :
    toneOn n q p s = (Answer.refuse .wrongState, s) := by
  obtain ⟨ho, hc⟩ := not_or.mp hv
  exact (if_neg (by simp [hn, hq])).trans (if_pos (by simp [ho, hc]))

theorem toneOn_of_rings (hn : n ≤ 15) (hq : q ≤ 1)
    (hv : (s.port p).state = .offhook ∨ (s.port p).state = .connected) (hr : (s.program n).rings = true) :
    toneOn n q p s = (Answer.refuse .badArgument, s) :=
  (toneOn_of_checked hn hq hv).trans (if_pos hr)

theorem toneOn_of_idle (hn : n ≤ 15) (hq : q ≤ 1)
    (hv : (s.port p).state = .offhook ∨ (s.port p).state = .connected) (hr : (s.program n).rings = false)
    (hrun : (s.seq p).run = none) : toneOn n q p s = toneOk .started p (startProgram p n s) := by
  rw [toneOn_of_checked hn hq hv, if_neg (Bool.eq_false_iff.mp hr), hrun]

theorem toneOn_of_run {r : SeqRun} (hn : n ≤ 15) (hq : q ≤ 1)
    (hv : (s.port p).state = .offhook ∨ (s.port p).state = .connected) (hr : (s.program n).rings = false)
    (hrun : (s.seq p).run = some r) :
    toneOn n q p s =
      if q = 0 then (Answer.refuse .busy, s)
      else
        toneOk (if r.pending.isSome then .replaced else .queued) p
          (s.onSeq p fun q => { q with run := some { r with pending := some n } }) := by
  rw [toneOn_of_checked hn hq hv, if_neg (Bool.eq_false_iff.mp hr), hrun]
  dsimp only
  rw [onSeq_map_of_run hrun]

end Tone

theorem portTone_answers {p : PortId} {tag n q : Byte} {rest : List Byte} {s t : State} {ans : Answer}
    (hs : s.ready) (hb : toneOn n.toNat q.toNat p s.heard = (ans, t)) :
    Answers (.portTone tag (BitVec.ofNat 8 (portNumber p) :: n :: q :: rest)) tag 0x35 s ans t :=
  answers_of_body (decode := arg888) (body := portToneRequest)
    (a := ((BitVec.ofNat 8 (portNumber p)).toNat, n.toNat, q.toNat)) hs rfl rfl
    ((onNamedPort_portNumber p (toneOn n.toNat q.toNat) _).trans hb)

/-! ## SEQ_PAUSE, SEQ_RESUME and SEQ_STOP (R105 to R107) -/

section Requests

variable {p : PortId} {tag : Byte} {rest : List Byte} {s t : State} {ans : Answer}

theorem seqPause_answers (hs : s.ready) (hb : pauseOn p s.heard = (ans, t)) :
    Answers (.seqPause tag (BitVec.ofNat 8 (portNumber p) :: rest)) tag 0x38 s ans t :=
  answers_of_body (decode := arg8) (body := fun n => onNamedPort n pauseOn) hs rfl rfl
    ((onNamedPort_portNumber p pauseOn _).trans hb)

theorem seqResume_answers (hs : s.ready) (hb : resumeOn p s.heard = (ans, t)) :
    Answers (.seqResume tag (BitVec.ofNat 8 (portNumber p) :: rest)) tag 0x39 s ans t :=
  answers_of_body (decode := arg8) (body := fun n => onNamedPort n resumeOn) hs rfl rfl
    ((onNamedPort_portNumber p resumeOn _).trans hb)

theorem seqStop_answers (hs : s.ready) (hb : stopOn p s.heard = (ans, t)) :
    Answers (.seqStop tag (BitVec.ofNat 8 (portNumber p) :: rest)) tag 0x3A s ans t :=
  answers_of_body (decode := arg8) (body := fun n => onNamedPort n stopOn) hs rfl rfl
    ((onNamedPort_portNumber p stopOn _).trans hb)

end Requests

section ByPhase

variable {p : PortId} {s : State} {r : SeqRun}

theorem requests_of_idle (h : (s.seq p).run = none) :
    pauseOn p s = (Answer.refuse .wrongState, s) ∧ resumeOn p s = (Answer.refuse .wrongState, s)
      ∧ stopOn p s = seqOk p s := by
  refine ⟨?_, ?_, if_pos ?_⟩
  · simp only [pauseOn, h]
  · simp only [resumeOn, h]
  · rw [Sequencer.isIdle, h, Option.isNone_none]

variable (h : (s.seq p).run = some r)
include h

theorem pauseOn_of_running (hp : r.phase = .running) :
    pauseOn p s = seqOk p (s.onSeq p fun q => { q with run := some { r with phase := .pausing } }) := by
  simp only [pauseOn, h, hp, setPhase_of_run h]

theorem pauseOn_of_waiting (hp : r.phase = .waitingSupply) :
    pauseOn p s =
      seqOk p (leaveWaits p (s.onSeq p fun q => { q with run := some { r with phase := .paused } })) := by
  simp only [pauseOn, h, hp, setPhase_of_run h]

theorem pauseOn_of_still (hp : r.phase = .pausing ∨ r.phase = .paused ∨ r.phase = .held) :
    pauseOn p s = seqOk p s := by
  rcases hp with hp | hp | hp <;> simp only [pauseOn, h, hp]

theorem resumeOn_of_under_way (hp : r.phase = .running ∨ r.phase = .waitingSupply) : resumeOn p s = seqOk p s := by
  rcases hp with hp | hp <;> simp only [resumeOn, h, hp]

theorem resumeOn_of_pausing (hp : r.phase = .pausing) :
    resumeOn p s = seqOk p (s.onSeq p fun q => { q with run := some { r with phase := .running } }) := by
  simp only [resumeOn, h, hp, setPhase_of_run h]

theorem resumeOn_of_paused (hp : r.phase = .paused) :
    resumeOn p s =
      seqOk p (runSegments skipFuel p (s.onSeq p fun q => { q with run := some { r with phase := .running } })) := by
  simp only [resumeOn, h, hp, setPhase_of_run h]

theorem resumeOn_of_held (hp : r.phase = .held) :
    resumeOn p s = seqOk p (runOn p (segmentTail p { r with phase := .running } s)) := by
  simp only [resumeOn, h, hp]

theorem stopOn_of_run :
    stopOn p s =
      if (s.port p).state = .ringing then (Answer.refuse .wrongState, s) else seqOk p (stopSeq (some .request) p s) :=
  if_neg (by simp [Sequencer.isIdle, h])

end ByPhase

/-! ## The stop of a sequencer (R107) -/

/-- What a stopped program leaves: its markers cleared, and its notice. -/
def stopReport (p : PortId) (r : SeqRun) (uptime : Nat) (x : State) : Option DoneCause → State
  | none => clearMarkers p x
  | some c => notice (.seqDone p r.program c r.pass r.pending uptime) (clearMarkers p x)

section Stop

variable {c : Option DoneCause} {p : PortId} {s : State} {r : SeqRun} (h : (s.seq p).run = some r)
include h

theorem stopSeq_of_quiet (hb : r.burst = false) (hw : r.phase ≠ .waitingSupply) :
    stopSeq c p s = stopReport p r s.uptime (s.onSeq p fun q => { q with run := none }) c := by
  simp only [stopSeq, h, hb, if_neg hw]
  cases c <;> rfl

theorem stopSeq_of_burst (hb : r.burst = true) (hw : r.phase ≠ .waitingSupply) :
    stopSeq c p s = stopReport p r s.uptime (endBurst p (s.onSeq p fun q => { q with run := none })) c := by
  simp only [stopSeq, h, hb, if_neg hw]
  cases c <;> rfl

theorem stopSeq_of_waiting (hb : r.burst = false) (hw : r.phase = .waitingSupply) :
    stopSeq c p s = stopReport p r s.uptime (leaveWaits p (s.onSeq p fun q => { q with run := none })) c := by
  simp only [stopSeq, h, hb, if_pos hw]
  cases c <;> rfl

end Stop

theorem eraseFirst_of_first {α : Type} {f : α → Bool} {before after : List α} {e : α} (he : f e = true)
    (hb : ∀ x ∈ before, f x = false) : eraseFirst f (before ++ e :: after) = before ++ after := by
  induction before with
  | nil => exact if_pos he
  | cons x xs ih =>
    obtain ⟨hx, hxs⟩ := List.forall_mem_cons.mp hb
    rw [List.cons_append, eraseFirst, if_neg (Bool.eq_false_iff.mp hx), ih hxs, List.cons_append]

theorem idleCheck_eq (t : State) :
    idleCheck t =
      if t.rsc.state = .ready ∧ t.rsc.bursts = [] ∧ t.rsc.waits = [] ∧ t.rsc.idleEnd = none then
        { t with rsc := { t.rsc with idleEnd := some (t.clock + 5000) } }
      else t := by
  simp only [idleCheck, Bool.and_eq_true, decide_eq_true_eq, List.isEmpty_iff, Option.isNone_iff_eq_none]
  rfl

section Lists

variable {p : PortId} {s : State} {before after : List RingEntry} {e : RingEntry}

theorem endBurst_of_first (hl : s.rsc.bursts = before ++ e :: after) (he : e.port = p)
    (hb : ∀ x ∈ before, x.port ≠ p) :
    endBurst p s =
      idleCheck
        (tryWaits
          { s with
            rsc := { s.rsc with bursts := before ++ after }
            lks := { s.lks with ringGuard := some (s.clock + 200) } }) := by
  have hbursting : s.rsc.bursting p = true :=
    List.any_eq_true.mpr ⟨e, by rw [hl]; exact List.mem_append_right _ List.mem_cons_self, decide_eq_true he⟩
  have herase : eraseFirst (fun e => e.port = p) s.rsc.bursts = before ++ after := by
    rw [hl]
    exact eraseFirst_of_first (decide_eq_true he) fun x hx => decide_eq_false (hb x hx)
  exact (if_pos hbursting).trans
    (congrArg
      (fun xs => idleCheck (tryWaits
        { s with rsc := { s.rsc with bursts := xs }, lks := { s.lks with ringGuard := some (s.clock + 200) } }))
      herase)

theorem leaveWaits_of_first (hl : s.rsc.waits = before ++ e :: after) (he : e.port = p)
    (hb : ∀ x ∈ before, x.port ≠ p) :
    leaveWaits p s = idleCheck (tryWaits { s with rsc := { s.rsc with waits := before ++ after } }) := by
  have hwaiting : s.rsc.waiting p = true :=
    List.any_eq_true.mpr ⟨e, by rw [hl]; exact List.mem_append_right _ List.mem_cons_self, decide_eq_true he⟩
  have herase : eraseFirst (fun e => e.port = p) s.rsc.waits = before ++ after := by
    rw [hl]
    exact eraseFirst_of_first (decide_eq_true he) fun x hx => decide_eq_false (hb x hx)
  exact (if_pos hwaiting).trans
    (congrArg (fun xs => idleCheck (tryWaits { s with rsc := { s.rsc with waits := xs } })) herase)

end Lists

/-- Settles O44. -/
theorem toneAndSequencerRequests : Obligations.ToneAndSequencerRequests := by
  refine ⟨fun tag rest p s hs => ?requests, fun p s c => ?stops⟩
  case requests =>
    intro name tone pause resume stop u voiced okWith inPhase
    have tones {n q : Byte} {a : Answer} {t : State} (h : toneOn n.toNat q.toNat p u = (a, t)) : tone n q a t :=
      portTone_answers hs h
    have pauses {a : Answer} {t : State} (h : pauseOn p u = (a, t)) : pause a t := seqPause_answers hs h
    have resumes {a : Answer} {t : State} (h : resumeOn p u = (a, t)) : resume a t := seqResume_answers hs h
    have stops {a : Answer} {t : State} (h : stopOn p u = (a, t)) : stop a t := seqStop_answers hs h
    refine ⟨fun n q h => tones (toneOn_of_bad h), fun n q hn hq hv => tones (toneOn_of_silent hn hq hv),
      fun n q hn hq hv hr => tones (toneOn_of_rings hn hq hv hr), fun n q hn hq hv hr =>
        ⟨fun hrun => tones (toneOn_of_idle hn hq hv hr hrun), fun r hrun hz => tones ?_, fun r hrun hz => tones ?_⟩,
      fun hrun => ?_, fun r hrun => ⟨fun hp => ?_, fun hp => ?_, fun hp => ?_, fun hp => ?_, fun hp => ?_, fun hq => ?_,
        fun hq => ?_⟩⟩
    · exact (toneOn_of_run (s := u) hn hq hv hr hrun).trans (if_pos (by rw [hz]; rfl))
    · refine (toneOn_of_run (s := u) hn hq hv hr hrun).trans ((if_neg (by rw [hz]; decide)).trans ?_)
      cases r.pending <;> rfl
    · obtain ⟨hpause, hresume, hstop⟩ := requests_of_idle (s := u) hrun
      exact ⟨pauses hpause, resumes hresume, stops hstop⟩
    · exact ⟨pauses (pauseOn_of_running (s := u) hrun hp), resumes (resumeOn_of_under_way (s := u) hrun (Or.inl hp))⟩
    · exact ⟨pauses (pauseOn_of_waiting (s := u) hrun hp), resumes (resumeOn_of_under_way (s := u) hrun (Or.inr hp))⟩
    · exact ⟨pauses (pauseOn_of_still (s := u) hrun (Or.inl hp)), resumes (resumeOn_of_pausing (s := u) hrun hp)⟩
    · have hresume := resumeOn_of_paused (s := u) hrun hp
      refine ⟨pauses (pauseOn_of_still (s := u) hrun (Or.inr (Or.inl hp))), fun hk => resumes (hresume.trans ?_),
        fun _ => resumes hresume⟩
      exact congrArg (seqOk p) (runSegments_put (s := u) (r := { r with phase := .running }) hk)
    · exact ⟨pauses (pauseOn_of_still (s := u) hrun (Or.inr (Or.inr hp))), resumes (resumeOn_of_held (s := u) hrun hp)⟩
    · exact stops ((stopOn_of_run (s := u) hrun).trans (if_pos hq))
    · exact stops ((stopOn_of_run (s := u) hrun).trans (if_neg hq))
  case stops =>
    intro served freed
    refine ⟨stopSeq_of_idle, fun r hrun => ?_⟩
    intro stopped
    have hstopped (x : State) : stopReport p r s.uptime x c = stopped x := by
      simp only [stopped]
      cases c <;> rfl
    have hserved (x : State) : idleCheck (tryWaits x) = served x := idleCheck_eq _
    refine ⟨fun hb hw => ?_, fun before e after hb hw hl he hf => ?_, fun before e after hb hw hl he hf => ?_⟩
    · rw [← hstopped]
      exact stopSeq_of_quiet hrun hb hw
    · rw [← hstopped, ← hserved, stopSeq_of_burst hrun hb hw, endBurst_of_first (by rwa [State.onSeq_rsc]) he hf]
      simp only [freed, State.onSeq_rsc, State.onSeq_lks, State.onSeq_clock]
    · rw [← hstopped, ← hserved, stopSeq_of_waiting hrun hb hw, leaveWaits_of_first (by rwa [State.onSeq_rsc]) he hf]
      simp only [freed, State.onSeq_rsc]

end Sys2Proof.Machine
end

section
/-! PROOFS. Chapter 05: the segments of a program (R100 to R103). -/

namespace Sys2Proof.Machine
open Sys2Proof

/-! ## The end of a segment (R101) -/

theorem segmentDue_of_running {q : Sequencer} {r : SeqRun} (h : q.run = some r)
    (hp : r.phase = .running ∨ r.phase = .pausing) : q.segmentDue = some r.endAt := by
  simp only [Sequencer.segmentDue, h]
  exact if_pos (by simpa using hp)

theorem segmentDue_of_still {q : Sequencer} {r : SeqRun} (h : q.run = some r) (hr : r.phase ≠ .running)
    (hp : r.phase ≠ .pausing) : q.segmentDue = none := by
  simp only [Sequencer.segmentDue, h]
  exact if_neg (by simp [hr, hp])

theorem endBurst_of_none {p : PortId} {s : State} (h : s.rsc.bursting p = false) : endBurst p s = s :=
  if_neg (Bool.eq_false_iff.mp h)

/-- A running segment that ends: its mark, then a hold or the tail of R101. -/
theorem segmentEnds_of_run {p : PortId} {s : State} {r : SeqRun} (cutShort : Bool) (h : (s.seq p).run = some r) :
    let g := s.segmentOf r
    let v := if g.mark = true then notice (.seqMark p r.program r.segment r.pass cutShort s.uptime) s else s
    segmentEnds cutShort p s =
      if g.hold then
        (false, v.onSeq p fun q => { q with run := some { r with phase := .held, left := 0, burst := false } })
      else segmentTail p { r with burst := false, left := 0 } v := by
  simp only [segmentEnds, h]
  rfl

section Tail

variable {p : PortId} {s : State} {r : SeqRun}

theorem segmentTail_of_stop (hr : r.repeats = some 1) (hs : (s.program r.program).stop = some r.segment) :
    segmentTail p r s = endProgram .stopIndex p r s := if_pos (by simp [hr, hs])

variable (hn : ¬(r.repeats = some 1 ∧ (s.program r.program).stop = some r.segment))
include hn

theorem segmentTail_of_inner (hl : r.segment ≠ (s.program r.program).last) :
    segmentTail p r s = nextSegment p { r with segment := r.segment + 1 } s :=
  (if_neg (by simpa using hn)).trans (if_neg hl)

theorem segmentTail_of_last (hl : r.segment = (s.program r.program).last) :
    segmentTail p r s =
      match r.repeats with
      | none => nextSegment p { r with pass := up16 r.pass, segment := 0 } s
      | some n =>
        if 1 < n then nextSegment p { r with repeats := some (n - 1), pass := up16 r.pass, segment := 0 } s
        else endProgram .completed p r s := by
  refine (if_neg (by simpa using hn)).trans ((if_pos hl).trans ?_)
  cases r.repeats <;> rfl

end Tail

/-! ## The next segment, and the end of a program (R101, R102) -/

theorem runOn_next_of_pausing {p : PortId} {r : SeqRun} {s : State} (h : r.phase = .pausing) :
    runOn p (nextSegment p r s) =
      s.onSeq p fun q => { q with run := some { r with phase := .paused, left := (s.segmentOf r).durationMs } } := by
  rw [nextSegment, if_pos h]
  rfl

theorem runOn_next_of_running {p : PortId} {r : SeqRun} {s : State} (h : r.phase = .running) :
    runOn p (nextSegment p r s) = runSegments skipFuel p (s.onSeq p fun q => { q with run := some r }) := by
  rw [nextSegment, if_neg (by rw [h]; decide)]
  rfl

theorem begun_of_running {r : SeqRun} {s : State} (hp : r.phase = .running) (hb : r.burst = false) :
    r.begun s = { r with endAt := s.clock + (s.segmentOf r).durationMs } := by
  rw [SeqRun.begun, ← hp, ← hb]

section End

variable {cause : DoneCause} {p : PortId} {r : SeqRun} {s : State}

/-- A program that ends with none pending frees the sequencer, and a port in RINGING with it. -/
theorem runOn_end_of_none (h : r.pending = none) :
    let w := notice (.seqDone p r.program cause r.pass r.pending s.uptime) s
    let idle := (w.onSeq p fun q => { q with run := none }).onPort p fun q =>
      { q with dialMarker := false, autoMarker := false }
    runOn p (endProgram cause p r s) = if (s.port p).state = .ringing then enterIdle p idle else idle := by
  intro w idle
  have hstate : (idle.port p).state = (s.port p).state := by
    rw [State.onPort_port, State.onSeq_port, notice_port]
  have htold : toldOfEnd p (w.onSeq p fun q => { q with run := none }) =
      if (s.port p).state = .ringing then enterIdle p idle else idle := by
    rw [← hstate]
    rfl
  rw [← htold]
  simp only [endProgram, w, h]
  rfl

theorem runOn_end_of_pending {n : Nat} (h : r.pending = some n) :
    let w := notice (.seqDone p r.program cause r.pass r.pending s.uptime) s
    runOn p (endProgram cause p r s) =
      runSegments skipFuel p
        ((w.onSeq p fun q => { q with run := some (SeqRun.start n (s.program n)) }).onPort p fun q =>
          { q with dialMarker := false, autoMarker := false }) := by
  intro w
  have hcomm : (clearMarkers p w).onSeq p (fun q => { q with run := some (SeqRun.start n (s.program n)) })
      = (w.onSeq p fun q => { q with run := some (SeqRun.start n (s.program n)) }).onPort p fun q =>
          { q with dialMarker := false, autoMarker := false } := by
    cases p <;> rfl
  rw [← hcomm]
  simp only [endProgram, w, h]
  rfl

end End

/-! ## Segments follow each other until one takes time (R100, log 18) -/

section Runs

variable {n : Nat} {p : PortId} {s : State}

theorem runSegments_of_timed (h : (beginSegment p s).1 = false) : runSegments (n + 1) p s = (beginSegment p s).2 := by
  rw [runSegments]
  split
  next heq => rw [heq]
  next heq => rw [heq] at h; exact absurd h Bool.false_ne_true.symm

theorem runSegments_of_skipped (h : (beginSegment p s).1 = true) :
    runSegments (n + 1) p s =
      if (segmentEnds true p (beginSegment p s).2).1 then runSegments n p (segmentEnds true p (beginSegment p s).2).2
      else (segmentEnds true p (beginSegment p s).2).2 := by
  rw [runSegments]
  split
  next heq => rw [heq] at h; exact absurd h Bool.false_ne_true
  next heq =>
    rw [heq]
    split
    next hend => rw [hend]; exact (if_neg Bool.false_ne_true).symm
    next hend => rw [hend]; exact (if_pos rfl).symm

end Runs

/-- The states of a segment's end: the state `v`, but for its clock and its notices, is `s`. -/
theorem takeSegmentEnd_of_run {cutShort : Bool} {p : PortId} {s : State} {r : SeqRun} (h : (s.seq p).run = some r)
    (hb : r.burst = false) :
    let g := s.segmentOf r
    let v := if g.mark = true then notice (.seqMark p r.program r.segment r.pass cutShort s.uptime) s else s
    takeSegmentEnd cutShort p s =
      if g.hold then v.onSeq p fun q => { q with run := some { r with phase := .held, left := 0 } }
      else runOn p (segmentTail p { r with left := 0 } v) := by
  intro g v
  have hleft : ({ r with burst := false, left := 0 } : SeqRun) = { r with left := 0 } :=
    congrArg (fun b => { r with burst := b, left := 0 }) hb.symm
  have hheld : ({ r with phase := .held, left := 0, burst := false } : SeqRun) = { r with phase := .held, left := 0 } :=
    congrArg (fun b => { r with phase := .held, left := 0, burst := b }) hb.symm
  have hends := segmentEnds_of_run cutShort h
  rw [hleft, hheld] at hends
  exact (congrArg (runOn p) hends).trans (apply_ite (runOn p) (g.hold = true) _ _)

theorem runOn_next_of_tone {p : PortId} {r : SeqRun} {s : State} (hp : r.phase = .running) (hb : r.burst = false)
    (hk : (s.segmentOf r).kind ≠ .ringOn) :
    runOn p (nextSegment p r s) =
      s.onSeq p fun q => { q with run := some { r with endAt := s.clock + (s.segmentOf r).durationMs } } := by
  rw [runOn_next_of_running hp, runSegments_put hk, begun_of_running hp hb]

/-- A pending program of tone or silence begins at once. -/
theorem runOn_end_of_pending_tone {cause : DoneCause} {p : PortId} {r : SeqRun} {s : State} {n : Nat}
    (h : r.pending = some n) (hk : (s.segmentOf (SeqRun.start n (s.program n))).kind ≠ .ringOn) :
    let w := notice (.seqDone p r.program cause r.pass r.pending s.uptime) s
    runOn p (endProgram cause p r s) =
      (w.onSeq p fun q => { q with run := some (toneRun n s) }).onPort p fun q =>
        { q with dialMarker := false, autoMarker := false } := by
  intro w
  let start := SeqRun.start n (s.program n)
  let cleared := w.onPort p fun q => { q with dialMarker := false, autoMarker := false }
  have hcomm (x : SeqRun) :
      (w.onSeq p fun q => { q with run := some x }).onPort p (fun q =>
          { q with dialMarker := false, autoMarker := false })
        = cleared.onSeq p fun q => { q with run := some x } := by
    cases p <;> rfl
  have hseg : cleared.segmentOf start = s.segmentOf start := by
    simp only [cleared, w, State.segmentOf, State.program, State.onPort_sst, notice_sst]
  have hclock : cleared.clock = s.clock := by rw [State.onPort_clock, notice_clock]
  have hbegun : start.begun cleared = toneRun n s := by
    rw [SeqRun.begun, hseg, hclock]
    rfl
  rw [runOn_end_of_pending h, hcomm, hcomm, runSegments_put (r := start) (hseg ▸ hk), hbegun]

/-- Settles O45. -/
theorem segmentsFollowEachOther : Obligations.SegmentsFollowEachOther := by
  intro p s ha
  refine ⟨fun h => does_of_idle_timer ha rfl (by simp only [Sequencer.segmentDue, h]), fun r h hr hp =>
    does_of_idle_timer ha rfl (segmentDue_of_still h hr hp), fun r h hp =>
      does_of_timer ha rfl (segmentDue_of_running h hp) rfl, fun r h hp hb hq => ?ends,
    fun n hk => runSegments_put hk, fun n => rfl, fun n => ?runs⟩
  case runs =>
    intro begun ended
    refine ⟨runSegments_of_timed, fun hb he => ?_, fun hb he => ?_⟩
    · exact (runSegments_of_skipped hb).trans (if_neg (Bool.eq_false_iff.mp he))
    · exact (runSegments_of_skipped hb).trans (if_pos he)
  case ends =>
    intro u g prog v goesTo ends
    have hv : v.seq p = s.seq p ∧ v.sst = s.sst ∧ v.clock = u.clock ∧ v.port p = s.port p := by
      simp only [v]
      split
      · exact ⟨by rw [notice_seq]; rfl, by rw [notice_sst], by rw [notice_clock], by rw [notice_port]; rfl⟩
      · exact ⟨rfl, rfl, rfl, rfl⟩
    obtain ⟨-, hsst, hclock, hport⟩ := hv
    have hprogram (n : Nat) : v.program n = s.program n := by simp only [State.program, hsst]
    have hsegment (x : SeqRun) : v.segmentOf x = s.segmentOf x := by simp only [State.segmentOf, hprogram]
    have huptime : v.uptime = u.uptime := by simp only [State.uptime, hclock]
    have taken : takeSegmentEnd false p u =
        if g.hold then v.onSeq p fun q => { q with run := some { r with phase := .held, left := 0 } }
        else runOn p (segmentTail p { r with left := 0 } v) := takeSegmentEnd_of_run (s := u) h hb
    have does {t : State} (ht : takeSegmentEnd false p u = t) : Does (.segmentEnd p) s t :=
      does_of_timer ha rfl (segmentDue_of_running h hp)
        ((congrArg (takeSegmentEnd false p) (endBurst_of_none (s := u) hq)).trans ht)
    have goes {x : SeqRun} (hx : takeSegmentEnd false p u = runOn p (nextSegment p x v)) (hphase : x.phase = r.phase)
        (hburst : x.burst = false) (hleft : x.left = 0) : goesTo x v := by
      refine ⟨fun hr => does (hx.trans ?_), fun hr hk => does (hx.trans ?_), fun hr => does (hx.trans ?_)⟩
      · rw [runOn_next_of_pausing (hphase.trans hr), hsegment]
      · rw [runOn_next_of_tone (hphase.trans hr) hburst (hsegment x ▸ hk), hsegment, hclock]
        rw [← hleft]
      · exact runOn_next_of_running (hphase.trans hr)
    have finishes {cause : DoneCause} (hx : takeSegmentEnd false p u = runOn p (endProgram cause p { r with left := 0 } v)) :
        ends cause := by
      let w := notice (.seqDone p r.program cause r.pass r.pending u.uptime) v
      have hw : notice (.seqDone p r.program cause r.pass r.pending v.uptime) v = w := by rw [huptime]
      have hends := fun h => runOn_end_of_none (cause := cause) (p := p) (r := { r with left := 0 }) (s := v) h
      dsimp only at hends
      rw [hw, hport] at hends
      refine ⟨fun hn hs => does (hx.trans ((hends hn).trans (if_neg hs))),
        fun hn hs => does (hx.trans ((hends hn).trans (if_pos hs))), fun n hn => does (hx.trans ?_),
        fun n hn hk => does (hx.trans ?_)⟩
      · refine (runOn_end_of_pending (r := { r with left := 0 }) hn).trans ?_
        dsimp only
        rw [hw, hprogram]
      · refine (runOn_end_of_pending_tone (r := { r with left := 0 }) hn (by rw [hsegment, hprogram]; exact hk)).trans ?_
        dsimp only
        rw [hw, toneRun, hsegment, hprogram, hclock]
    have stops : v.program r.program = prog := hprogram _
    refine ⟨fun hh => does (taken.trans (if_pos hh)), fun hh h1 h2 => finishes ?_, fun hh hn => ?_⟩
    · refine taken.trans ((if_neg (Bool.eq_false_iff.mp hh)).trans (congrArg (runOn p) ?_))
      exact segmentTail_of_stop h1 (by rw [stops]; exact h2)
    · have htail := taken.trans (if_neg (Bool.eq_false_iff.mp hh))
      have hn' : ¬(r.repeats = some 1 ∧ (v.program r.program).stop = some r.segment) := by rwa [stops]
      refine ⟨fun hl => goes ?_ rfl hb rfl, fun hl => ?_⟩
      · exact htail.trans (congrArg (runOn p)
          (segmentTail_of_inner (r := { r with left := 0 }) hn' (by rw [stops]; exact hl)))
      · have hlast := htail.trans (congrArg (runOn p)
          (segmentTail_of_last (r := { r with left := 0 }) hn' (by rw [stops]; exact hl)))
        dsimp only at hlast
        refine ⟨fun n hr h1 => finishes ?_, fun n hr h2 => goes ?_ rfl hb rfl, fun hr => goes ?_ rfl hb rfl⟩
        · rw [hlast, hr]
          exact congrArg (runOn p) (if_neg (Nat.not_lt.mpr h1))
        · rw [hlast, hr]
          exact congrArg (runOn p) (if_pos h2)
        · rw [hlast, hr]
          rfl

end Sys2Proof.Machine
end

section
/-! PROOFS. Chapter 05: the ring supply's lists (R48, R103, R110 to R113). -/

namespace Sys2Proof.Machine
open Sys2Proof

/-! ## The wait list (R111) -/

/-- The head of the wait list has its burst. -/
def granted (e : RingEntry) (rest : List RingEntry) (x : State) : State :=
  grantBurst e.port e.load (x.onRsc fun r => { r with waits := rest })

theorem granted_eq (e : RingEntry) (rest : List RingEntry) (x : State) :
    granted e rest x =
      ({ x with
          rsc :=
            { x.rsc with
              waits := rest, bursts := x.rsc.bursts ++ [{ port := e.port, load := e.load, at_ := x.clock }]
              granted := min (x.rsc.granted + 1) 4294967295, idleEnd := none }
          lks := { x.lks with ringGuard := some (x.clock + 200) } } : State).onSeq e.port fun q =>
        { q with
          run := q.run.map fun r =>
            { r with phase := .running, burst := true, endAt := x.clock + (x.segmentOf r).durationMs } } := by
  obtain ⟨port, load, at_⟩ := e
  cases port <;> rfl

section Waits

variable {s : State}

theorem tryHead_of_idle (h : s.rsc.state ≠ .ready ∨ s.rsc.waits = []) : tryHead s = s := by
  unfold tryHead
  split
  · rfl
  next e rest hw =>
    refine if_neg fun hc => ?_
    obtain ⟨hr, -⟩ := (Bool.and_eq_true _ _).mp hc
    rcases h with h | h
    · exact h (of_decide_eq_true hr)
    · exact List.cons_ne_nil e rest (hw.symm.trans h)

theorem tryWaits_of_idle (h : s.rsc.state ≠ .ready ∨ s.rsc.waits = []) : tryWaits s = s := by
  rw [tryWaits, tryHead_of_idle h, tryHead_of_idle h]

variable {e : RingEntry} {rest : List RingEntry} (hr : s.rsc.state = .ready) (hw : s.rsc.waits = e :: rest)
include hr hw

theorem tryHead_of_fits (h : e.load + loads s.rsc.bursts ≤ s.rsc.capacity) : tryHead s = granted e rest s := by
  simp only [tryHead, hw]
  exact if_pos (by simp [hr, h])

theorem tryHead_of_misfit (h : ¬e.load + loads s.rsc.bursts ≤ s.rsc.capacity) : tryHead s = s := by
  simp only [tryHead, hw]
  exact if_neg (by simp [h])

theorem granted_ready : (granted e rest s).rsc.state = .ready ∧ (granted e rest s).rsc.waits = rest := by
  rw [granted_eq, State.onSeq_rsc]
  exact ⟨hr, rfl⟩

end Waits

/-! ## Bursts and waits end (R112, R113) -/

section Lists

variable {p : PortId} {s : State}

theorem bursting_of_others (h : ∀ e ∈ s.rsc.bursts, e.port ≠ p) : s.rsc.bursting p = false :=
  List.any_eq_false.mpr fun e he => by simpa using h e he

theorem waiting_of_others (h : ∀ e ∈ s.rsc.waits, e.port ≠ p) : s.rsc.waiting p = false :=
  List.any_eq_false.mpr fun e he => by simpa using h e he

theorem idleCheck_of_other (h : s.rsc.state ≠ .ready) : idleCheck s = s := by
  rw [idleCheck_eq]
  exact if_neg fun hc => h hc.1

theorem tried_off_ready (h : s.rsc.state ≠ .ready) : idleCheck (tryWaits s) = s := by
  rw [tryWaits_of_idle (Or.inl h), idleCheck_of_other h]

variable {before after : List RingEntry} {e : RingEntry} (he : e.port = p) (hb : ∀ x ∈ before, x.port ≠ p)
  (hr : s.rsc.state ≠ .ready)
include he hb hr

/-- Off READY the end of a burst tries no waiter and starts no idle timer. -/
theorem endBurst_off_ready (hl : s.rsc.bursts = before ++ e :: after) :
    endBurst p s =
      { s with
        rsc := { s.rsc with bursts := before ++ after }
        lks := { s.lks with ringGuard := some (s.clock + 200) } } :=
  (endBurst_of_first hl he hb).trans (tried_off_ready hr)

theorem leaveWaits_off_ready (hl : s.rsc.waits = before ++ e :: after) :
    leaveWaits p s = { s with rsc := { s.rsc with waits := before ++ after } } :=
  (leaveWaits_of_first hl he hb).trans (tried_off_ready hr)

theorem cutBurst_off_ready (hl : s.rsc.bursts = before ++ e :: after) :
    cutBurst p s
      = takeSegmentEnd true p
          (({ ({ s with
                  rsc := { s.rsc with cut := min (s.rsc.cut + 1) 4294967295, bursts := before ++ after } } : State).onSeq p
                fun q => { q with skipped := min (q.skipped + 1) 65535 } with
              lks := { s.lks with ringGuard := some (s.clock + 200) } } : State).onSeq p fun q =>
            { q with run := q.run.map fun x => { x with burst := false } }) := by
  have hbursting : s.rsc.bursting p = true :=
    List.any_eq_true.mpr ⟨e, by rw [hl]; exact List.mem_append_right _ List.mem_cons_self, decide_eq_true he⟩
  let t := (s.onRsc fun r => { r with cut := up32 r.cut }).onSeq p fun q =>
    { q with skipped := up16 q.skipped, run := q.run.map fun r => { r with burst := false } }
  have hrsc : t.rsc = { s.rsc with cut := up32 s.rsc.cut } := State.onSeq_rsc ..
  have hend := endBurst_off_ready (s := t) he hb (by rw [hrsc]; exact hr) (by rw [hrsc]; exact hl)
  refine (if_pos hbursting).trans (congrArg (takeSegmentEnd true p) (hend.trans ?_))
  cases p <;> rfl

theorem skipWaiter_off_ready (hl : s.rsc.waits = before ++ e :: after) :
    skipWaiter p s
      = takeSegmentEnd true p
          (({ s with
              rsc := { s.rsc with skipped := min (s.rsc.skipped + 1) 4294967295, waits := before ++ after } } : State).onSeq
            p fun q => { q with skipped := min (q.skipped + 1) 65535 }) := by
  have hwaiting : s.rsc.waiting p = true :=
    List.any_eq_true.mpr ⟨e, by rw [hl]; exact List.mem_append_right _ List.mem_cons_self, decide_eq_true he⟩
  have hrsc : (countSkip p s).rsc = { s.rsc with skipped := up32 s.rsc.skipped } := State.onSeq_rsc ..
  have hleave := leaveWaits_off_ready (s := countSkip p s) he hb (by rw [hrsc]; exact hr) (by rw [hrsc]; exact hl)
  refine (if_pos hwaiting).trans (congrArg (takeSegmentEnd true p) (hleave.trans ?_))
  cases p <;> rfl

end Lists

theorem cutBurst_of_others {p : PortId} {s : State} (h : ∀ e ∈ s.rsc.bursts, e.port ≠ p) : cutBurst p s = s :=
  if_neg (Bool.eq_false_iff.mp (bursting_of_others h))

theorem skipWaiter_of_others {p : PortId} {s : State} (h : ∀ e ∈ s.rsc.waits, e.port ≠ p) : skipWaiter p s = s :=
  if_neg (Bool.eq_false_iff.mp (waiting_of_others h))

/-! ## A ring segment asks for its burst (R111) -/

/-- The port's sequencer asks for a burst. -/
def askedBurst (p : PortId) (run : SeqRun) (s : State) : State :=
  s.onSeq p fun q =>
    { q with run := some { run with phase := .waitingSupply, left := (s.segmentOf run).durationMs, burst := false } }

section Ask

variable {p : PortId} {s : State} {run : SeqRun} (h : (s.seq p).run = some run) (hk : (s.segmentOf run).kind = .ringOn)
include h hk

theorem beginSegment_of_ring :
    beginSegment p s =
      let load := (s.port p).settings.ringLoad
      if s.rsc.capacity < load || s.rsc.state = .faultLatched then (true, countSkip p (askedBurst p run s))
      else if s.rsc.state = .ready && (s.rsc.waits.isEmpty && load + loads s.rsc.bursts ≤ s.rsc.capacity) then
        (false, grantBurst p load (askedBurst p run s))
      else (false, joinWaits p load (askedBurst p run s)) := by
  have hasked : (s.onSeq p fun q =>
      { q with
        run := q.run.map fun r =>
          { r with phase := .waitingSupply, left := (s.segmentOf run).durationMs, burst := false } })
        = askedBurst p run s := onSeq_map_of_run h _
  simp only [beginSegment, h, if_pos hk, hasked]

theorem beginSegment_of_hopeless (hl : s.rsc.capacity < (s.port p).settings.ringLoad ∨ s.rsc.state = .faultLatched) :
    beginSegment p s = (true, countSkip p (askedBurst p run s)) := by
  rw [beginSegment_of_ring h hk]
  exact if_pos (by simpa using hl)

theorem beginSegment_of_wait (hl : (s.port p).settings.ringLoad ≤ s.rsc.capacity) (hf : s.rsc.state ≠ .faultLatched)
    (hw : ¬(s.rsc.state = .ready ∧ s.rsc.waits = []
      ∧ (s.port p).settings.ringLoad + loads s.rsc.bursts ≤ s.rsc.capacity)) :
    beginSegment p s = (false, joinWaits p (s.port p).settings.ringLoad (askedBurst p run s)) := by
  rw [beginSegment_of_ring h hk]
  exact (if_neg (by simpa [hf] using hl)).trans (if_neg (by simpa using hw))

theorem beginSegment_of_fits (hr : s.rsc.state = .ready) (hw : s.rsc.waits = [])
    (hl : (s.port p).settings.ringLoad + loads s.rsc.bursts ≤ s.rsc.capacity) :
    beginSegment p s = (false, grantBurst p (s.port p).settings.ringLoad (askedBurst p run s)) := by
  have hload : (s.port p).settings.ringLoad ≤ s.rsc.capacity := Nat.le_trans (Nat.le_add_right _ _) hl
  rw [beginSegment_of_ring h hk]
  exact (if_neg (by simpa [hr] using hload)).trans (if_pos (by simp [hr, hw, hl]))

end Ask

theorem countSkip_asked (p : PortId) (run : SeqRun) (s : State) :
    countSkip p (askedBurst p run s) =
      ({ askedBurst p run s with rsc := { s.rsc with skipped := min (s.rsc.skipped + 1) 4294967295 } } : State).onSeq p
        fun q => { q with skipped := min (q.skipped + 1) 65535 } := by
  cases p <;> rfl

/-- The port joins the wait list, the supply in `state` with its charge timer. -/
def joined (p : PortId) (load : Nat) (state : SupplyState) (chargeEnd : Option Nat) (x : State) : State :=
  { x with
    rsc :=
      { x.rsc with
        waits := x.rsc.waits ++ [{ port := p, load := load, at_ := x.clock }]
        idleEnd := none, state := state, chargeEnd := chargeEnd } }

theorem joined_congr {p : PortId} {load : Nat} {x : State} {state state' : SupplyState} {chargeEnd chargeEnd' : Option Nat}
    (h : state = state') (h' : chargeEnd = chargeEnd') :
    joined p load state chargeEnd x = joined p load state' chargeEnd' x := by rw [h, h']

theorem joinWaits_of_off {p : PortId} {load : Nat} {x : State} (h : x.rsc.state = .off) :
    joinWaits p load x =
      joined p load .charging (some (x.clock + if x.psv.stage = .mains then 50 else 120)) x :=
  joined_congr (if_pos h) (if_pos h)

theorem joinWaits_of_on {p : PortId} {load : Nat} {x : State} (h : x.rsc.state ≠ .off) :
    joinWaits p load x = joined p load x.rsc.state x.rsc.chargeEnd x :=
  joined_congr (if_neg h) (if_neg h)

theorem grantBurst_asked (p : PortId) (load : Nat) (run : SeqRun) (s : State) :
    grantBurst p load (askedBurst p run s) =
      ringEdge
        (({ askedBurst p run s with
            rsc :=
              { s.rsc with
                bursts := s.rsc.bursts ++ [{ port := p, load := load, at_ := s.clock }]
                granted := min (s.rsc.granted + 1) 4294967295, idleEnd := none } } : State).onSeq p fun q =>
          { q with
            run := some
              { run with
                phase := .running, left := (s.segmentOf run).durationMs, burst := true
                endAt := s.clock + (s.segmentOf run).durationMs } }) := by
  cases p <;> rfl

end Sys2Proof.Machine
end

section
/-! PROOFS. Chapter 05: the ring supply (R108 to R116). -/

namespace Sys2Proof.Machine
open Sys2Proof

/-! ## RING_SUPPLY_RESET (R116) -/

theorem ringSupplyReset_answers {tag : Byte} {rest : List Byte} {s t : State} {ans : Answer} (hs : s.ready)
    (hb : ringSupplyResetRequest s.heard = (ans, t)) : Answers (.ringSupplyReset tag rest) tag 0x3C s ans t :=
  answers_of_body (decode := noArgs) (body := fun _ => ringSupplyResetRequest) (a := ()) hs rfl rfl hb

/-! ## The supply's timers (R109, R112, R114) -/

theorem supplyReady_of_empty {s : State} (hw : s.rsc.waits = []) (hb : s.rsc.bursts = []) (hi : s.rsc.idleEnd = none) :
    supplyReady s =
      { s with rsc := { s.rsc with state := .ready, chargeEnd := none, idleEnd := some (s.clock + 5000) } } := by
  let t := s.onRsc fun r => { r with state := .ready, chargeEnd := none }
  have ht : tryWaits t = t := tryWaits_of_idle (s := t) (Or.inr hw)
  have hready : supplyReady s = idleCheck (tryWaits t) := rfl
  rw [hready, ht, idleCheck_eq]
  exact if_pos ⟨rfl, hb, hw, hi⟩

theorem waitEnd_of_find {p : PortId} {r : Rsc} {e : RingEntry} (h : r.waits.find? (fun e => e.port = p) = some e) :
    r.waitEnd p = some (e.at_ + 2000) := by
  rw [Rsc.waitEnd, h]
  rfl

theorem waitEnd_of_none {p : PortId} {r : Rsc} (h : r.waiting p = false) : r.waitEnd p = none := by
  rw [Rsc.waitEnd, Option.map_eq_none_iff, List.find?_eq_none]
  exact List.any_eq_false.mp h

theorem skipWaiter_of_found {p : PortId} {s : State} {e : RingEntry}
    (h : s.rsc.waits.find? (fun e => e.port = p) = some e) :
    skipWaiter p s = takeSegmentEnd true p (leaveWaits p (countSkip p s)) :=
  if_pos (List.any_eq_true.mpr ⟨e, List.mem_of_find?_eq_some h, List.find?_some h⟩)

theorem find_of_single {p : PortId} {e : RingEntry} (h : e.port = p) :
    [e].find? (fun e => e.port = p) = some e := by simp [h]

theorem leaveWaits_of_single {p : PortId} {s : State} {e : RingEntry} (hw : s.rsc.waits = [e]) (he : e.port = p) :
    leaveWaits p s = idleCheck { s with rsc := { s.rsc with waits := [] } } := by
  have hleave : leaveWaits p s = idleCheck (tryWaits { s with rsc := { s.rsc with waits := [] } }) :=
    leaveWaits_of_first (before := []) (after := []) hw he (List.forall_mem_nil _)
  rw [hleave, tryWaits_of_idle (Or.inr rfl)]

theorem historyEnd_of_supply {r : Rsc} {t : Nat} {ts : List Nat} (h : r.history = t :: ts) :
    r.historyEnd = some (t + 60000) := by
  rw [Rsc.historyEnd, h]
  rfl

/-! ## Supply faults (R114, R115) -/

theorem monitorSees_iff {kind : SupplyFaultKind} {s : State} :
    s.monitorSees kind = true ↔
      (s.rsc.state = .charging ∨ s.rsc.state = .ready) ∧ (kind = .overload ∨ s.rsc.bursts ≠ []) := by
  unfold State.monitorSees
  cases s.rsc.state <;> simp

/-- The supply shuts down for its retry. -/
def shutDown (s : State) : State :=
  { s with
    rsc := { s.rsc with state := .faultRetry, idleEnd := none, chargeEnd := none, retryEnd := some (s.clock + 2000) } }

/-- The fault counted at `now`, the uptimes of its history in `history`. -/
def faultCounted (history : List Nat) (cut : State) : State :=
  { cut with rsc := { cut.rsc with faults := min (cut.rsc.faults + 1) 4294967295, history := history } }

/-- The supply latched. -/
def supplyLatched (x : State) : State :=
  { x with rsc := { x.rsc with state := .faultLatched, history := [], retryEnd := none } }

/-- The fault counted and taken, the bursts being cut. -/
def faultTaken (kind : SupplyFaultKind) (now : Nat) (cut : State) : State :=
  let history := cut.rsc.history.filter (fun t => now ≤ t + 60000) ++ [now]
  let latched := supplyLatched (faultCounted history cut)
  if history.length < 3 then notice (.ringSupply (.retry kind history.length)) (faultCounted history cut)
  else
    notice (.ringSupply (.latched kind))
      (report .ringSupply .rsc .major (d32 kind.ctorIdx :: history.map fun t => d32 (t / 1000))
        (latched.rsc.waits.foldl (fun x e => skipWaiter e.port x) latched))

theorem supplyFaults_eq (kind : SupplyFaultKind) (s : State) :
    supplyFaults kind s =
      faultTaken kind s.clock (s.rsc.bursts.foldl (fun x e => cutBurst e.port x) (shutDown s)) := rfl

theorem supplyFaults_of_free {kind : SupplyFaultKind} {s : State} (h : s.rsc.bursts = []) :
    supplyFaults kind s = faultTaken kind s.clock (shutDown s) := by
  rw [supplyFaults_eq, h, List.foldl_nil]

theorem faultTaken_of_latch {kind : SupplyFaultKind} {now : Nat} {cut : State} (hw : cut.rsc.waits = [])
    (hl : 3 ≤ (cut.rsc.history.filter (fun t => now ≤ t + 60000) ++ [now]).length) :
    let history := cut.rsc.history.filter (fun t => now ≤ t + 60000) ++ [now]
    faultTaken kind now cut =
      notice (.ringSupply (.latched kind))
        (report .ringSupply .rsc .major (d32 kind.ctorIdx :: history.map fun t => d32 (t / 1000))
          (supplyLatched (faultCounted history cut))) := by
  intro history
  have hwaits : (supplyLatched (faultCounted history cut)).rsc.waits = [] := hw
  refine (if_neg (Nat.not_lt.mpr hl)).trans ?_
  rw [hwaits, List.foldl_nil]

theorem supplyFault_does {kind : SupplyFaultKind} {s t : State} (ha : s.alive = true)
    (hst : s.rsc.state = .charging ∨ s.rsc.state = .ready) (hk : kind = .overload ∨ s.rsc.bursts ≠ [])
    (ht : supplyFaults kind s = t) : Does (.supplyFault kind) s t :=
  does_of_event ha rfl ((if_pos (monitorSees_iff.mpr ⟨hst, hk⟩)).trans ht)

/-! ## The stage's capacity (R110) -/

theorem capacityOf_eq (stage : HoldStage) :
    capacityOf stage = if stage = .mains then 60 else if stage = .lifeline then 0 else 30 := by
  cases stage <;> rfl

/-- The burst granted last is cut while the bursts exceed the capacity. -/
def cutLatest (x : State) : State :=
  if x.rsc.capacity < loads x.rsc.bursts then
    match x.rsc.bursts.getLast? with
    | some e => cutBurst e.port x
    | none => x
  else x

theorem cutExcess_two (s : State) : cutExcess 2 s = cutLatest (cutLatest s) := by
  have hone (x : State) : cutExcess 1 x = cutLatest x := by
    unfold cutExcess cutLatest
    split
    · cases x.rsc.bursts.getLast? <;> rfl
    · rfl
  have hkept {x : State} (h : cutLatest x = x) : cutLatest (cutLatest x) = x := by rw [h, h]
  unfold cutExcess
  by_cases hl : s.rsc.capacity < loads s.rsc.bursts
  · rw [if_pos hl]
    cases he : s.rsc.bursts.getLast? with
    | none => exact (hkept (by rw [cutLatest, if_pos hl, he])).symm
    | some e =>
      have hcut : cutLatest s = cutBurst e.port s := by rw [cutLatest, if_pos hl, he]
      dsimp only
      rw [hone, hcut]
  · rw [if_neg hl]
    exact (hkept (if_neg hl)).symm

theorem offAtZero_eq (s : State) :
    offAtZero s =
      if s.rsc.capacity = 0 ∧ (s.rsc.state = .charging ∨ s.rsc.state = .ready) then
        { s with rsc := { s.rsc with state := .off, chargeEnd := none, idleEnd := none } }
      else s := by
  simp only [offAtZero, Bool.and_eq_true, Bool.or_eq_true, decide_eq_true_eq]
  rfl

end Sys2Proof.Machine
end

section
/-! PROOFS. Chapter 05: the ring supply, the whole of its statement (R108 to R116). -/

namespace Sys2Proof.Machine
open Sys2Proof

theorem supplyTimers (s : State) (ha : s.alive = true) :
    let r := s.rsc
    (r.chargeEnd = none → Does .chargeDone s s)
      ∧ (∀ e, r.chargeEnd = some e → r.waits = [] → r.bursts = [] → r.idleEnd = none →
          Does .chargeDone s
            { s with
              clock := max s.clock e
              rsc := { r with state := .ready, chargeEnd := none, idleEnd := some (max s.clock e + 5000) } })
      ∧ (∀ e, r.chargeEnd = some e →
          Does .chargeDone s
            (idleCheck (tryWaits
              { s with clock := max s.clock e, rsc := { r with state := .ready, chargeEnd := none } })))
      ∧ (r.idleEnd = none → Does .supplyIdleTimeout s s)
      ∧ (∀ e, r.idleEnd = some e →
          Does .supplyIdleTimeout s { s with clock := max s.clock e, rsc := { r with state := .off, idleEnd := none } })
      ∧ (r.retryEnd = none → Does .supplyRetryTimeout s s)
      ∧ (∀ e, r.retryEnd = some e →
          Does .supplyRetryTimeout s
            { s with
              clock := max s.clock e
              rsc :=
                { r with
                  state := .charging, retryEnd := none
                  chargeEnd := some (max s.clock e + if s.psv.stage = .mains then 50 else 120) } })
      ∧ (r.history = [] → Does .supplyFaultHistoryExpiry s s)
      ∧ (∀ t ts, r.history = t :: ts →
          Does .supplyFaultHistoryExpiry s
            { s with clock := max s.clock (t + 60000), rsc := { r with history := ts } }) := by
  intro r
  refine ⟨fun h => does_of_idle_timer ha rfl h, fun e h hw hb hi => ?_, fun e h => does_of_timer ha rfl h rfl,
    fun h => does_of_idle_timer ha rfl h, fun e h => does_of_timer ha rfl h rfl, fun h => does_of_idle_timer ha rfl h,
    fun e h => does_of_timer ha rfl h rfl, fun h => ?_, fun t ts h => ?_⟩
  · exact does_of_timer ha rfl h (supplyReady_of_empty (s := { s with clock := max s.clock e }) hw hb hi)
  · exact does_of_idle_timer ha rfl (congrArg (fun x : List Nat => x.head?.map _) h)
  · refine does_of_timer ha rfl (historyEnd_of_supply h) ?_
    exact congrArg
      (fun x : List Nat => { s with clock := max s.clock (t + 60000), rsc := { s.rsc with history := x.tail } }) h

theorem burstWaits (s : State) (ha : s.alive = true) :
    let r := s.rsc
    (∀ p, r.waiting p = false → Does (.burstWaitTimeout p) s s)
      ∧ (∀ p e, r.waits.find? (fun e => e.port = p) = some e →
          Does (.burstWaitTimeout p) s
            (takeSegmentEnd true p (leaveWaits p (countSkip p { s with clock := max s.clock (e.at_ + 2000) }))))
      ∧ (∀ p e, r.waits = [e] → e.port = p →
          let u : State := { s with clock := max s.clock (e.at_ + 2000) }
          Does (.burstWaitTimeout p) s
            (takeSegmentEnd true p
              (idleCheck
                (({ u with rsc := { r with waits := [], skipped := min (r.skipped + 1) 4294967295 } } : State).onSeq p
                  fun q => { q with skipped := min (q.skipped + 1) 65535 })))) := by
  intro r
  have found (p : PortId) (e : RingEntry) (h : r.waits.find? (fun e => e.port = p) = some e) :
      Does (.burstWaitTimeout p) s
        (takeSegmentEnd true p (leaveWaits p (countSkip p { s with clock := max s.clock (e.at_ + 2000) }))) :=
    does_of_timer ha rfl (waitEnd_of_find h) (skipWaiter_of_found (s := { s with clock := max s.clock (e.at_ + 2000) }) h)
  refine ⟨fun p h => does_of_idle_timer ha rfl (waitEnd_of_none h), found, fun p e hw he => ?_⟩
  intro u
  have hwaits : (countSkip p u).rsc.waits = [e] := by
    rw [countSkip, State.onSeq_rsc]
    exact hw
  have hleave : leaveWaits p (countSkip p u) =
      idleCheck
        (({ u with rsc := { r with waits := [], skipped := min (r.skipped + 1) 4294967295 } } : State).onSeq p
          fun q => { q with skipped := min (q.skipped + 1) 65535 }) := by
    rw [leaveWaits_of_single hwaits he]
    cases p <;> rfl
  rw [← hleave]
  exact found p e (by rw [hw]; exact find_of_single he)

theorem waitsServed (s : State) :
    let grant := fun (e : RingEntry) (rest : List RingEntry) (x : State) =>
      ({ x with
          rsc :=
            { x.rsc with
              waits := rest, bursts := x.rsc.bursts ++ [{ port := e.port, load := e.load, at_ := x.clock }]
              granted := min (x.rsc.granted + 1) 4294967295, idleEnd := none }
          lks := { x.lks with ringGuard := some (x.clock + 200) } } : State).onSeq e.port fun q =>
        { q with
          run := q.run.map fun r =>
            { r with phase := .running, burst := true, endAt := x.clock + (x.segmentOf r).durationMs } }
    let fits := fun (e : RingEntry) (x : State) => e.load + loads x.rsc.bursts ≤ x.rsc.capacity
    (s.rsc.state ≠ .ready ∨ s.rsc.waits = [] → tryWaits s = s)
      ∧ (∀ e rest, s.rsc.state = .ready → s.rsc.waits = e :: rest →
          let u := grant e rest s
          (¬fits e s → tryWaits s = s)
            ∧ (fits e s →
                (rest = [] → tryWaits s = u)
                  ∧ (∀ next more, rest = next :: more →
                      (¬fits next u → tryWaits s = u) ∧ (fits next u → tryWaits s = grant next more u)))) := by
  intro grant fits
  have hgrant (e : RingEntry) (rest : List RingEntry) (x : State) : granted e rest x = grant e rest x := granted_eq e rest x
  refine ⟨tryWaits_of_idle, fun e rest hr hw => ?_⟩
  intro u
  obtain ⟨hready, hwaits⟩ := granted_ready hr hw
  have hfirst (h : fits e s) : tryWaits s = tryHead (granted e rest s) := by rw [tryWaits, tryHead_of_fits hr hw h]
  have hu : granted e rest s = u := hgrant e rest s
  rw [hu] at hready hwaits
  refine ⟨fun h => ?_, fun h => ⟨fun hn => ?_, fun next more hn => ⟨fun hf => ?_, fun hf => ?_⟩⟩⟩
  · rw [tryWaits, tryHead_of_misfit hr hw h, tryHead_of_misfit hr hw h]
  · rw [hfirst h, hu, tryHead_of_idle (Or.inr (hwaits.trans hn))]
  · rw [hfirst h, hu, tryHead_of_misfit hready (hwaits.trans hn) hf]
  · rw [hfirst h, hu, tryHead_of_fits hready (hwaits.trans hn) hf, hgrant]

theorem supplyStage_cases (s : State) :
    let old := s.rsc.capacity
    let new := if s.psv.stage = .mains then 60 else if s.psv.stage = .lifeline then 0 else 30
    let set : State := { s with rsc := { s.rsc with capacity := new } }
    let left := cutLatest (cutLatest set)
    let skipped := left.rsc.waits.foldl
      (fun x e => if x.rsc.capacity < e.load then skipWaiter e.port x else x) left
    (new = old → supplyStage s = s)
      ∧ (old < new → supplyStage s = tryWaits set)
      ∧ (new < old →
          supplyStage s =
            if skipped.rsc.capacity = 0 ∧ (skipped.rsc.state = .charging ∨ skipped.rsc.state = .ready) then
              { skipped with rsc := { skipped.rsc with state := .off, chargeEnd := none, idleEnd := none } }
            else skipped) := by
  intro old new set left skipped
  have hstage : supplyStage s =
      if new < old then offAtZero (skipExcess (cutExcess 2 set).rsc.waits (cutExcess 2 set))
      else if old < new then tryWaits set
      else set := by
    have hnew : capacityOf s.psv.stage = new := capacityOf_eq _
    simp only [set, ← hnew]
    rfl
  refine ⟨fun h => ?_, fun h => ?_, fun h => ?_⟩
  · have hset : set = s := congrArg (fun x => { s with rsc := { s.rsc with capacity := x } }) h
    rw [hstage, if_neg (Nat.not_lt.mpr (Nat.le_of_eq h.symm)), if_neg (Nat.not_lt.mpr (Nat.le_of_eq h)), hset]
  · rw [hstage, if_neg (Nat.not_lt.mpr (Nat.le_of_lt h)), if_pos h]
  · rw [hstage, if_pos h, cutExcess_two]
    exact offAtZero_eq skipped

/-- Settles O46. -/
theorem ringSupplyWorks : Obligations.RingSupplyWorks := by
  refine ⟨⟨fun tag rest s hs => ?reset, fun s ha => ?timers, fun p s run h hk => ?asks⟩,
    ⟨waitsServed, fun p s => ?burstEnds, fun s => ?stage⟩, fun kind s ha hst hb => ?faults, fun p s => ?cuts⟩
  case reset =>
    intro ans
    exact ⟨fun h => ringSupplyReset_answers hs (if_pos (c := s.rsc.state = .faultLatched) h),
      fun h => ringSupplyReset_answers hs (if_neg (c := s.rsc.state = .faultLatched) h)⟩
  case timers =>
    intro r
    obtain ⟨h1, h2, h3, h4, h5, h6, h7, h8, h9⟩ := supplyTimers s ha
    obtain ⟨w1, w2, w3⟩ := burstWaits s ha
    refine ⟨h1, h2, h3, h4, h5, h6, h7, h8, h9, w1, w2, w3, fun kind h => does_of_event ha rfl (if_neg fun hm => ?_),
      fun hst hb => ?_, fun kind hst hb => supplyFault_does ha hst (Or.inr hb) rfl⟩
    · obtain ⟨hst, hk⟩ := monitorSees_iff.mp hm
      rcases h with ⟨h1, h2⟩ | ⟨rfl, h⟩
      · exact hst.elim h1 h2
      · exact hk.elim SupplyFaultKind.noConfusion fun hk => hk h
    · intro history shut
      have htaken := supplyFaults_of_free (kind := .overload) hb
      refine ⟨fun hl => supplyFault_does ha hst (Or.inl rfl) (htaken.trans (if_pos hl)), fun hl hw => ?_⟩
      exact supplyFault_does ha hst (Or.inl rfl) (htaken.trans (faultTaken_of_latch (cut := shutDown s) hw hl))
  case asks =>
    intro load asked
    refine ⟨fun hl => ?_, fun ho hl => ?_, fun hl hst => ?_, fun hr hw hl => ?_⟩
    · exact (beginSegment_of_hopeless h hk hl).trans (congrArg (Prod.mk true) (countSkip_asked p run s))
    · refine (beginSegment_of_wait h hk hl (by rw [ho]; decide) (fun hc => ?_)).trans
        (congrArg (Prod.mk false) ?_)
      · exact absurd (ho.symm.trans hc.1) SupplyState.noConfusion
      · have hrsc : asked.rsc = s.rsc := State.onSeq_rsc ..
        refine (joinWaits_of_off (x := asked) (by rw [hrsc]; exact ho)).trans ?_
        cases p <;> rfl
    · have hstate : s.rsc.state ≠ .faultLatched ∧ s.rsc.state ≠ .off := by
        rcases hst with h | h | ⟨h, -⟩ <;> rw [h] <;> decide
      have hwaits : ¬(s.rsc.state = .ready ∧ s.rsc.waits = [] ∧ load + loads s.rsc.bursts ≤ s.rsc.capacity) := by
        rintro ⟨hr, hw, hle⟩
        rcases hst with h | h | ⟨-, h⟩
        · exact absurd (h.symm.trans hr) SupplyState.noConfusion
        · exact absurd (h.symm.trans hr) SupplyState.noConfusion
        · exact h.elim (fun h => h hw) (Nat.not_lt.mpr hle)
      obtain ⟨hlatched, hoff⟩ := hstate
      have hrsc : asked.rsc = s.rsc := State.onSeq_rsc ..
      refine (beginSegment_of_wait h hk hl hlatched hwaits).trans (congrArg (Prod.mk false) ?_)
      refine (joinWaits_of_on (x := asked) (by rw [hrsc]; exact hoff)).trans ?_
      cases p <;> rfl
    · exact (beginSegment_of_fits h hk hr hw hl).trans (congrArg (Prod.mk false) (grantBurst_asked p load run s))
  case burstEnds =>
    intro r
    refine ⟨fun h => endBurst_of_none (bursting_of_others h), fun before e after hl he hb => ?_⟩
    intro ended tried idles
    have hend : endBurst p s = idleCheck tried := endBurst_of_first hl he hb
    exact ⟨fun hi => (hend.trans (idleCheck_eq tried)).trans (if_pos hi),
      fun hi => (hend.trans (idleCheck_eq tried)).trans (if_neg hi)⟩
  case stage =>
    intro old new set cut left skipped dead
    obtain ⟨hsame, hrise, hfall⟩ := supplyStage_cases s
    exact ⟨hsame, hrise, fun h hd => (hfall h).trans (if_pos hd), fun h hd => (hfall h).trans (if_neg hd)⟩
  case faults =>
    intro shut cut history counted latched
    have htaken : supplyFaults kind s = faultTaken kind s.clock cut := supplyFaults_eq kind s
    exact ⟨fun hl => supplyFault_does ha hst (Or.inr hb) (htaken.trans (if_pos hl)),
      fun hl => supplyFault_does ha hst (Or.inr hb) (htaken.trans (if_neg (Nat.not_lt.mpr hl)))⟩
  case cuts =>
    intro r counted
    refine ⟨cutBurst_of_others, fun before e after hl he hb hr => ?_, skipWaiter_of_others,
      fun before e after hl he hb hr => skipWaiter_off_ready he hb hr hl⟩
    exact cutBurst_off_ready he hb hr hl

end Sys2Proof.Machine
end

section
/-! PROOFS. Chapter 06: the checks of VOICE_DOWN (R119, R121, R122). -/

namespace Sys2Proof.Machine
open Sys2Proof

/-! ## The body of a frame (R119) -/

/-- Sample `i` of the sample bytes, in the order of the body. -/
def frameOf (lo hi : Byte) (samples : List Byte) : VoiceFrame where
  seq := hi ++ lo
  samples := Vector.ofFn fun i : Fin 80 => samples.getD (2 * i + 1) 0x00 ++ samples.getD (2 * i) 0x00

theorem portOf_eq_none {b : Byte} (h : ∀ p, b ≠ BitVec.ofNat 8 (portNumber p)) : portOf b.toNat = none := by
  have h1 : b.toNat ≠ 1 := fun hb => h .one (BitVec.eq_of_toNat_eq hb)
  have h2 : b.toNat ≠ 2 := fun hb => h .two (BitVec.eq_of_toNat_eq hb)
  unfold portOf
  split
  · exact absurd ‹_› h1
  · exact absurd ‹_› h2
  · rfl

theorem rdVoice_of_port {p : PortId} {lo hi : Byte} {samples : List Byte} (h : samples.length = 160) :
    rdVoice (BitVec.ofNat 8 (portNumber p) :: lo :: hi :: samples) = some (p, frameOf lo hi samples) := by
  have hport : portOf (BitVec.ofNat 8 (portNumber p)).toNat = some p := by cases p <;> rfl
  simp only [rdVoice, if_pos h, hport, Option.map_some]
  rfl

theorem rdVoice_of_bad {body : List Byte}
    (h : body.length ≠ 163 ∨ ∀ p, body.headD 0x00 ≠ BitVec.ofNat 8 (portNumber p)) : rdVoice body = none := by
  unfold rdVoice
  split
  next port lo hi samples =>
    split
    next hl =>
      rcases h with h | h
      · exact absurd (by simp only [List.length_cons, hl]) h
      · rw [portOf_eq_none (b := port) h, Option.map_none]
    next => rfl
  next => rfl

/-! ## The checks of a frame (R121) -/

section Take

variable {f : VoiceFrame} {v : Voice}

theorem late_iff : v.late f.seq = true ↔
    ∃ r, v.reference = some r ∧ ¬(1 ≤ (f.seq - r).toNat ∧ (f.seq - r).toNat ≤ 32767) := by
  unfold Voice.late
  cases v.reference with
  | none => simp
  | some r =>
    have hnewer : newer f.seq r = true ↔ 1 ≤ (f.seq - r).toNat ∧ (f.seq - r).toNat ≤ 32767 := by
      simp only [newer, Bool.and_eq_true, decide_eq_true_eq]
    simp only [Bool.not_eq_true', ← Bool.not_eq_true, hnewer, Option.some.injEq, exists_eq_left']

theorem queued_iff : v.queue.any (fun g => g.seq = f.seq) = true ↔ ∃ g ∈ v.queue, g.seq = f.seq := by simp

theorem take_of_unconnected :
    v.take false f = { v with counts := { v.counts with notConnected := min (v.counts.notConnected + 1) 4294967295 } } :=
  rfl

theorem take_of_connected :
    v.take true f =
      if v.late f.seq then { v with counts := { v.counts with late := min (v.counts.late + 1) 4294967295 } }
      else if v.queue.any (fun g => g.seq = f.seq) then
        { v with counts := { v.counts with duplicate := min (v.counts.duplicate + 1) 4294967295 } }
      else if 8 ≤ v.queue.length then
        { v with counts := { v.counts with overflow := min (v.counts.overflow + 1) 4294967295 } }
      else v.accept f := rfl

theorem accept_of_reference {r : Seq16} (h : v.reference = some r) :
    v.accept f = { v with queue := insertFrame r f v.queue } := by
  simp only [Voice.accept, h]

theorem accept_of_first (h : v.reference = none) :
    v.accept f = { v with base := some (f.seq - 8), queue := insertFrame (f.seq - 8) f v.queue } := by
  simp only [Voice.accept, h]

end Take

theorem insertFrame_eq (r : Seq16) (f : VoiceFrame) (q : List VoiceFrame) :
    let near := fun g : VoiceFrame => decide ((g.seq - r).toNat ≤ (f.seq - r).toNat)
    insertFrame r f q = q.takeWhile near ++ f :: q.dropWhile near := by
  intro near
  induction q with
  | nil => rfl
  | cons g rest ih =>
    by_cases h : (f.seq - r).toNat < (g.seq - r).toNat
    · have hnear : near g = false := decide_eq_false (Nat.not_le.mpr h)
      rw [insertFrame, if_pos h, List.takeWhile_cons_of_neg (Bool.eq_false_iff.mp hnear),
        List.dropWhile_cons_of_neg (Bool.eq_false_iff.mp hnear), List.nil_append]
    · have hnear : near g = true := decide_eq_true (Nat.not_lt.mp h)
      rw [insertFrame, if_neg h, List.takeWhile_cons_of_pos hnear, List.dropWhile_cons_of_pos hnear, ih,
        List.cons_append]

/-- Settles O47. -/
theorem voiceFramesAreChecked : Obligations.VoiceFramesAreChecked := by
  intro tag s hp hm
  refine ⟨fun body h => serves_of_active rfl hp hm ?_, fun body h => rdVoice_of_bad h,
    fun p lo hi samples hl => ?frame, fun r f q => insertFrame_eq r f q⟩
  · have hframe : frameMeaning (.voiceDown tag body) s.heard = voiceFrame body s.heard := rfl
    rw [hframe]
    simp only [voiceFrame, h]
    rfl
  case frame =>
    intro f v c does late queued
    have served {connected : Bool} (hc : connected = decide ((s.port p).state = .connected)) {v' : Voice}
        (h : v.take connected f = v') : does v' := by
      refine serves_of_active rfl hp hm ?_
      have hframe : frameMeaning (.voiceDown tag (BitVec.ofNat 8 (portNumber p) :: lo :: hi :: samples)) s.heard
          = s.heard.onPort p fun q => { q with voice := q.voice.take (q.state = .connected) f } := by
        refine (?_ : _ = voiceFrame (BitVec.ofNat 8 (portNumber p) :: lo :: hi :: samples) s.heard).trans ?_
        · rfl
        · rw [voiceFrame, rdVoice_of_port hl]
          rfl
      rw [hframe]
      refine onPort_congr (congrArg (fun x => { s.port p with voice := x }) ?_)
      rw [← h, hc]
      rfl
    refine ⟨fun hs => served (decide_eq_false hs).symm take_of_unconnected, fun hs => ?_⟩
    have taken := take_of_connected (f := f) (v := v)
    have here {v' : Voice} (h : v.take true f = v') : does v' := served (decide_eq_true hs).symm h
    have hlate : v.late f.seq = true ↔ late := late_iff
    have hqueued : v.queue.any (fun g => g.seq = f.seq) = true ↔ queued := queued_iff
    have fresh (h1 : ¬late) (h2 : ¬queued) := (taken.trans (if_neg (mt hlate.mp h1))).trans (if_neg (mt hqueued.mp h2))
    refine ⟨fun h => here (taken.trans (if_pos (hlate.mpr h))),
      fun h1 h2 => here ((taken.trans (if_neg (mt hlate.mp h1))).trans (if_pos (hqueued.mpr h2))),
      fun h1 h2 h3 => here ((fresh h1 h2).trans (if_pos h3)),
      fun h1 h2 h3 => ⟨fun r hr => here ?_, fun hr => here ?_⟩⟩
    · exact ((fresh h1 h2).trans (if_neg (Nat.not_le.mpr h3))).trans (accept_of_reference hr)
    · exact ((fresh h1 h2).trans (if_neg (Nat.not_le.mpr h3))).trans (accept_of_first hr)

end Sys2Proof.Machine
end

section
/-! PROOFS. Chapter 06: the frame clock, and what a phone hears (R97, R118, R123 to R128). -/

namespace Sys2Proof.Machine
open Sys2Proof

/-! ## A playout step (R123 to R126) -/

theorem halved_eq (x : BitVec 16) : halved x = BitVec.ofInt 16 (x.toInt.tdiv 2) := by
  have h : (halved x).toInt = x.toInt.tdiv (2#16).toInt := BitVec.toInt_sdiv_of_ne_or_ne x 2#16 (Or.inr (by decide))
  have htwo : (2#16).toInt = 2 := by decide
  rw [← htwo, ← h, BitVec.ofInt_toInt]

/-- The slot of a missing frame (R125). -/
def Voice.fillSlot (v : Voice) : Slot :=
  match v.last with
  | some samples =>
    if v.fills ≤ 2 then Slot.audio (samples.map fun x => BitVec.ofInt 16 (x.toInt.tdiv 2)) else Slot.silence
  | none => Slot.silence

theorem fill_eq (v : Voice) :
    v.fill =
      { v with
        fills := min (v.fills + 1) 65535, slot := v.fillSlot
        counts := { v.counts with fills := min (v.counts.fills + 1) 4294967295 } } := by
  have hfew : up16 v.fills ≤ repeatFills ↔ v.fills ≤ 2 := by
    simp only [up16, max16, repeatFills]
    omega
  have hhalved : halved = fun x => BitVec.ofInt 16 (x.toInt.tdiv 2) := funext halved_eq
  have hslot : v.fill.slot = v.fillSlot := by
    unfold Voice.fillSlot
    cases h : v.last with
    | none => simp only [Voice.fill, h]
    | some samples => simp only [Voice.fill, h, hfew, hhalved]
  exact congrArg
    (fun slot =>
      { v with
        fills := min (v.fills + 1) 65535, slot := slot
        counts := { v.counts with fills := min (v.counts.fills + 1) 4294967295 } }) hslot

section Slots

variable {v : Voice} {f : VoiceFrame} {fs : List VoiceFrame} {r : Seq16}

theorem playSlot_of_next (hq : v.queue = f :: fs) (hf : f.seq = v.position.getD 0 + 1) :
    v.playSlot =
      { v with
        queue := fs, position := some f.seq, last := some f.samples, fills := 0, underruns := 0
        slot := .audio f.samples, counts := { v.counts with played := min (v.counts.played + 1) 4294967295 } } := by
  simp only [Voice.playSlot, hq, ← hf]
  rfl

theorem playSlot_of_missing (hq : v.queue = f :: fs) (hp : v.position = some r) (hf : f.seq ≠ r + 1) :
    v.playSlot =
      { v with
        position := some (r + 1), fills := min (v.fills + 1) 65535, underruns := 0, slot := v.fillSlot
        counts := { v.counts with fills := min (v.counts.fills + 1) 4294967295 } } := by
  simp only [Voice.playSlot, hq, hp, Option.getD_some, if_neg hf, fill_eq]

/-- The record of an underrun before its fifth in a row. -/
def Voice.underrunning (r : Seq16) (v : Voice) : Voice :=
  { v with
    position := some (r + 1), fills := min (v.fills + 1) 65535, underruns := v.underruns + 1, slot := v.fillSlot
    counts :=
      { v.counts with
        fills := min (v.counts.fills + 1) 4294967295, underruns := min (v.counts.underruns + 1) 4294967295 } }

theorem playSlot_of_empty (hq : v.queue = []) (hp : v.position = some r) :
    v.playSlot =
      if v.underruns + 1 < 5 then v.underrunning r
      else
        { v.underrunning r with
          state := .prefill, position := none, base := none, fills := 0, underruns := 0
          counts :=
            { (v.underrunning r).counts with returns := min (v.counts.returns + 1) 4294967295 } } := by
  have hslot : v.playSlot = ({ v.fill with position := some (r + 1) } : Voice).underrun := by
    simp only [Voice.playSlot, hq, hp, Option.getD_some]
  rw [hslot, fill_eq]
  rfl

theorem playout_of_playing (depth : Nat) (h : v.state = .playing) : v.playout depth = v.playSlot := by
  simp only [Voice.playout, h]

theorem playout_of_gathering {depth : Nat} (h : v.state = .prefill) (hq : v.queue.length < depth ∨ v.queue = []) :
    v.playout depth = { v with slot := .silence } := by
  simp only [Voice.playout, h]
  split
  · rfl
  next hc =>
    refine if_neg (Nat.not_le.mpr (hq.resolve_right ?_))
    rw [hc]
    exact List.cons_ne_nil _ _

theorem playout_of_gathered {depth : Nat} (h : v.state = .prefill) (hq : v.queue = f :: fs) (hd : depth ≤ v.queue.length) :
    v.playout depth =
      { v with
        state := .playing, base := none, queue := fs, position := some f.seq, last := some f.samples
        fills := 0, underruns := 0, slot := .audio f.samples
        counts := { v.counts with played := min (v.counts.played + 1) 4294967295 } } := by
  let w : Voice := { v with state := .playing, position := some (f.seq - 1), base := none }
  have hplay : v.playout depth = w.playSlot := by
    rw [hq] at hd
    simp only [Voice.playout, h, hq, if_pos hd, w]
  rw [hplay]
  exact playSlot_of_next (v := w) hq (BitVec.sub_add_cancel f.seq 1).symm

end Slots

/-! ## The frame clock (R118, R127) -/

/-- The tick's capture frame, behind the playout step. -/
def Voice.captured (t now : Nat) (audio : Samples) (v v' : Voice) : Voice :=
  { v' with
    tickAt := some (t + 10)
    capture := (if 3 ≤ v.capture.length then v.capture.tail else v.capture)
      ++ [{ seq := v.captureSeq, samples := audio, producedAt := now }]
    captureSeq := v.captureSeq + 1
    counts :=
      { v'.counts with
        produced := min (v.counts.produced + 1) 4294967295
        discarded := if 3 ≤ v.capture.length then min (v.counts.discarded + 1) 4294967295 else v.counts.discarded } }

theorem produce_eq {t now : Nat} {audio : Samples} {v v' : Voice} (hc : v'.capture = v.capture)
    (hs : v'.captureSeq = v.captureSeq) (hp : v'.counts.produced = v.counts.produced)
    (hd : v'.counts.discarded = v.counts.discarded) :
    { v'.produce audio now with tickAt := some (t + 10) } = v.captured t now audio v' := by
  unfold Voice.captured
  rw [← hc, ← hs, ← hp, ← hd]
  rfl

theorem nextTick_of_connected {q : Port} {t : Nat} (hs : q.state = .connected) (ht : q.voice.tickAt = some t) :
    q.nextTick = some t := (if_pos hs).trans ht

theorem nextTick_of_none {q : Port} (h : q.state ≠ .connected ∨ q.voice.tickAt = none) : q.nextTick = none := by
  unfold Port.nextTick
  split
  · exact h.resolve_left (not_not_intro ‹_›)
  · rfl

theorem frameTick_of_none {p : PortId} {audio : Samples} {s : State} (h : (s.port p).nextTick = none) :
    frameTick p audio s = s := by
  simp only [frameTick, onExpiry, h]

theorem frameTick_of_due {p : PortId} {audio : Samples} {s : State} {t : Nat} {v' : Voice}
    (hs : (s.port p).state = .connected) (ht : (s.port p).voice.tickAt = some t)
    (hv : { ((s.port p).voice.playout (s.port p).settings.prefill).produce audio (max s.clock t) with
      tickAt := some (t + 10) } = v') :
    frameTick p audio s = ({ s with clock := max s.clock t } : State).onPort p fun q => { q with voice := v' } := by
  simp only [frameTick, onExpiry, nextTick_of_connected hs ht]
  refine onPort_congr (congrArg (fun x => { s.port p with voice := x }) ?_)
  refine Eq.trans (congrArg (fun x => { Voice.produce audio (max s.clock t) _ with tickAt := x }) ?_) hv
  exact congrArg (Option.map _) ht

theorem event_congr {f g : State → State} {s : State} (h : f s = g s) : event f s = event g s := by
  rw [event, event, whenAlive, whenAlive, h]

theorem atUnderrunLimit_iff (q : Port) :
    q.atUnderrunLimit = true ↔
      q.state = .connected ∧ q.voice.state = .playing ∧ q.voice.queue = [] ∧ q.voice.underruns = 4 := by
  simp [Port.atUnderrunLimit, underrunMax]

/-! ## The audio to the phone (R97) -/

theorem toPhone_onPort_capture {p : PortId} {s : State} {f : Port → Port} (hs : (f (s.port p)).state = (s.port p).state) :
    (s.onPort p f).toPhone p =
      { playout := if (s.port p).state = .connected then (f (s.port p)).voice.slot else .nothing, tone := s.toneOn p } := by
  have htone : (s.onPort p f).toneOn p = s.toneOn p := by cases p <;> rfl
  rw [State.toPhone, State.onPort_port, hs, htone]

/-- What the phone hears behind a tick does not depend on the audio captured. -/
theorem frameTick_toPhone (p : PortId) (audio audio' : Samples) (s : State) :
    (frameTick p audio s).toPhone p = (frameTick p audio' s).toPhone p := by
  cases h : (s.port p).nextTick with
  | none => rw [frameTick_of_none h, frameTick_of_none h]
  | some t =>
    simp only [frameTick, onExpiry, h]
    rw [toPhone_onPort_capture rfl, toPhone_onPort_capture rfl]
    rfl

section Tone

variable {p : PortId} {s : State}

theorem toneOn_of_none (h : (s.seq p).run = none) : s.toneOn p = none := by simp only [State.toneOn, h]

variable {r : SeqRun} (h : (s.seq p).run = some r)
include h

theorem toneOn_of_still (hr : r.phase ≠ .running) (hp : r.phase ≠ .pausing) : s.toneOn p = none := by
  simp only [State.toneOn, h]
  exact if_neg (by simp [hr, hp])

theorem toneOn_of_tone {n : Nat} (hp : r.phase = .running ∨ r.phase = .pausing)
    (hk : (s.segmentOf r).kind = .tone n) : s.toneOn p = s.sst.contents.tones[n]? := by
  simp only [State.toneOn, h, hk]
  exact if_pos (by simpa using hp)

theorem toneOn_of_other (hk : ∀ n, (s.segmentOf r).kind ≠ .tone n) : s.toneOn p = none := by
  simp only [State.toneOn, h]
  split
  · rfl
  · rfl

end Tone

/-- Settles O48. -/
theorem frameClockTicks : Obligations.FrameClockTicks := by
  refine ⟨fun p audio s ha => ?ticks, fun p s => ?hears, fun p audio audio' s ha => ?same⟩
  case same =>
    exact ⟨frameTick p audio s, frameTick p audio' s, does_of_event ha rfl rfl, does_of_event ha rfl rfl,
      frameTick_toPhone p audio audio' s⟩
  case hears =>
    intro heard
    refine ⟨toneOn_of_none, fun r h => ⟨toneOn_of_still h, fun n hp hk => toneOn_of_tone h hp hk, toneOn_of_other h⟩,
      fun h => if_pos h, fun h => if_neg h⟩
  case ticks =>
    intro q v c halve
    refine ⟨fun h => does_of_event ha rfl (frameTick_of_none (nextTick_of_none h)), fun t hs ht => ?_, fun h => ?_⟩
    · intro u caught full plays fillSlot
      have does {v' : Voice} (hv : v.playout q.settings.prefill = v') (hc : v'.capture = v.capture)
          (hq : v'.captureSeq = v.captureSeq) (hp : v'.counts.produced = c.produced)
          (hd : v'.counts.discarded = c.discarded) : plays v' :=
        does_of_event ha rfl (frameTick_of_due hs ht ((congrArg
          (fun x : Voice => { x.produce audio (max s.clock t) with tickAt := some (t + 10) }) hv).trans
            (produce_eq hc hq hp hd)))
      have hfill : v.fillSlot = fillSlot := rfl
      refine ⟨fun h hq => does (playout_of_gathering h hq) rfl rfl rfl rfl,
        fun f fs h hq hd => does (playout_of_gathered h hq hd) rfl rfl rfl rfl,
        fun f fs r h hq hr => ⟨fun hf => ?_, fun hf => ?_⟩, fun r h hq hr => ?_, fun h hq hn => ?_⟩
      · exact does ((playout_of_playing _ h).trans (playSlot_of_next hq (by rw [hr]; exact hf))) rfl rfl rfl rfl
      · exact does ((playout_of_playing _ h).trans (playSlot_of_missing hq hr hf)) rfl rfl rfl rfl
      · have hplay := (playout_of_playing q.settings.prefill h).trans (playSlot_of_empty hq hr)
        exact ⟨fun hn => does (hplay.trans (if_pos (Nat.succ_lt_succ hn))) rfl rfl rfl rfl,
          fun hn => does (hplay.trans (if_neg (Nat.not_lt.mpr (Nat.succ_le_succ hn)))) rfl rfl rfl rfl⟩
      · have htick : (if q.atUnderrunLimit then frameTick p audio s else s) = frameTick p audio s :=
          if_pos ((atUnderrunLimit_iff q).mpr ⟨hs, h, hq, hn⟩)
        have hlimit : exec (.underrunLimit p audio) s
            = event (fun s => if (s.port p).atUnderrunLimit then frameTick p audio s else s) s := rfl
        have hframe : exec (.frameTick p audio) s = event (frameTick p audio) s := rfl
        exact hlimit.trans ((event_congr htick).trans hframe.symm)
    · refine does_of_event ha rfl (if_neg fun hl => ?_)
      obtain ⟨h1, h2, h3, h4⟩ := (atUnderrunLimit_iff _).mp hl
      rcases h with h | h | h | h
      · exact h h1
      · exact h h2
      · exact h h3
      · exact h h4

end Sys2Proof.Machine
end

section
/-! PROOFS. Chapter 07: test requests (R134 to R136), and the release PAC asks for (R5). -/

namespace Sys2Proof.Machine
open Sys2Proof

/-! ## Kinds by their numbers -/

theorem nth_allTestKinds (kind : TestKind) : nth allTestKinds kind.ctorIdx = some kind := by cases kind <;> rfl

theorem testKind_ctorIdx_inj {a b : TestKind} (h : a.ctorIdx = b.ctorIdx) : a = b :=
  Option.some.inj ((nth_allTestKinds a).symm.trans (h ▸ nth_allTestKinds b))

theorem nth_allTestKinds_eq_none {n : Nat} (h : 3 < n) : nth allTestKinds n = none :=
  List.getElem?_eq_none (Nat.succ_le_of_lt h)

theorem exists_testKind {n : Nat} (h : n ≤ 3) : ∃ kind : TestKind, kind.ctorIdx = n := by
  obtain rfl | rfl | rfl | rfl : n = 0 ∨ n = 1 ∨ n = 2 ∨ n = 3 := by omega
  · exact ⟨.foreignVoltage, rfl⟩
  · exact ⟨.insulation, rfl⟩
  · exact ⟨.capacitance, rfl⟩
  · exact ⟨.quietNoise, rfl⟩

theorem hostOf_iff {kind : TestKind} {e : TestEntry} :
    TestEntry.hostOf kind e = true ↔ e.kind.ctorIdx = kind.ctorIdx ∧ e.origin = .host := by
  rw [TestEntry.hostOf, Bool.and_eq_true, decide_eq_true_eq, decide_eq_true_eq]
  exact and_congr_left fun _ => ⟨fun h => congrArg _ h, testKind_ctorIdx_inj⟩

/-! ## The first entry that meets a condition -/

section First

variable {α : Type} {f : α → Bool} {before after : List α} {e : α} (he : f e = true) (hb : ∀ x ∈ before, f x = false)
include he hb

theorem find?_of_first : (before ++ e :: after).find? f = some e :=
  List.find?_eq_some_iff_append.mpr ⟨he, before, after, rfl, fun x hx => by simp [hb x hx]⟩

theorem findIdx?_of_first : (before ++ e :: after).findIdx? f = some before.length := by
  induction before with
  | nil => rw [List.nil_append, List.findIdx?_cons, if_pos he]; rfl
  | cons x xs ih =>
    obtain ⟨hx, hxs⟩ := List.forall_mem_cons.mp hb
    rw [List.cons_append, List.findIdx?_cons, if_neg (Bool.eq_false_iff.mp hx), ih hxs]
    rfl

end First

theorem placeOf_of_first {kind : TestKind} {s : State} {before after : List TestEntry} {e : TestEntry}
    (hq : s.ltu.queue = before ++ e :: after) (he : TestEntry.hostOf kind e = true)
    (hb : ∀ x ∈ before, TestEntry.hostOf kind x = false) : s.placeOf kind = before.length + 1 := by
  rw [State.placeOf, hq, findIdx?_of_first he hb, Option.getD_some]

/-! ## The head asks for the pair (R4, R5, R136) -/

/-- A head asks for a pair that is not to be had (R4, R6); PAC then looks whether to ask for a release (R5). -/
theorem claimHead_of_asking {s : State} {e : TestEntry} {rest : List TestEntry} (hq : s.ltu.queue = e :: rest)
    (hg : s.testGrantable = false) :
    claimHead s =
      askRelease
        { s with
          ltu := { s.ltu with queue := { e with phase := .claiming } :: rest }
          pac :=
            { s.pac with
              test := { state := .waiting, since := s.uptime }
              testInfo := some { job := e.job, origin := e.origin, disruptive := e.disruptive }
              waitEnd := some (s.clock + 300000), testRelayClosed := false } } := by
  let claiming : State := s.onLtu fun l => { l with queue := { e with phase := .claiming } :: rest }
  have hclaim : claimTest { e with phase := .claiming } claiming = _ := if_neg (Bool.eq_false_iff.mp hg)
  have hhead : claimHead s = askRelease (claimTest { e with phase := .claiming } claiming) := by
    simp only [claimHead, hq]
    rfl
  rw [hhead, hclaim]
  rfl

/-- A head is granted the pair (R4). -/
theorem claimHead_of_grantable {s : State} {e : TestEntry} {rest : List TestEntry} (hq : s.ltu.queue = e :: rest)
    (hg : s.testGrantable = true) :
    claimHead s =
      { s with
        ltu :=
          { s.ltu with
            queue := { e with phase := .settle } :: rest, run := some (TestRun.start e.kind (s.clock + 50)) }
        pac :=
          { s.pac with
            test := { state := .held, since := s.uptime }
            testInfo := some { job := e.job, origin := e.origin, disruptive := e.disruptive }
            releaseAsked := false, waitEnd := none, testRelayClosed := true } } := by
  let claiming : State := s.onLtu fun l => { l with queue := { e with phase := .claiming } :: rest }
  have hclaim : claimTest e claiming = grantTest (claiming.onPac fun p =>
      { p with testInfo := some { job := e.job, origin := e.origin, disruptive := e.disruptive } }) := if_pos hg
  have hhead : claimHead s = askRelease (claimTest e claiming) := by simp only [claimHead, hq, claiming]
  rw [hhead, askRelease_of_mild (Or.inl _), hclaim]
  · rfl
  · rw [hclaim]
    exact ClaimState.noConfusion

/-- What makes PAC ask LKS for the pair (R5). -/
def State.asksRelease (s : State) : Prop :=
  s.pac.test.state = .waiting ∧ (∃ i, s.pac.testInfo = some i ∧ i.disruptive = true)
    ∧ s.pac.link.state = .held ∧ s.hpc1.state ≠ .connected ∧ s.hpc2.state ≠ .connected ∧ s.pac.releaseAsked = false

theorem asksRelease_iff (s : State) :
    ((s.pac.test.state = .waiting && (match s.pac.testInfo with | some i => i.disruptive | none => false))
      && (s.pac.link.state = .held && (s.noCall && !s.pac.releaseAsked))) = true ↔ s.asksRelease := by
  unfold State.asksRelease
  cases s.pac.testInfo <;> simp [State.noCall, and_assoc]

theorem askRelease_of_asks {s : State} (h : s.asksRelease) :
    askRelease s = releaseRequest { s with pac := { s.pac with releaseAsked := true } } :=
  if_pos ((asksRelease_iff s).mpr h)

theorem askRelease_of_not_asks {s : State} (h : ¬s.asksRelease) : askRelease s = s :=
  if_neg (mt (asksRelease_iff s).mp h)

/-- The pair given up by the link, before a waiting test is looked at. -/
def freedAttempt (s : State) : State :=
  { s with
    lks := { s.lks with trial := none, greetingEnd := none, trainingEnd := none }
    pac := { s.pac with link := { state := .free, since := s.uptime } } }

/-- An attempt that gives up the pair while a test waits (R1, R3, R26). -/
theorem abandonAttempt_of_waiting {s : State} (hl : s.pac.link.state = .held) (ht : s.pac.test.state = .waiting) :
    abandonAttempt s = if (freedAttempt s).testGrantable then grantTest (freedAttempt s) else freedAttempt s := by
  have hgive : abandonAttempt s = reexamine (freedAttempt s) := if_neg (by rw [trialEnd]; simp [State.onLks, hl])
  rw [hgive]
  cases hg : (freedAttempt s).testGrantable with
  | true => exact if_pos (Bool.and_eq_true_iff.mpr ⟨decide_eq_true ht, hg⟩)
  | false => exact reexamine_of_blocked (fun _ => hg) fun h => absurd h ClaimState.noConfusion

end Sys2Proof.Machine
end

section
/-! PROOFS. Chapter 07: TEST_REQUEST and TEST_CANCEL (R134, R141, R145). -/

namespace Sys2Proof.Machine
open Sys2Proof

/-! ## The queue behind a release request (R5) -/

theorem dropOrderly_ltu (r : DropReason) (dest : ReleaseDest) (wait : Option Nat) (s : State) :
    (dropOrderly r dest wait s).ltu = s.ltu := by
  unfold dropOrderly
  dsimp only
  rw [leaveCarrying_eq]
  simp [countDrop]

theorem grantTest_of_head {s : State} {e : TestEntry} {rest : List TestEntry} (hq : s.ltu.queue = e :: rest) :
    grantTest s =
      { s with
        pac :=
          { s.pac with
            test := { state := .held, since := s.uptime }, releaseAsked := false, waitEnd := none
            testRelayClosed := true }
        ltu :=
          { s.ltu with
            queue := { e with phase := .settle } :: rest, run := some (TestRun.start e.kind (s.clock + 50)) } } := by
  have hsettle : Ltu.settle (s.clock + 50) s.ltu =
      { s.ltu with
        queue := { e with phase := .settle } :: rest, run := some (TestRun.start e.kind (s.clock + 50)) } := by
    simp only [Ltu.settle, hq]
  rw [← hsettle]
  rfl

theorem releaseRequest_of_carrying {s : State} (h : s.lks.state = .carrying) :
    releaseRequest s = dropByReason .test .waiting s := by
  simp only [releaseRequest, h]

section Asked

variable {s : State} (h : s.asksRelease)
include h

theorem askRelease_of_carrying (hk : s.lks.state = .carrying) :
    askRelease s =
      dropOrderly .test .waiting none
        { s with pac := { s.pac with releaseAsked := true }, lks := { s.lks with trial := none } } := by
  rw [askRelease_of_asks h]
  exact releaseRequest_of_carrying hk

theorem askRelease_of_idle (hk : s.lks.state ≠ .carrying ∧ s.lks.state ≠ .greeting ∧ s.lks.state ≠ .training) :
    askRelease s = { s with pac := { s.pac with releaseAsked := true } } := by
  obtain ⟨h1, h2, h3⟩ := hk
  rw [askRelease_of_asks h]
  unfold releaseRequest
  split
  · exact absurd ‹_› h1
  · exact absurd ‹_› h2
  · exact absurd ‹_› h3
  · rfl

theorem askRelease_of_attempt (hk : s.lks.state = .greeting ∨ s.lks.state = .training) :
    let freed := freedAttempt { s with pac := { s.pac with releaseAsked := true } }
    askRelease s = beginAttempt .other (if freed.testGrantable then grantTest freed else freed) := by
  intro freed
  obtain ⟨ht, -, hl, -⟩ := id h
  have hgive : abandonAttempt { s with pac := { s.pac with releaseAsked := true } } =
      if freed.testGrantable then grantTest freed else freed := abandonAttempt_of_waiting hl ht
  rw [askRelease_of_asks h, ← hgive]
  rcases hk with hk | hk <;> simp only [releaseRequest, hk]

end Asked

/-- A release request leaves the queue as it is, but for the head that is granted by it. -/
theorem askRelease_queue {s : State} {e : TestEntry} {rest : List TestEntry} (hq : s.ltu.queue = e :: rest) :
    ∃ phase, (askRelease s).ltu.queue = { e with phase := phase } :: rest := by
  have hsame {t : State} (ht : t.ltu = s.ltu) : ∃ phase, t.ltu.queue = { e with phase := phase } :: rest :=
    ⟨e.phase, by rw [ht, hq]⟩
  by_cases h : s.asksRelease
  · by_cases hc : s.lks.state = .carrying
    · exact hsame (by rw [askRelease_of_carrying h hc, dropOrderly_ltu])
    · by_cases ha : s.lks.state = .greeting ∨ s.lks.state = .training
      · let freed := freedAttempt { s with pac := { s.pac with releaseAsked := true } }
        have hfreed : freed.ltu.queue = e :: rest := hq
        rw [askRelease_of_attempt h ha]
        obtain ⟨-, -, -, -, -, hltu, -⟩ :=
          (beginAttempt_besideLink .other (if freed.testGrantable then grantTest freed else freed)).fields
        rw [hltu]
        split
        · exact ⟨.settle, by rw [grantTest_of_head hfreed]⟩
        · exact hsame rfl
      · obtain ⟨h1, h2⟩ := not_or.mp ha
        exact hsame (by rw [askRelease_of_idle h ⟨hc, h1, h2⟩])
  · exact hsame (by rw [askRelease_of_not_asks h])

/-- So does a head that asks for the pair. -/
theorem claimHead_queue {s : State} {e : TestEntry} {rest : List TestEntry} (hq : s.ltu.queue = e :: rest) :
    ∃ phase, (claimHead s).ltu.queue = { e with phase := phase } :: rest := by
  cases hg : s.testGrantable with
  | true => exact ⟨.settle, by rw [claimHead_of_grantable hq hg]⟩
  | false =>
    rw [claimHead_of_asking hq hg]
    obtain ⟨phase, h⟩ := askRelease_queue (s := { s with
      ltu := { s.ltu with queue := { e with phase := .claiming } :: rest }
      pac :=
        { s.pac with
          test := { state := .waiting, since := s.uptime }
          testInfo := some { job := e.job, origin := e.origin, disruptive := e.disruptive }
          waitEnd := some (s.clock + 300000), testRelayClosed := false } }) rfl
    exact ⟨phase, h⟩

/-! ## TEST_REQUEST (R134) -/

theorem testRequest_answers {tag k r d : Byte} {rest : List Byte} {s t : State} {ans : Answer} (hs : s.ready)
    (hb : testRequestRequest (k.toNat, r.toNat, d.toNat) s.heard = (ans, t)) :
    Answers (.testRequest tag (k :: r :: d :: rest)) tag 0x40 s ans t :=
  answers_of_body (decode := arg888) (body := testRequestRequest) (a := (k.toNat, r.toNat, d.toNat)) hs rfl rfl hb

section Request

variable {kind : TestKind} {n r d : Nat} {s : State}

theorem testRequestRequest_of_bad (h : ¬(n ≤ 3 ∧ 1 ≤ r ∧ r ≤ 16 ∧ d ≤ 1)) :
    testRequestRequest (n, r, d) s = (Answer.refuse .badArgument, s) := by
  unfold testRequestRequest
  split
  · rfl
  next kind hk =>
    refine if_neg fun hok => h ⟨?_, ?_⟩
    · exact Nat.not_lt.mp fun hn => Option.some_ne_none kind (hk.symm.trans (nth_allTestKinds_eq_none hn))
    · simpa [repeatsOk, and_assoc] using hok

theorem testRequestRequest_of_formed (hk : kind.ctorIdx = n) (h : 1 ≤ r ∧ r ≤ 16 ∧ d ≤ 1) :
    testRequestRequest (n, r, d) s =
      (testReply kind (requestTest kind .host r (d = 1) s).1 (requestTest kind .host r (d = 1) s).2,
        (requestTest kind .host r (d = 1) s).2) := by
  obtain ⟨h1, h2, h3⟩ := h
  subst hk
  simp only [testRequestRequest, nth_allTestKinds]
  exact if_pos (by simp [repeatsOk, h1, h2, h3])

/-- A request of a kind that waits already. -/
theorem testRequestRequest_of_merged {before after : List TestEntry} {e : TestEntry} (hk : kind.ctorIdx = n)
    (h : 1 ≤ r ∧ r ≤ 16 ∧ d ≤ 1) (hst : s.psv.stage ≠ .conserve ∧ s.psv.stage ≠ .lifeline)
    (hq : s.ltu.queue = before ++ e :: after) (he : TestEntry.hostOf kind e = true)
    (hb : ∀ x ∈ before, TestEntry.hostOf kind x = false) :
    testRequestRequest (n, r, d) s =
      (Answer.with .accepted (0x01 :: u8 e.job ++ u8 e.repeats ++ flag e.disruptive ++ u8 (before.length + 1)), s) := by
  have hfind : s.ltu.queue.find? (TestEntry.hostOf kind) = some e := by rw [hq, find?_of_first he hb]
  have hrequest : requestTest kind .host r (d = 1) s = (.accepted .merged e.job, s) := by
    refine (requestTest_of_allowed hst).trans ?_
    have hfind' : s.ltu.queue.find? (fun e => e.kind = kind && e.origin = .host) = some e := hfind
    rw [hfind']
  rw [testRequestRequest_of_formed hk h, hrequest]
  simp only [testReply, hfind, placeOf_of_first hq he hb, Option.map_some, Option.getD_some]
  rfl

variable (hk : kind.ctorIdx = n) (h : 1 ≤ r ∧ r ≤ 16 ∧ d ≤ 1)
  (hst : s.psv.stage ≠ .conserve ∧ s.psv.stage ≠ .lifeline)
  (hn : ∀ x ∈ s.ltu.queue, TestEntry.hostOf kind x = false)
include hk h hst hn

theorem testRequestRequest_of_full (hl : 6 ≤ s.ltu.queue.length) :
    testRequestRequest (n, r, d) s = (Answer.refuse .queueFull, s) := by
  have hfind : s.ltu.queue.find? (fun e => e.kind = kind && e.origin = .host) = none :=
    List.find?_eq_none.mpr fun x hx => Bool.eq_false_iff.mp (hn x hx)
  have hrequest : requestTest kind .host r (d = 1) s = (.queueFull, s) := by
    refine (requestTest_of_allowed hst).trans ?_
    rw [hfind]
    exact if_pos hl
  rw [testRequestRequest_of_formed hk h, hrequest]
  rfl

/-- A new entry joins the queue; the head of an empty queue asks for the pair. -/
theorem testRequestRequest_of_new (hl : s.ltu.queue.length < 6) :
    let e : TestEntry :=
      { job := s.ltu.nextJob, kind := kind, origin := .host, repeats := r, disruptive := d = 1
        arrival := s.uptime, phase := .queued }
    let next := if 255 ≤ s.ltu.nextJob then 1 else s.ltu.nextJob + 1
    let joined : State := { s with ltu := { s.ltu with queue := s.ltu.queue ++ [e], nextJob := next } }
    let t := if s.ltu.queue = [] then claimHead joined else joined
    testRequestRequest (n, r, d) s =
      (Answer.with .accepted (0x00 :: u8 s.ltu.nextJob ++ u8 (s.ltu.queue.length + 1)), t) := by
  intro e next joined t
  have hfind : s.ltu.queue.find? (fun e => e.kind = kind && e.origin = .host) = none :=
    List.find?_eq_none.mpr fun x hx => Bool.eq_false_iff.mp (hn x hx)
  have hrequest : requestTest kind .host r (d = 1) s = (.accepted .queued s.ltu.nextJob, t) := by
    refine (requestTest_of_allowed hst).trans ?_
    rw [hfind]
    refine (if_neg (Nat.not_le.mpr hl)).trans ?_
    simp only [List.isEmpty_iff]
    rfl
  have hplace : t.placeOf kind = s.ltu.queue.length + 1 := by
    simp only [t]
    split
    next hempty =>
      have hq : joined.ltu.queue = [e] := congrArg (· ++ [e]) hempty
      obtain ⟨phase, hphase⟩ := claimHead_queue hq
      rw [placeOf_of_first (before := []) hphase (hostOf_iff.mpr ⟨rfl, rfl⟩) (List.forall_mem_nil _), hempty]
    next => exact placeOf_of_first (after := []) rfl (hostOf_iff.mpr ⟨rfl, rfl⟩) hn
  rw [testRequestRequest_of_formed hk h, hrequest]
  simp only [testReply, hplace]
  rfl

end Request

end Sys2Proof.Machine
end

section
/-! PROOFS. Chapter 07: how a test ends (R141, R145). -/

namespace Sys2Proof.Machine
open Sys2Proof

/-! ## The end of the head (R141) -/

theorem freeTest_eq (s : State) :
    freeTest s =
      { s with
        pac :=
          if s.pac.test.state = .free then s.pac
          else
            { s.pac with
              test := { state := .free, since := s.uptime }, testInfo := none, releaseAsked := false, waitEnd := none
              testRelayClosed := false } } := by
  by_cases h : s.pac.test.state = .free
  · rw [freeTest_of_free h, if_pos h]
  · refine (if_neg h).trans ?_
    rw [if_neg h]
    rfl

/-- The head ends: its result, the claim freed, the next head's request, its notice and fault, PAC's look. -/
theorem finishHead_eq {status : TestStatus} {abort : Option AbortReason} {e : TestEntry} {rest : List TestEntry}
    {s : State} (hq : s.ltu.queue = e :: rest) :
    let r := testResult s.sst.contents.tests e s.ltu.run status abort s.uptime
    finishTest true true e status abort s =
      reexamine (testDone r (claimHead (freeTest
        { s with
          ltu :=
            { s.ltu with
              queue := rest, run := none
              results := s.ltu.results.setIfInBounds e.kind.ctorIdx (some r) } }))) := by
  intro r
  have herase : eraseFirst (fun x => decide (x.job = e.job)) s.ltu.queue = rest := by
    rw [hq]
    exact if_pos (decide_eq_true rfl)
  unfold finishTest
  simp only [if_true]
  unfold handOver
  simp only [if_true, State.onLtu, herase]
  rfl

theorem resultFault_of_cancelled {r : TestResult} (h : r.status = .cancelled) (s : State) : resultFault r s = s := by
  simp only [resultFault, h]

theorem testDone_of_cancelled {r : TestResult} (h : r.status = .cancelled) (u : State) :
    testDone r u =
      notice (.testDone r.job r.kind r.origin r.status r.abort r.completed r.repeats r.worst r.uptime) u :=
  resultFault_of_cancelled h _

/-- An entry behind the head is cancelled: its result and its notice. -/
theorem finishTest_of_waiter {before after : List TestEntry} {e : TestEntry} {s : State}
    (hq : s.ltu.queue = before ++ e :: after) (hb : ∀ x ∈ before, x.job ≠ e.job) :
    let record : TestResult :=
      { job := e.job, kind := e.kind, origin := e.origin, status := .cancelled, abort := some .hostCancel
        repeats := e.repeats, completed := 0, values := [], length := none, worst := none, uptime := s.uptime }
    finishTest false true e .cancelled (some .hostCancel) s =
      notice (.testDone e.job e.kind e.origin .cancelled (some .hostCancel) 0 e.repeats none s.uptime)
        { s with
          ltu :=
            { s.ltu with
              results := s.ltu.results.setIfInBounds e.kind.ctorIdx (some record), queue := before ++ after } } := by
  intro record
  have herase : eraseFirst (fun x => decide (x.job = e.job)) s.ltu.queue = before ++ after := by
    rw [hq]
    exact eraseFirst_of_first (decide_eq_true rfl) fun x hx => decide_eq_false (hb x hx)
  have hrecord : testResult s.sst.contents.tests e none .cancelled (some .hostCancel) s.uptime = record := by
    obtain ⟨job, kind, origin, repeats, disruptive, arrival, phase⟩ := e
    cases kind <;> rfl
  unfold finishTest
  simp only [Bool.false_eq_true, if_false, hrecord, State.onLtu, herase]
  rfl

/-! ## TEST_CANCEL (R145) -/

theorem testCancel_answers {tag job : Byte} {rest : List Byte} {s t : State} {ans : Answer} (hs : s.ready)
    (hb : testCancelRequest job.toNat s.heard = (ans, t)) : Answers (.testCancel tag (job :: rest)) tag 0x41 s ans t :=
  answers_of_body (decode := arg8) (body := testCancelRequest) hs rfl rfl hb

theorem testCancelRequest_of_found {job : Nat} {before after : List TestEntry} {e : TestEntry} {s : State} (hj : job ≠ 0)
    (hq : s.ltu.queue = before ++ e :: after) (he : e.job = job) (hb : ∀ x ∈ before, x.job ≠ job) :
    testCancelRequest job s = (Answer.ok, finishTest (s.isHead e) true e .cancelled (some .hostCancel) s) := by
  have hfind : s.ltu.queue.find? (fun e => e.job = job) = some e := by
    rw [hq]
    exact find?_of_first (decide_eq_true he) fun x hx => decide_eq_false (hb x hx)
  refine (if_neg hj).trans ?_
  rw [hfind]

theorem testCancelRequest_of_unknown {job : Nat} {s : State} (hj : job ≠ 0) (h : ∀ e ∈ s.ltu.queue, e.job ≠ job) :
    testCancelRequest job s = (Answer.refuse .wrongState, s) := by
  refine (if_neg hj).trans ?_
  rw [List.find?_eq_none.mpr fun x hx => by simpa using h x hx]

/-! ## The head cancelled (R141, R145) -/

/-- The claim as the head leaves it. -/
def freedPac (s : State) : Pac :=
  if s.pac.test.state = .free then s.pac
  else
    { s.pac with
      test := { state := .free, since := s.uptime }, testInfo := none, releaseAsked := false, waitEnd := none
      testRelayClosed := false }

theorem freedPac_fields (s : State) :
    (freedPac s).test.state = .free ∧ (freedPac s).link = s.pac.link ∧ (freedPac s).lifeline = s.pac.lifeline
      ∧ (freedPac s).hazardEnd = s.pac.hazardEnd ∧ (freedPac s).ringSession = s.pac.ringSession := by
  unfold freedPac
  split
  next h => exact ⟨h, rfl, rfl, rfl, rfl⟩
  next => exact ⟨rfl, rfl, rfl, rfl, rfl⟩

/-- A test's end with none behind it leaves the pair to a waiting link (R1, R3). -/
theorem reexamine_of_last {u : State} (ht : u.pac.test.state = .free) :
    (u.pac.link.state = .waiting → u.pac.hazardEnd = none → reexamine u = grantLink u)
      ∧ (u.pac.link.state ≠ .waiting ∨ u.pac.hazardEnd ≠ none → reexamine u = u) := by
  have hnot : u.pac.test.state ≠ .waiting := by rw [ht]; decide
  refine ⟨fun hl hz => ?_, fun h => reexamine_of_blocked (fun h => absurd h hnot) fun hl => ?_⟩
  · refine (if_neg fun h => hnot (of_decide_eq_true (Bool.and_eq_true_iff.mp h).1)).trans (if_pos ?_)
    exact Bool.and_eq_true_iff.mpr ⟨decide_eq_true hl, (linkGrantable_iff u).mpr ⟨ht, hz⟩⟩
  · refine Bool.eq_false_iff.mpr fun hg => ?_
    exact h.elim (fun h => h hl) fun h => h ((linkGrantable_iff u).mp hg).2

/-- While a test holds the pair nothing is granted. -/
theorem reexamine_of_held {u : State} (ht : u.pac.test.state = .held) : reexamine u = u := by
  refine reexamine_of_blocked (fun h => ?_) fun _ => ?_
  · exact absurd (ht.symm.trans h) ClaimState.noConfusion
  · refine Bool.eq_false_iff.mpr fun hg => ?_
    exact absurd (ht.symm.trans ((linkGrantable_iff u).mp hg).1) ClaimState.noConfusion

/-- A waiting test that is not granted keeps a waiting link behind it. -/
theorem reexamine_of_waiting {u : State} (ht : u.pac.test.state = .waiting) (hg : u.testGrantable = false) :
    reexamine u = u := by
  refine reexamine_of_blocked (fun _ => hg) fun _ => Bool.eq_false_iff.mpr fun hl => ?_
  exact absurd (ht.symm.trans ((linkGrantable_iff u).mp hl).1) ClaimState.noConfusion

/-- What PAC's release request does, by its conditions (R5). -/
theorem askRelease_cases (s : State) :
    let asks := s.pac.test.state = .waiting ∧ (∃ i, s.pac.testInfo = some i ∧ i.disruptive = true)
      ∧ s.pac.link.state = .held ∧ s.hpc1.state ≠ .connected ∧ s.hpc2.state ≠ .connected ∧ s.pac.releaseAsked = false
    let u : State := { s with pac := { s.pac with releaseAsked := true } }
    let freed : State :=
      { u with
        lks := { s.lks with trial := none, greetingEnd := none, trainingEnd := none }
        pac := { u.pac with link := { state := .free, since := s.uptime } } }
    (¬asks → askRelease s = s)
      ∧ (asks →
          (s.lks.state = .carrying →
              askRelease s = dropOrderly .test .waiting none { u with lks := { s.lks with trial := none } })
            ∧ (s.lks.state = .releasing → askRelease s = u)
            ∧ (s.lks.state = .greeting ∨ s.lks.state = .training →
                (freed.testGrantable = false → askRelease s = beginAttempt .other freed)
                  ∧ (∀ e rest, freed.testGrantable = true → s.ltu.queue = e :: rest →
                      askRelease s
                        = beginAttempt .other
                            { freed with
                              pac :=
                                { freed.pac with
                                  test := { state := .held, since := s.uptime }, releaseAsked := false
                                  waitEnd := none, testRelayClosed := true }
                              ltu :=
                                { s.ltu with
                                  queue := { e with phase := .settle } :: rest
                                  run := some (TestRun.start e.kind (s.clock + 50)) } }))) := by
  intro asks u freed
  refine ⟨askRelease_of_not_asks, fun h => ⟨askRelease_of_carrying h, fun hk => ?_, fun hk => ⟨fun hg => ?_,
    fun e rest hg hq => ?_⟩⟩⟩
  · exact askRelease_of_idle h (by rw [hk]; decide)
  · exact (askRelease_of_attempt h hk).trans (congrArg (beginAttempt .other) (if_neg (Bool.eq_false_iff.mp hg)))
  · refine (askRelease_of_attempt h hk).trans (congrArg (beginAttempt .other) ?_)
    exact (if_pos hg).trans (grantTest_of_head (s := freed) hq)

/-- The cancel of the head (R141, R145). -/
theorem headCancelled (e : TestEntry) (rest : List TestEntry) (s : State) (hq : s.ltu.queue = e :: rest) :
    let r := testResult s.sst.contents.tests e s.ltu.run .cancelled (some .hostCancel) s.uptime
    let done := notice
      (.testDone e.job e.kind e.origin .cancelled (some .hostCancel) r.completed e.repeats r.worst s.uptime)
    let ended := finishTest true true e .cancelled (some .hostCancel) s
    let ltu := { s.ltu with run := none, results := s.ltu.results.setIfInBounds e.kind.ctorIdx (some r) }
    let pac := freedPac s
    (rest = [] →
        let t : State := { s with ltu := { ltu with queue := [] }, pac := pac }
        (s.pac.link.state = .waiting → s.pac.hazardEnd = none → ended = grantLink (done t))
          ∧ (s.pac.link.state ≠ .waiting ∨ s.pac.hazardEnd ≠ none → ended = done t))
      ∧ (∀ next more, rest = next :: more →
          let info := some { job := next.job, origin := next.origin, disruptive := next.disruptive : TestClaimInfo }
          let free := s.pac.link.state ≠ .held ∧ s.pac.lifeline.state = .free ∧ s.pac.hazardEnd = none
            ∧ s.pac.ringSession = false
          let waits : State :=
            { s with
              ltu := { ltu with queue := { next with phase := .claiming } :: more }
              pac :=
                { pac with
                  test := { state := .waiting, since := s.uptime }, testInfo := info
                  waitEnd := some (s.clock + 300000), testRelayClosed := false } }
          (free →
              ended
                = done
                    { s with
                      ltu :=
                        { ltu with
                          queue := { next with phase := .settle } :: more
                          run := some (TestRun.start next.kind (s.clock + 50)) }
                      pac :=
                        { pac with
                          test := { state := .held, since := s.uptime }, testInfo := info, releaseAsked := false
                          waitEnd := none, testRelayClosed := true } })
            ∧ (¬free →
                ended = reexamine (done (askRelease waits))
                  ∧ (s.pac.link.state ≠ .held ∨ next.disruptive = false → ended = done waits))) := by
  intro r done ended ltu pac
  let left : State := { s with ltu := { ltu with queue := rest }, pac := pac }
  obtain ⟨htest, hlink, hlifeline, hhazard, hring⟩ := freedPac_fields s
  have hended : ended = reexamine (done (claimHead left)) := by
    have hfree : freeTest { s with ltu := { ltu with queue := rest } } = left := freeTest_eq _
    have hdone := testDone_of_cancelled (r := r) rfl (claimHead left)
    exact (finishHead_eq hq).trans (congrArg reexamine ((congrArg (fun x => testDone r (claimHead x)) hfree).trans hdone))
  have hpac (u : State) : (done u).pac = u.pac := notice_pac _ _
  refine ⟨fun hn => ?_, fun next more hn => ?_⟩
  · intro t
    have hclaim : claimHead left = t := by
      simp only [left, hn]
      rfl
    obtain ⟨hgrant, hkeep⟩ := reexamine_of_last (u := done t) (by rw [hpac]; exact htest)
    rw [hpac] at hgrant hkeep
    rw [hended, hclaim]
    exact ⟨fun hl hz => hgrant (hlink ▸ hl) (hhazard ▸ hz), fun h => hkeep (by rw [hlink, hhazard]; exact h)⟩
  · intro info free waits
    have hqueue : left.ltu.queue = next :: more := hn
    have hgrantable : left.testGrantable = true ↔ free := by
      rw [testGrantable_iff, hlink, hlifeline, hhazard, hring]
    refine ⟨fun hf => ?_, fun hf => ?_⟩
    · rw [hended, claimHead_of_grantable hqueue (hgrantable.mpr hf)]
      exact reexamine_of_held (by rw [hpac])
    · have hg : left.testGrantable = false := Bool.eq_false_iff.mpr (mt hgrantable.mp hf)
      have hask : claimHead left = askRelease waits := claimHead_of_asking hqueue hg
      rw [hended, hask]
      refine ⟨rfl, fun h => ?_⟩
      have hmild : askRelease waits = waits := by
        rcases h with h | h
        · exact askRelease_of_free_link (hlink ▸ h)
        · exact askRelease_of_mild (Or.inr ⟨_, rfl, h⟩)
      rw [hmild]
      refine reexamine_of_waiting (by rw [hpac]) ?_
      rw [State.testGrantable, hpac]
      exact hg

/-- Settles O49. -/
theorem testRequestsAndCancels : Obligations.TestRequestsAndCancels := by
  refine ⟨⟨fun tag k r d rest s hs => ?requests, fun tag job rest s hs => ?cancels⟩, askRelease_cases, fun e rest s hq =>
    headCancelled e rest s hq⟩
  case requests =>
    intro ans l wellFormed allowed
    have answers {a : Answer} {t : State} (h : testRequestRequest (k.toNat, r.toNat, d.toNat) s.heard = (a, t)) : ans a t :=
      testRequest_answers hs h
    refine ⟨fun h => answers (testRequestRequest_of_bad h), fun h hst => ?_, fun before after e ha hq hk ho hb => ?_,
      fun ha hn => ⟨fun hl => ?_, fun kind hk hl => ?_⟩⟩
    · obtain ⟨hk3, hrd⟩ := h
      obtain ⟨kind, hk⟩ := exists_testKind hk3
      refine answers ((testRequestRequest_of_formed hk hrd).trans ?_)
      rw [requestTest_of_stage (s := s.heard) hst]
      rfl
    · obtain ⟨⟨-, hrd⟩, hst⟩ := ha
      refine answers (testRequestRequest_of_merged (s := s.heard) hk hrd hst hq (hostOf_iff.mpr ⟨rfl, ho⟩) fun x hx => ?_)
      exact Bool.eq_false_iff.mpr fun hh => hb x hx (hk ▸ hostOf_iff.mp hh)
    · obtain ⟨⟨hk3, hrd⟩, hst⟩ := ha
      obtain ⟨kind, hk⟩ := exists_testKind hk3
      refine answers (testRequestRequest_of_full (s := s.heard) hk hrd hst (fun x hx => ?_) hl)
      exact Bool.eq_false_iff.mpr fun hh => hn x hx (hk ▸ hostOf_iff.mp hh)
    · obtain ⟨⟨-, hrd⟩, hst⟩ := ha
      intro e next queued claim
      have hnone : ∀ x ∈ s.heard.ltu.queue, TestEntry.hostOf kind x = false := fun x hx =>
        Bool.eq_false_iff.mpr fun hh => hn x hx (hk ▸ hostOf_iff.mp hh)
      have hnew := testRequestRequest_of_new (s := s.heard) hk hrd hst hnone hl
      let joined : State := { s.heard with ltu := { l with queue := l.queue ++ [e], nextJob := next } }
      have hqueue (he : l.queue = []) : joined.ltu.queue = [e] := congrArg (· ++ [e]) he
      refine ⟨fun he => answers (hnew.trans ?_), fun he hg => answers (hnew.trans ?_), fun he hg => answers (hnew.trans ?_)⟩
      · exact congrArg (Prod.mk queued) (if_neg he)
      · refine congrArg (Prod.mk queued) ((if_pos he).trans ?_)
        exact claimHead_of_grantable (s := joined) (hqueue he) hg
      · refine congrArg (Prod.mk queued) ((if_pos he).trans ?_)
        exact claimHead_of_asking (s := joined) (hqueue he) hg
  case cancels =>
    intro ans
    have answers {a : Answer} {t : State} (h : testCancelRequest job.toNat s.heard = (a, t)) : ans a t :=
      testCancel_answers hs h
    have hnum : job ≠ 0x00 → job.toNat ≠ 0 := fun h hj => h (BitVec.eq_of_toNat_eq hj)
    refine ⟨fun h => answers (if_pos (by rw [h]; rfl)), fun h hn => answers (testCancelRequest_of_unknown (hnum h) hn),
      fun e after h hq he => answers ?_, fun head before e after h hq he hne hb => ?_⟩
    · have hhead : s.heard.isHead e = true := by
        refine decide_eq_true ?_
        have hqueue : s.heard.ltu.queue = e :: after := hq
        rw [hqueue, List.head?_cons]
      refine (testCancelRequest_of_found (s := s.heard) (before := []) (hnum h) hq he (List.forall_mem_nil _)).trans ?_
      rw [hhead]
    · intro record
      have hhead : s.heard.isHead e = false := by
        refine decide_eq_false ?_
        have hqueue : s.heard.ltu.queue = head :: before ++ e :: after := hq
        rw [hqueue, List.cons_append, List.head?_cons]
        exact fun heq => hne (Option.some.inj heq).symm
      refine answers ((testCancelRequest_of_found (s := s.heard) (hnum h) hq he hb).trans ?_)
      rw [hhead]
      exact congrArg (Prod.mk Answer.ok) (finishTest_of_waiter (s := s.heard) hq fun x hx => he ▸ hb x hx)

end Sys2Proof.Machine
end

section
/-! PROOFS. Chapter 07: how a test measures (R137 to R141). -/

namespace Sys2Proof.Machine
open Sys2Proof

/-! ## Settling and sampling (R137, R138) -/

theorem measure_of_head {l : Ltu} {run : TestRun} {e : TestEntry} {rest : List TestEntry} (now : Nat)
    (hr : l.run = some run) (hq : l.queue = e :: rest) :
    l.measure now =
      { l with
        queue := { e with phase := .measure } :: rest
        run := some { run with settleEnd := none, sampleAt := some (now + 20) } } := by
  simp only [Ltu.measure, hr, hq, Option.map_some]
  rfl

section Sampling

variable {samples : List Int} {s : State} {run : TestRun} {e : TestEntry} {rest : List TestEntry} {t : Nat}

/-- The run with one more sample of every value. -/
theorem sample_eq (h : run.sampleAt = some t) :
    run.sample samples =
      { run with
        sums := run.sums.zipIdx.map fun x => x.1 + samples.getD x.2 0
        taken := run.taken + 1, sampleAt := some (t + 20) } := by
  rw [TestRun.sample, h]
  rfl

theorem completesRepeat_iff (hr : s.ltu.run = some run) : s.completesRepeat = true ↔ run.taken = 15 := by
  simp [State.completesRepeat, hr, samplesPerRepeat]

variable (hr : s.ltu.run = some run) (hq : s.ltu.queue = e :: rest)
include hr hq

theorem measurePeriod_of_partial (h : (run.sample samples).taken < 16) :
    measurePeriod samples s = s.onLtu fun l => { l with run := some (run.sample samples) } := by
  simp only [measurePeriod, hr, hq]
  exact if_pos (c := (run.sample samples).taken < samplesPerRepeat) h

theorem measurePeriod_of_repeat (h : 16 ≤ (run.sample samples).taken) :
    let done := (run.sample samples).completeRepeat s.sst.contents.tests e.kind
    let t := s.onLtu fun l => { l with run := some done }
    measurePeriod samples s = if done.completed < e.repeats then t else finishTest true true e .complete none t := by
  intro done t
  simp only [measurePeriod, hr, hq]
  exact if_neg (Nat.not_lt.mpr h)

end Sampling

theorem takeSamples_of_none {samples : List Int} {s : State} (h : s.ltu.run.bind (·.sampleAt) = none) :
    takeSamples samples s = s := by
  simp only [takeSamples, onExpiry, h]

theorem takeSamples_of_due {samples : List Int} {s : State} {run : TestRun} {t : Nat} (hr : s.ltu.run = some run)
    (ht : run.sampleAt = some t) : takeSamples samples s = measurePeriod samples { s with clock := max s.clock t } := by
  have hdue : s.ltu.run.bind (·.sampleAt) = some t := by rw [hr, Option.bind_some, ht]
  simp only [takeSamples, onExpiry, hdue]
  rfl

/-! ## Values (R138) -/

theorem roundDiv_sixteen (mode : Rounding) (sum : Int) :
    let q := roundDiv mode sum 16
    (-8 ≤ 16 * q - sum ∧ 16 * q - sum ≤ 8)
      ∧ (mode = .halfUp → 16 * q - sum ≠ -8)
      ∧ (mode = .nearestEven → 16 * q - sum = 8 ∨ 16 * q - sum = -8 → q % 2 = 0) := by
  have hdiv : sum.fdiv (16 : Nat) = sum / 16 := Int.fdiv_eq_ediv_of_nonneg sum (by decide)
  unfold roundDiv
  rw [hdiv]
  dsimp only
  push_cast
  split
  · refine ⟨by omega, fun _ => by omega, fun _ => by omega⟩
  · split
    · refine ⟨by omega, fun _ => by omega, fun _ => by omega⟩
    · cases mode with
      | halfUp => exact ⟨by dsimp only; omega, fun _ => by dsimp only; omega, nofun⟩
      | nearestEven =>
        dsimp only
        split
        · exact ⟨by omega, nofun, fun _ _ => by omega⟩
        · exact ⟨by omega, nofun, fun _ _ => by omega⟩

theorem clamp_cases {lo hi z : Int} (h : lo ≤ hi) :
    (z < lo → clamp lo hi z = (lo, true)) ∧ (hi < z → clamp lo hi z = (hi, true))
      ∧ (lo ≤ z → z ≤ hi → clamp lo hi z = (z, false)) :=
  ⟨fun h1 => if_pos h1, fun h1 => (if_neg (Int.not_lt.mpr (Int.le_trans h (Int.le_of_lt h1)))).trans (if_pos h1),
    fun h1 h2 => (if_neg (Int.not_lt.mpr h1)).trans (if_neg (Int.not_lt.mpr h2))⟩

/-! ## The end of the last test (R141) -/

theorem testDone_pac (r : TestResult) (u : State) : (testDone r u).pac = u.pac := by
  rw [testDone, resultFault_pac, notice_pac]

/-- The only test ends with its measurement complete. -/
theorem finishTest_of_complete {e : TestEntry} {run : TestRun} {s : State} (hq : s.ltu.queue = [e])
    (hr : s.ltu.run = some run) (hh : s.pac.test.state = .held) :
    let record := testResult s.sst.contents.tests e (some run) .complete none s.uptime
    finishTest true true e .complete none s =
      reexamine (testDone record
        { s with
          ltu :=
            { s.ltu with
              queue := [], run := none, results := s.ltu.results.setIfInBounds e.kind.ctorIdx (some record) }
          pac :=
            { s.pac with
              test := { state := .free, since := s.uptime }, testInfo := none, releaseAsked := false
              waitEnd := none, testRelayClosed := false } }) := by
  intro record
  let left : State :=
    { s with
      ltu :=
        { s.ltu with
          queue := [], run := none, results := s.ltu.results.setIfInBounds e.kind.ctorIdx (some record) } }
  have hend := finishHead_eq (status := .complete) (abort := none) hq
  rw [hr] at hend
  refine hend.trans (congrArg (fun x => reexamine (testDone record x)) ?_)
  exact congrArg claimHead (freeTest_of_held (s := left) hh)

/-- Settles O50. -/
theorem testsMeasureAndEnd : Obligations.TestsMeasureAndEnd := by
  refine ⟨fun samples s ha => ?measures, fun mode place sum => ?values, fun e run s hq hr hh => ?ends⟩
  case measures =>
    intro l
    refine ⟨fun h => does_of_idle_timer ha rfl h, fun run e rest t hr ht hq => ?_, fun h => ⟨?_, ?_⟩,
      fun run e rest t hr ht hq => ?_⟩
    · refine does_of_timer ha rfl (e := t) ?_ ?_
      · rw [hr, Option.bind_some, ht]
      · exact congrArg (fun x => { s with clock := max s.clock t, ltu := x }) (measure_of_head _ hr hq)
    · exact does_of_event ha rfl (takeSamples_of_none h)
    · exact does_of_event ha rfl ((congrArg (fun x => if s.completesRepeat then x else s) (takeSamples_of_none h)).trans
        (ite_self _))
    · intro sums with_ completed
      let u : State := { s with clock := max s.clock t }
      have hsample : run.sample samples = { run with sampleAt := some (t + 20), sums := sums, taken := run.taken + 1 } :=
        sample_eq ht
      have hcompleted : (run.sample samples).completeRepeat s.sst.contents.tests e.kind = completed := by
        rw [hsample]
        rfl
      have taken := takeSamples_of_due (samples := samples) hr ht
      have period {v : State} (h : takeSamples samples s = v) : Does (.measurePeriodEnd samples) s v :=
        does_of_event ha rfl h
      have complete {v : State} (h15 : run.taken = 15) (h : takeSamples samples s = v) :
          Does (.repeatComplete samples) s v :=
        does_of_event ha rfl ((if_pos ((completesRepeat_iff hr).mpr h15)).trans h)
      have repeated (h : 15 ≤ run.taken) : takeSamples samples s =
          if completed.completed < e.repeats then with_ completed
          else finishTest true true e .complete none (with_ completed) := by
        refine taken.trans ((measurePeriod_of_repeat (s := u) hr hq ?_).trans ?_)
        · rw [hsample]
          exact Nat.succ_le_succ h
        · rw [← hcompleted]
          rfl
      refine ⟨fun h => ⟨period (taken.trans ?_), ?_⟩, fun h hn => period ((repeated h).trans (if_pos hn)),
        fun h hn => period ((repeated h).trans (if_neg (Nat.not_lt.mpr hn))), fun h =>
          ⟨fun hn => complete h ((repeated (Nat.le_of_eq h.symm)).trans (if_pos hn)),
            fun hn => complete h ((repeated (Nat.le_of_eq h.symm)).trans (if_neg (Nat.not_lt.mpr hn)))⟩⟩
      · refine (measurePeriod_of_partial (s := u) hr hq ?_).trans ?_
        · rw [hsample]
          exact Nat.succ_lt_succ h
        · rw [hsample]
          rfl
      · exact does_of_event ha rfl (if_neg fun hc => absurd ((completesRepeat_iff hr).mp hc) (Nat.ne_of_lt h))
  case values =>
    intro q v lo hi
    obtain ⟨h1, h2, h3⟩ := roundDiv_sixteen mode sum
    exact ⟨h1, h2, h3, clamp_cases⟩
  case ends =>
    intro record ended told
    have hended : ended = reexamine told := finishTest_of_complete hq hr hh
    have hpac : told.pac = _ := testDone_pac _ _
    obtain ⟨hgrant, hkeep⟩ := reexamine_of_last (u := told) (by rw [hpac])
    rw [hended]
    exact ⟨fun h => hkeep (by rw [hpac]; exact h), fun hl hz => hgrant (by rw [hpac]; exact hl) (by rw [hpac]; exact hz)⟩

end Sys2Proof.Machine
end

section
/-! PROOFS. Chapter 08: acknowledgement and the retained record (R156, R158, R160), and the stop in DORMANT (R181). -/

namespace Sys2Proof.Machine
open Sys2Proof

/-! ## FAULT_ACK (R156) -/

theorem ofNat_of_bytes (lo hi : Byte) : BitVec.ofNat 16 (lo.toNat + 256 * hi.toNat) = hi ++ lo := by
  apply BitVec.eq_of_toNat_eq
  have hlo := lo.isLt
  have hhi := hi.isLt
  rw [BitVec.toNat_append, BitVec.toNat_ofNat, ← Nat.shiftLeft_add_eq_or_of_lt hlo, Nat.shiftLeft_eq]
  omega

theorem faultAck_answers {tag : Byte} {args : List Byte} {a : Nat × Nat} {s t : State} {ans : Answer} (hs : s.ready)
    (ha : rdAck args = some a) (hb : faultAckRequest a s.heard = (ans, t)) :
    Answers (.faultAck tag args) tag 0x49 s ans t :=
  answers_of_body (decode := rdAck) (body := faultAckRequest) hs rfl ha hb

theorem rdAck_of_number (lo hi : Byte) (rest : List Byte) :
    rdAck (0x00 :: lo :: hi :: rest) = some (0, lo.toNat + 256 * hi.toNat) := rfl

theorem rdAck_of_other {n : Byte} (rest : List Byte) (h : n.toNat ≠ 0) : rdAck (n :: rest) = some (n.toNat, 0) := by
  simp only [rdAck, rd8, Option.bind_eq_bind, Option.bind_some, if_neg h, Option.pure_def]

theorem faultAckRequest_of_number (lo hi : Byte) (s : State) :
    faultAckRequest (0, lo.toNat + 256 * hi.toNat) s =
      if s.flg.log.any (fun r => r.seq = hi ++ lo) then
        (Answer.ok, s.onFlg (Flg.acknowledge fun r => r.seq = hi ++ lo))
      else (Answer.refuse .wrongState, s) := by
  rw [← ofNat_of_bytes]
  rfl

theorem faultAckRequest_of_unknown {n : Nat} (k : Nat) (s : State) (h : 2 ≤ n) :
    faultAckRequest (n, k) s = (Answer.refuse .badArgument, s) := by
  unfold faultAckRequest
  split
  next heq => exact absurd heq (Nat.ne_of_gt (Nat.lt_of_lt_of_le Nat.zero_lt_two h))
  next heq => exact absurd heq (Nat.ne_of_gt h)
  next => rfl

/-! ## The stop in DORMANT (R181) -/

/-- The two states differ in PAC only. -/
theorem freeTest_besidePac (s : State) : freeTest s = { s with pac := (freeTest s).pac } := by
  rw [freeTest_eq]

/-- The part stopped, but for the relay, the claim and HPC1. -/
theorem stopPart_eq (s : State) :
    stopPart s =
      { s with
        mpt := { s.mpt with rx := .hunt, replies := [], sending := none, notices := [], held := [] }
        pac := (stopPart s).pac
        hpc1 := (stopPart s).hpc1
        sst := { s.sst with image := s.sst.cutImage, store := .idle }
        psv :=
          { s.psv with
            mode := .dormant, stopping := false, wake := none
            dormantWakeAt := if s.psv.mainsInput then some (s.clock + 10000) else none } } := by
  unfold stopPart
  dsimp only
  rw [freeTest_besidePac]
  split <;> rfl

theorem stopPart_relay (s : State) : (stopPart s).pac.relay.pos = .copper := by
  unfold stopPart
  dsimp only
  split <;> rfl

theorem cutImage_of_quiet {t : Sst} (h : t.store.isSaving = false) : t.cutImage = t.image := by
  unfold Sst.cutImage
  cases hs : t.store <;> simp_all [StoreState.isSaving]

/-- Settles O53. -/
theorem faultAckAndRetainedRecord : Obligations.FaultAckAndRetainedRecord := by
  refine ⟨fun tag rest s hs => ?requests, fun s ha => ?writes, fun s => ?stops⟩
  case requests =>
    intro f ans acked
    refine ⟨fun lo hi => ⟨fun h => ?_, fun h => ?_⟩, ?_, fun n h => ?_, ?_⟩
    · refine faultAck_answers hs (rdAck_of_number lo hi rest) ((faultAckRequest_of_number lo hi _).trans (if_pos ?_))
      exact List.any_eq_true.mpr (h.imp fun r hr => ⟨hr.1, decide_eq_true hr.2⟩)
    · refine faultAck_answers hs (rdAck_of_number lo hi rest) ((faultAckRequest_of_number lo hi _).trans (if_neg ?_))
      exact Bool.eq_false_iff.mp (List.any_eq_false.mpr fun r hr => mt of_decide_eq_true (h r hr))
    · exact faultAck_answers hs (rdAck_of_other rest (by decide)) rfl
    · exact faultAck_answers hs (rdAck_of_other rest (Nat.ne_of_gt (Nat.lt_of_lt_of_le Nat.zero_lt_two h)))
        (faultAckRequest_of_unknown 0 _ h)
    · exact answers_of_body (decode := noArgs) (body := fun _ s => (Answer.ok, s.onFlg Flg.clearRetained)) (a := ()) hs
        rfl rfl rfl
  case writes =>
    intro t
    exact ⟨fun h => does_of_event ha rfl (if_neg (Bool.eq_false_iff.mp h)),
      fun h hs => does_of_event ha rfl ((if_pos h).trans (if_neg (Bool.eq_false_iff.mp hs))),
      fun h hs => does_of_event ha rfl ((if_pos h).trans (if_pos hs))⟩
  case stops =>
    intro t
    have ht : t = _ := stopPart_eq s
    refine ⟨?_, ?_, ?_, ?_, ?_, ?_, ?_, ?_, stopPart_relay s, ?_, ?_, fun h => ?_, fun run h => ?_⟩
    all_goals rw [ht]
    · exact cutImage_of_quiet h
    · simp only [Sst.cutImage, h]

end Sys2Proof.Machine
end

section
/-! PROOFS. Chapter 09: maintenance requests (R162 to R171). -/

namespace Sys2Proof.Machine
open Sys2Proof

/-! ## A request taken and answered (R164) -/

/-- The part with a request in flight. -/
def inFlight (kind : MaintKind) (ref : Byte) (s : State) : State :=
  { s with
    mcr :=
      { s.mcr with
        flight := some { kind := kind, ref := ref, at_ := s.clock }, accepted := min (s.mcr.accepted + 1) 65535 } }

/-- A response handed to LTX. -/
def responded (ref : Byte) (status : MaintStatus) (data : MaintData) (t : State) : State :=
  { t with mcr := { t.mcr with outbox := t.mcr.outbox ++ [⟨ref, status, data⟩] } }

theorem respond_of_carrying {r : MaintResponse} {t : State} (h : t.lks.state = .carrying) :
    respond r t = responded r.ref r.status r.data t := if_pos h

section Taking

variable {kind : MaintKind} {ref : Byte} {serve : State → (MaintStatus × MaintData) × State} {s : State}

theorem maintenance_of_away (h : s.lks.state ≠ .carrying) : maintenance kind ref serve s = s := if_neg h

theorem maintenance_of_busy (h : s.lks.state = .carrying) (hf : s.mcr.flight ≠ none) :
    maintenance kind ref serve s =
      responded ref .busy .none { s with mcr := { s.mcr with refusedBusy := min (s.mcr.refusedBusy + 1) 65535 } } :=
  (if_pos h).trans ((if_pos (Option.isSome_iff_ne_none.mpr hf)).trans (if_pos h))

theorem maintenance_of_accepting (h : s.lks.state = .carrying) (hf : s.mcr.flight = none) :
    maintenance kind ref serve s =
      respond ⟨ref, (serve (inFlight kind ref s)).1.1, (serve (inFlight kind ref s)).1.2⟩
        (serve (inFlight kind ref s)).2 :=
  (if_pos h).trans (if_neg (by rw [hf]; decide))

/-- A request whose service leaves the link in CARRYING is answered. -/
theorem maintenance_of_served {status : MaintStatus} {data : MaintData} {t : State} (h : s.lks.state = .carrying)
    (hf : s.mcr.flight = none) (hs : serve (inFlight kind ref s) = ((status, data), t)) (ht : t.lks.state = .carrying) :
    maintenance kind ref serve s = responded ref status data t := by
  rw [maintenance_of_accepting h hf, hs, respond_of_carrying ht]

end Taking

/-! ## The access code (R167, R168) -/

/-- The report of a wrong code. -/
def toldAttempt (kind : MaintKind) (total held : Nat) (locked : Bool) (uptime : Nat) (t : State) : State :=
  notice (.remoteEvent (.wrongCode kind total held locked) uptime)
    (if 8 ≤ total then report .remoteIntrusion .mcr .major [d32 total] t else t)

theorem reportAttempt_eq (kind : MaintKind) (t : State) :
    reportAttempt kind t =
      toldAttempt kind t.mcr.total t.mcr.window.length t.mcr.lockoutEnd.isSome t.uptime t := by
  have huptime : (if 8 ≤ t.mcr.total then report .remoteIntrusion .mcr .major [d32 t.mcr.total] t else t).uptime
      = t.uptime := by
    rw [State.uptime, State.uptime]
    split
    · rw [report_clock]
    · rfl
  rw [toldAttempt, ← huptime]
  rfl

theorem toldAttempt_lks (kind : MaintKind) (total held : Nat) (locked : Bool) (uptime : Nat) (t : State) :
    (toldAttempt kind total held locked uptime t).lks = t.lks := by
  rw [toldAttempt, notice_lks]
  split
  · rw [report_lks]
  · rfl

theorem toldAttempt_clock (kind : MaintKind) (total held : Nat) (locked : Bool) (uptime : Nat) (t : State) :
    (toldAttempt kind total held locked uptime t).clock = t.clock := by
  rw [toldAttempt, notice_clock]
  split
  · rw [report_clock]
  · rfl

section Privileged

variable {kind : MaintKind} {code : AccessCode} {argsOk : Bool} {carry : State → (MaintStatus × MaintData) × State}
  {s : State}

theorem privileged_of_disabled (h : s.remoteEnabled = false) :
    privileged kind code argsOk carry s =
      ((.disabled, .none), { s with mcr := { s.mcr with refusedDisabled := min (s.mcr.refusedDisabled + 1) 65535 } }) :=
  if_pos (by rw [h]; rfl)

section Enabled

variable (h : s.remoteEnabled = true)
include h

theorem privileged_of_lockout (hl : s.mcr.lockoutEnd ≠ none) :
    let v : State := { s with mcr := { s.mcr with refusedLocked := min (s.mcr.refusedLocked + 1) 65535 } }
    privileged kind code argsOk carry s =
      ((.locked, .none),
        if code = s.sst.contents.remote.code then v else reportAttempt kind (countAttempt v)) :=
  (if_neg (by rw [h]; decide)).trans ((if_pos (Option.isSome_iff_ne_none.mpr hl)).trans (by simp only [decide_eq_true_eq]; rfl))

variable (hl : s.mcr.lockoutEnd = none)
include hl

theorem privileged_of_wrong (hc : code ≠ s.sst.contents.remote.code) :
    privileged kind code argsOk carry s = ((.wrongCode, .none), wrongAttempt kind s) :=
  (if_neg (by rw [h]; decide)).trans ((if_neg (by rw [hl]; decide)).trans (if_pos (by simp [hc])))

theorem privileged_of_right (hc : code = s.sst.contents.remote.code) :
    privileged kind code argsOk carry s = if argsOk then carry s else ((.badArgument, .none), s) := by
  refine (if_neg (by rw [h]; decide)).trans ((if_neg (by rw [hl]; decide)).trans ((if_neg (by simp [hc])).trans ?_))
  cases argsOk <;> rfl

end Enabled

/-- A wrong attempt outside a lockout (R168). -/
theorem wrongAttempt_eq (hl : s.mcr.lockoutEnd = none) :
    let history := s.mcr.window.filter (fun t => s.clock ≤ t + 30000) ++ [s.clock]
    let total := min (s.mcr.total + 1) 255
    wrongAttempt kind s =
      if history.length < 3 then
        toldAttempt kind total history.length false s.uptime
          { s with mcr := { s.mcr with total := total, window := history } }
      else
        notice (.remoteEvent .lockoutStarted s.uptime)
          (toldAttempt kind total 0 true s.uptime
            { s with
              mcr := { s.mcr with total := total, window := [], lockoutEnd := some (s.clock + 60000) } }) := by
  intro history total
  let counted : State := { s with mcr := { s.mcr with total := total, window := history } }
  let locked : State :=
    { s with mcr := { s.mcr with total := total, window := [], lockoutEnd := some (s.clock + 60000) } }
  have hattempt : wrongAttempt kind s =
      if history.length < 3 then reportAttempt kind counted
      else remoteEvent .lockoutStarted (reportAttempt kind locked) := rfl
  have hopen : counted.mcr.lockoutEnd.isSome = false := congrArg Option.isSome hl
  have hcounted : reportAttempt kind counted = toldAttempt kind total history.length false s.uptime counted := by
    rw [reportAttempt_eq, hopen]
    rfl
  have hlocked : reportAttempt kind locked = toldAttempt kind total 0 true s.uptime locked := reportAttempt_eq kind locked
  have huptime : (toldAttempt kind total 0 true s.uptime locked).uptime = s.uptime := by
    rw [State.uptime, toldAttempt_clock]
    rfl
  rw [hattempt, hcounted, hlocked, remoteEvent, huptime]

end Privileged

end Sys2Proof.Machine
end

section
/-! PROOFS. Chapter 09: the maintenance requests by their kinds (R155, R166 to R170). -/

namespace Sys2Proof.Machine
open Sys2Proof

/-! ## The services (R166, R169, R170) -/

theorem serveResult_of_bad {k : Byte} {s : State} (h : 4 ≤ k.toNat) :
    serveResult k s = ((.badArgument, .none), s) := by
  simp only [serveResult, nth_allTestKinds_eq_none h]

section Result

variable {kind : TestKind} {k : Byte} {s : State} (hk : kind.ctorIdx = k.toNat)
include hk

theorem serveResult_of_record {r : TestResult} (hr : s.ltu.resultOf kind = some r) (ho : r.origin ≠ .host) :
    serveResult k s = ((.done, .result r), s) := by
  simp only [serveResult, ← hk, nth_allTestKinds, hr, if_neg ho]

theorem serveResult_of_none
    (h : s.ltu.resultOf kind = none ∨ ∃ r, s.ltu.resultOf kind = some r ∧ r.origin = .host) :
    serveResult k s = ((.noResult, .none), s) := by
  rcases h with h | ⟨r, hr, ho⟩
  · simp only [serveResult, ← hk, nth_allTestKinds, h]
  · simp only [serveResult, ← hk, nth_allTestKinds, hr, if_pos ho]

end Result

theorem startLoopback_of_voice {minutes : Nat} {s : State} (h : s.noCall = false) :
    startLoopback minutes s = ((.busyVoice, .none), s) := if_pos (by rw [h]; rfl)

theorem startLoopback_of_none {minutes : Nat} {s : State} (h : s.noCall = true) (hl : s.mcr.loopback = none) :
    startLoopback minutes s =
      ((.done, .loopback false),
        notice (.remoteEvent (.loopbackStarted minutes) s.uptime)
          (flushPayload { s with mcr := { s.mcr with loopback := some ⟨s.clock + minutes * 60000, 0⟩ } })) := by
  refine (if_neg (by rw [h]; decide)).trans ?_
  rw [hl]
  rfl

theorem startLoopback_of_some {minutes : Nat} {s : State} {l : Loopback} (h : s.noCall = true)
    (hl : s.mcr.loopback = some l) :
    startLoopback minutes s =
      ((.done, .loopback true),
        notice (.remoteEvent (.loopbackStarted minutes) s.uptime)
          { s with mcr := { s.mcr with loopback := some ⟨s.clock + minutes * 60000, l.cells⟩ } }) := by
  refine (if_neg (by rw [h]; decide)).trans ?_
  rw [hl]
  rfl

/-- MCR tells MPT of a remote test that LTU has taken (R169). -/
def toldTest (r : TestAnswer × State) : State :=
  match r.1 with
  | .accepted d job => notice (.remoteEvent (.testAccepted job d) r.2.uptime) r.2
  | _ => r.2

theorem startRemoteTest_of_kind {kind : TestKind} {k n : Byte} {s : State} (hk : kind.ctorIdx = k.toNat) :
    let r := requestTest kind .remote n.toNat true s
    startRemoteTest k n s = ((.done, .test r.1), toldTest r) := by
  intro r
  simp only [startRemoteTest, ← hk, nth_allTestKinds]
  refine congrArg (Prod.mk _) ?_
  unfold toldTest
  cases r.1 <;> rfl

theorem minutesOk_iff (n : Nat) : minutesOk n = true ↔ 1 ≤ n ∧ n ≤ 60 := by simp [minutesOk]

theorem testArgs_iff (k n : Nat) :
    ((nth allTestKinds k).isSome && repeatsOk n) = true ↔ k ≤ 3 ∧ 1 ≤ n ∧ n ≤ 16 := by
  have hkind : (nth allTestKinds k).isSome = true ↔ k ≤ 3 := by
    refine ⟨fun h => Nat.not_lt.mp fun hk => ?_, fun h => ?_⟩
    · rw [nth_allTestKinds_eq_none hk] at h
      exact Bool.false_ne_true h
    · obtain ⟨kind, rfl⟩ := exists_testKind h
      rw [nth_allTestKinds]
      rfl
  rw [Bool.and_eq_true, hkind]
  simp [repeatsOk]

/-! ## The requests by their kinds -/

/-- The requests that need no access code. -/
def openRequests (ref k : Byte) : List (Instr × MaintKind) :=
  [(.summary ref, .summary), (.resultRead ref k, .resultRead), (.unknownMaintenanceRequest ref, .unknown)]

/-- The requests that need it. -/
def privilegedRequests (ref k n minutes : Byte) (code : AccessCode) : List (Instr × MaintKind) :=
  [(.testStart ref code k n, .testStart), (.loopbackStart ref code minutes, .loopbackStart),
    (.loopbackStop ref code, .loopbackStop)]

section Requests

variable {ref k n minutes : Byte} {code : AccessCode} {x : Instr × MaintKind} {s : State}

theorem exec_of_privileged (h : x ∈ privilegedRequests ref k n minutes code) :
    ∃ argsOk carry, exec x.1 s = event (maintenance x.2 ref (privileged x.2 code argsOk carry)) s := by
  simp only [privilegedRequests, List.mem_cons, List.not_mem_nil, or_false] at h
  rcases h with rfl | rfl | rfl
  · exact ⟨(nth allTestKinds k.toNat).isSome && repeatsOk n.toNat, startRemoteTest k n, rfl⟩
  · exact ⟨minutesOk minutes.toNat, startLoopback minutes.toNat, rfl⟩
  · exact ⟨true, stopLoopback, rfl⟩

theorem exec_of_open (h : x ∈ openRequests ref k) : ∃ serve, exec x.1 s = event (maintenance x.2 ref serve) s := by
  simp only [openRequests, List.mem_cons, List.not_mem_nil, or_false] at h
  rcases h with rfl | rfl | rfl
  · exact ⟨serveSummary, rfl⟩
  · exact ⟨serveResult k, rfl⟩
  · exact ⟨fun s => ((.unknownRequest, .none), s), rfl⟩

theorem exec_of_maintenance (h : x ∈ openRequests ref k ++ privilegedRequests ref k n minutes code) :
    ∃ serve, exec x.1 s = event (maintenance x.2 ref serve) s := by
  rcases List.mem_append.mp h with h | h
  · exact exec_of_open h
  · obtain ⟨argsOk, carry, hexec⟩ := exec_of_privileged (s := s) h
    exact ⟨_, hexec⟩

end Requests

/-- Settles O54. -/
theorem maintenanceRequestsAnswered : Obligations.MaintenanceRequestsAnswered := by
  intro ref k n minutes code s ha m open_ privileged_ taken answered accepting right history total tried
  have served {c : Instr} {kind : MaintKind} {serve : State → (MaintStatus × MaintData) × State} {status : MaintStatus}
      {data : MaintData} {t : State} (hc : exec c s = event (maintenance kind ref serve) s) (h : accepting)
      (hs : serve (taken kind) = ((status, data), t)) (ht : t.lks.state = .carrying) :
      Does c s (answered status data t) :=
    does_of_event ha hc (maintenance_of_served h.1 h.2 hs ht)
  refine ⟨fun x hx => ?_, fun h => ⟨?_, ?_, fun hk => ?_, fun kind hk => ⟨fun r hr ho => ?_, fun hr => ?_⟩⟩,
    fun x hx h => ?refused, fun h he hl hc => ?granted⟩
  · obtain ⟨serve, hexec⟩ := exec_of_maintenance (s := s) hx
    exact ⟨fun h => does_of_event ha hexec (maintenance_of_away h),
      fun h hf => does_of_event ha hexec (maintenance_of_busy h hf)⟩
  · exact served (serve := serveSummary) rfl h rfl h.1
  · exact served (serve := fun s => ((.unknownRequest, .none), s)) rfl h rfl h.1
  · exact served (serve := serveResult k) rfl h (serveResult_of_bad hk) h.1
  · exact served (serve := serveResult k) rfl h (serveResult_of_record hk hr ho) h.1
  · exact served (serve := serveResult k) rfl h (serveResult_of_none hk hr) h.1
  case refused =>
    intro u
    obtain ⟨argsOk, carry, hexec⟩ := exec_of_privileged (s := s) hx
    refine ⟨fun he => served hexec h (privileged_of_disabled (s := u) he) h.1, fun he hl => ?_, fun he hl hc => ?_⟩
    · intro v
      have hlocked := privileged_of_lockout (kind := x.2) (code := code) (argsOk := argsOk) (carry := carry) (s := u) he hl
      have hsome : m.lockoutEnd.isSome = true := Option.isSome_iff_ne_none.mpr hl
      refine ⟨fun hc => served hexec h (hlocked.trans (congrArg (Prod.mk _) (if_pos hc))) h.1, fun hc => ?_⟩
      have htold : reportAttempt x.2 (countAttempt v) = tried x.2 m.window.length true
          { v with mcr := { v.mcr with total := total } } := by
        rw [reportAttempt_eq]
        have hv : (countAttempt v).mcr.lockoutEnd.isSome = true := hsome
        rw [hv]
        rfl
      refine served hexec h (hlocked.trans (congrArg (Prod.mk _) ((if_neg hc).trans htold))) ?_
      exact (congrArg Lks.state (toldAttempt_lks ..)).trans h.1
    · have hwrong := (privileged_of_wrong (kind := x.2) (argsOk := argsOk) (carry := carry) (s := u) he hl hc).trans
        (congrArg (Prod.mk _) (wrongAttempt_eq (s := u) hl))
      refine ⟨fun h3 => served hexec h (hwrong.trans (congrArg (Prod.mk _) (if_pos h3))) ?_,
        fun h3 => served hexec h (hwrong.trans (congrArg (Prod.mk _) (if_neg (Nat.not_lt.mpr h3)))) ?_⟩
      · exact (congrArg Lks.state (toldAttempt_lks ..)).trans h.1
      · exact (congrArg Lks.state (toldAttempt_lks x.2 total 0 true s.uptime _)).trans h.1
  case granted =>
    intro u w starts endAt minutesGood testGood
    have carried {c : Instr} {kind : MaintKind} {argsOk : Bool} {carry : State → (MaintStatus × MaintData) × State}
        {status : MaintStatus} {data : MaintData} {t : State}
        (hexec : exec c s = event (maintenance kind ref (privileged kind code argsOk carry)) s)
        (hr : (if argsOk then carry (taken kind) else ((.badArgument, .none), taken kind)) = ((status, data), t))
        (ht : t.lks.state = .carrying) : Does c s (answered status data t) :=
      served hexec h ((privileged_of_right (s := taken kind) he hl hc).trans hr) ht
    have hmin : minutesOk minutes.toNat = true ↔ minutesGood := minutesOk_iff _
    have htest : ((nth allTestKinds k.toNat).isSome && repeatsOk n.toNat) = true ↔ testGood := testArgs_iff _ _
    have loop {status : MaintStatus} {data : MaintData} {t : State} (hg : minutesGood)
        (hr : startLoopback minutes.toNat u = ((status, data), t)) (ht : t.lks.state = .carrying) :
        Does (.loopbackStart ref code minutes) s (answered status data t) :=
      carried rfl ((if_pos (hmin.mpr hg)).trans hr) ht
    refine ⟨fun hg => carried rfl (if_neg (mt hmin.mp hg)) h.1,
      fun hg hv => loop hg (startLoopback_of_voice (s := u) hv) h.1,
      fun hg hv => ⟨fun hn => loop hg (startLoopback_of_none (s := u) hv hn) h.1,
        fun l hsome => loop hg (startLoopback_of_some (s := u) hv hsome) h.1⟩,
      ?_, fun hg => carried rfl (if_neg (mt htest.mp hg)) h.1, fun kind hg hk => ?_⟩
    · refine carried (argsOk := true) (carry := stopLoopback) rfl rfl ?_
      rw [endLoopback_eq]
      exact h.1
    · intro r t
      have hserve := (privileged_of_right (kind := .testStart) (s := w)
        (argsOk := (nth allTestKinds k.toNat).isSome && repeatsOk n.toNat) (carry := startRemoteTest k n) he hl hc).trans
          ((if_pos (htest.mpr hg)).trans (startRemoteTest_of_kind (s := w) hk))
      refine does_of_event ha rfl ((maintenance_of_accepting h.1 h.2).trans ?_)
      have htold : toldTest r = t := rfl
      refine (congrArg (fun y : (MaintStatus × MaintData) × State => respond ⟨ref, y.1.1, y.1.2⟩ y.2) hserve).trans ?_
      rw [← htold]
      rfl

end Sys2Proof.Machine
end

section
/-! PROOFS. Chapter 09: acknowledgements, attempts, the lockout and the loopback (R164, R168, R171, R172). -/

namespace Sys2Proof.Machine
open Sys2Proof

section Timers

variable {ref : Byte} {s : State}

theorem acknowledged_of_other (h : s.mcr.flight = none ∨ ∃ f, s.mcr.flight = some f ∧ f.ref ≠ ref) :
    acknowledged ref s = s := by
  rcases h with h | ⟨f, h, hr⟩
  · simp only [acknowledged, h]
  · simp only [acknowledged, h, if_neg hr]

theorem acknowledged_of_flight {f : Flight} (h : s.mcr.flight = some f) (hr : f.ref = ref) :
    acknowledged ref s = s.onMcr fun m => { m with flight := none, outbox := afterResponse ref m.outbox } := by
  simp only [acknowledged, h, if_pos hr]

theorem ackEnd_of_flight {m : Mcr} {f : Flight} (h : m.flight = some f) : m.ackEnd = some (f.at_ + 5000) := by
  rw [Mcr.ackEnd, h]
  rfl

theorem attemptEnd_of_cons {m : Mcr} {t : Nat} {ts : List Nat} (h : m.window = t :: ts) :
    m.attemptEnd = some (t + 30000) := by
  rw [Mcr.attemptEnd, h]
  rfl

/-- A loopback that ends other than by a reset is told (R171). -/
theorem endLoopback_of_some {cause : LoopEnd} {l : Loopback} (h : s.mcr.loopback = some l) (hc : cause ≠ .reset) :
    endLoopback cause s =
      notice (.remoteEvent (.loopbackEnded cause l.cells) s.uptime)
        { s with mcr := { s.mcr with loopback := none } } := by
  simp only [endLoopback, h, if_neg hc]
  rfl

end Timers

/-- Settles O55. -/
theorem maintenanceTimers : Obligations.MaintenanceTimers := by
  refine ⟨fun tag rest s hs => ?_, fun ref s ha => ?timers, fun cause s =>
    ⟨endLoopback_of_none, fun l hl hc => endLoopback_of_some hl hc⟩⟩
  · exact answers_of_body (decode := noArgs) (body := fun _ s => (Answer.ok, clearCounts s)) (a := ()) hs rfl rfl rfl
  case timers =>
    intro m
    refine ⟨fun h => does_of_event ha rfl (acknowledged_of_other h),
      fun f h hr => does_of_event ha rfl (acknowledged_of_flight h hr),
      fun h => does_of_idle_timer ha rfl (congrArg (Option.map _) h),
      fun f h => does_of_timer ha rfl (ackEnd_of_flight h) rfl,
      fun h => does_of_idle_timer ha rfl (congrArg (fun x : List Nat => x.head?.map _) h),
      fun t ts h => does_of_timer ha rfl (attemptEnd_of_cons h) ?_,
      fun h => does_of_idle_timer ha rfl h, fun e h => does_of_timer ha rfl h rfl,
      fun h => does_of_idle_timer ha rfl (congrArg (Option.map _) h),
      fun l h => does_of_timer ha rfl (congrArg (Option.map _) h) ?_⟩
    · exact congrArg
        (fun x : List Nat => { s with clock := max s.clock (t + 30000), mcr := { s.mcr with window := x.tail } }) h
    · exact endLoopback_of_some (s := { s with clock := max s.clock l.endAt }) h (by decide)

end Sys2Proof.Machine
end

section
/-! PROOFS. R37 and R187: the replies of LINK_STATUS and POWER_STATUS. -/

namespace Sys2Proof.Machine
open Sys2Proof

/-! ## The data of the two replies -/

/-- A good frame moves none of the fields that LINK_STATUS lists. -/
theorem linkData_heard (s : State) : linkData s.heard = linkData s := rfl

/-- A good frame moves none of the fields that POWER_STATUS lists. -/
theorem powerData_heard (s : State) : powerData s.heard = powerData s := rfl

/-- Settles O60: both requests take no argument and answer with their rule's data, which a good frame leaves alone. -/
theorem linkAndPowerStatusReplies : Obligations.LinkAndPowerStatusReplies := by
  refine fun tag rest s hs => ⟨?_, ?_⟩
  · exact answers_of_body (decode := noArgs) (a := ()) (body := fun _ s => (Answer.with .ok (linkData s), s)) hs rfl rfl
      (congrArg (fun d => (Answer.with .ok d, s.heard)) (linkData_heard s))
  · exact answers_of_body (decode := noArgs) (a := ()) (body := fun _ s => (Answer.with .ok (powerData s), s)) hs rfl rfl
      (congrArg (fun d => (Answer.with .ok d, s.heard)) (powerData_heard s))

end Sys2Proof.Machine
end

section
/-! PROOFS. Chapter 10: what the blocks leave alone while they take a stage: PSV, the clock, the ring capacity; an OFF
link stays at rest, HPC2 DISABLED, the relay as it is. -/

namespace Sys2Proof.Machine
open Sys2Proof

/-- PSV, the clock and the ring capacity are these. Where `N` holds the link is OFF at rest, where `D` holds HPC2 is
DISABLED, where `R` holds the relay is `r₀`. -/
structure State.Calm (N D R : Prop) (p₀ : Psv) (now cap : Nat) (r₀ : Relay) (s : State) : Prop where
  psv : s.psv = p₀
  clock : s.clock = now
  capacity : s.rsc.capacity = cap
  off : N → s.lks.stopped ∧ s.pac.link.state = .free
  two : D → s.hpc2.state = .disabled
  relay : R → s.pac.relay = r₀

variable {N D R : Prop} {p₀ : Psv} {now cap : Nat} {r₀ : Relay} {s : State}
open State

theorem State.Calm.loud (h : Calm N D R p₀ now cap r₀ s) : Calm False D R p₀ now cap r₀ s :=
  ⟨h.psv, h.clock, h.capacity, False.elim, h.two, h.relay⟩

/-- An operation that does nothing to an OFF link at rest is calm if it is so without regard to that link. -/
theorem calm_inert {t : State} (h : Calm N D R p₀ now cap r₀ s)
    (hk : Calm False D R p₀ now cap r₀ s → Calm False D R p₀ now cap r₀ t)
    (hh : s.lks.stopped → s.pac.link.state = .free → t = s) : Calm N D R p₀ now cap r₀ t := by
  obtain ⟨h1, h2, h3, -, h5, h6⟩ := hk h.loud
  refine ⟨h1, h2, h3, fun hn => ?_, h5, h6⟩
  obtain ⟨hs, hl⟩ := h.off hn
  rw [hh hs hl]
  exact ⟨hs, hl⟩

/-! ## One block changed -/

@[simp] theorem onMpt_calm (h : Calm N D R p₀ now cap r₀ s) (f : Mpt → Mpt) : Calm N D R p₀ now cap r₀ (s.onMpt f) :=
  ⟨h.psv, h.clock, h.capacity, h.off, h.two, h.relay⟩
@[simp] theorem onMcr_calm (h : Calm N D R p₀ now cap r₀ s) (f : Mcr → Mcr) : Calm N D R p₀ now cap r₀ (s.onMcr f) :=
  ⟨h.psv, h.clock, h.capacity, h.off, h.two, h.relay⟩
@[simp] theorem onLtu_calm (h : Calm N D R p₀ now cap r₀ s) (f : Ltu → Ltu) : Calm N D R p₀ now cap r₀ (s.onLtu f) :=
  ⟨h.psv, h.clock, h.capacity, h.off, h.two, h.relay⟩
@[simp] theorem onSeq_calm (h : Calm N D R p₀ now cap r₀ s) (p : PortId) (f : Sequencer → Sequencer) :
    Calm N D R p₀ now cap r₀ (s.onSeq p f) := by
  cases p <;> exact ⟨h.psv, h.clock, h.capacity, h.off, h.two, h.relay⟩
@[simp] theorem choose_calm (h : Calm N D R p₀ now cap r₀ s) (n : Nat) : Calm N D R p₀ now cap r₀ (s.choose n).2 := by
  unfold State.choose
  split
  · exact h
  · exact ⟨h.psv, h.clock, h.capacity, h.off, h.two, h.relay⟩

@[simp] theorem onRsc_calm (h : Calm N D R p₀ now cap r₀ s) {f : Rsc → Rsc}
    (hf : ((f s.rsc).capacity = s.rsc.capacity) = True) : Calm N D R p₀ now cap r₀ (s.onRsc f) :=
  ⟨h.psv, h.clock, (of_eq_true hf).trans h.capacity, h.off, h.two, h.relay⟩

@[simp] theorem onLks_calm (h : Calm N D R p₀ now cap r₀ s) {f : Lks → Lks}
    (hf : (N → s.lks.stopped → (f s.lks).stopped) = True) : Calm N D R p₀ now cap r₀ (s.onLks f) :=
  ⟨h.psv, h.clock, h.capacity, fun n => ⟨of_eq_true hf n (h.off n).1, (h.off n).2⟩, h.two, h.relay⟩

@[simp] theorem onPac_calm (h : Calm N D R p₀ now cap r₀ s) {f : Pac → Pac}
    (hl : (N → s.pac.link.state = .free → (f s.pac).link.state = .free) = True)
    (hr : (R → (f s.pac).relay = s.pac.relay) = True) : Calm N D R p₀ now cap r₀ (s.onPac f) :=
  ⟨h.psv, h.clock, h.capacity, fun n => ⟨(h.off n).1, of_eq_true hl n (h.off n).2⟩, h.two,
    fun r => (of_eq_true hr r).trans (h.relay r)⟩

@[simp] theorem onPort_calm (h : Calm N D R p₀ now cap r₀ s) {p : PortId} {f : Port → Port}
    (hf : (D → p = .two → s.hpc2.state = .disabled → (f s.hpc2).state = .disabled) = True) :
    Calm N D R p₀ now cap r₀ (s.onPort p f) := by
  cases p with
  | one => exact ⟨h.psv, h.clock, h.capacity, h.off, h.two, h.relay⟩
  | two => exact ⟨h.psv, h.clock, h.capacity, h.off, fun d => of_eq_true hf d rfl (h.two d), h.relay⟩

/-! ## Notices and faults -/

@[simp] theorem notice_calm (h : Calm N D R p₀ now cap r₀ s) (n : Notice) : Calm N D R p₀ now cap r₀ (notice n s) :=
  onMpt_calm h _
@[simp] theorem report_calm (h : Calm N D R p₀ now cap r₀ s) (c : FaultCode) (o : Source) (v : Severity)
    (d : List (BitVec 32)) : Calm N D R p₀ now cap r₀ (report c o v d s) := by
  obtain ⟨h1, h2, h3, h4, h5, h6⟩ := h
  exact ⟨by rwa [report_psv], by rwa [report_clock], by rwa [report_rsc], by rwa [report_lks, report_pac],
    by rwa [report_hpc2], by rwa [report_pac]⟩
@[simp] theorem clearFault_calm (h : Calm N D R p₀ now cap r₀ s) (c : FaultCode) (o : Source) :
    Calm N D R p₀ now cap r₀ (clearFault c o s) := by
  obtain ⟨h1, h2, h3, h4, h5, h6⟩ := h
  exact ⟨by rwa [clearFault_psv], by rwa [clearFault_clock], by rwa [clearFault_rsc],
    by rwa [clearFault_lks, clearFault_pac], by rwa [clearFault_hpc2], by rwa [clearFault_pac]⟩

/-! ## The pair (R1 to R7) -/

@[simp] theorem linkNotice_calm (h : Calm N D R p₀ now cap r₀ s) (prev : LinkState) (c : LinkCause) :
    Calm N D R p₀ now cap r₀ (linkNotice prev c s) := notice_calm h _

theorem grantLink_calm (h : Calm False D R p₀ now cap r₀ s) : Calm False D R p₀ now cap r₀ (grantLink s) := by
  unfold grantLink enterGreeting
  exact linkNotice_calm (onLks_calm (onPac_calm h (eq_true False.elim) (eq_true fun _ => rfl)) (eq_true False.elim)) _ _

@[simp] theorem grantTest_calm (h : Calm N D R p₀ now cap r₀ s) : Calm N D R p₀ now cap r₀ (grantTest s) := by
  unfold grantTest
  simp_all

@[simp] theorem reexamine_calm (h : Calm N D R p₀ now cap r₀ s) : Calm N D R p₀ now cap r₀ (reexamine s) := by
  by_cases ht : (s.pac.test.state = .waiting && s.testGrantable) = true
  · rw [reexamine, if_pos ht]
    exact grantTest_calm h
  · rw [reexamine, if_neg ht]
    refine calm_inert h (fun h => ?_) fun _ hl => if_neg (by simp [hl])
    split
    · exact grantLink_calm h
    · exact h

theorem requestLink_calm (h : Calm False D R p₀ now cap r₀ s) : Calm False D R p₀ now cap r₀ (requestLink s) := by
  unfold requestLink
  split
  · exact grantLink_calm h
  · simp_all

@[simp] theorem releaseLink_calm (h : Calm N D R p₀ now cap r₀ s) : Calm N D R p₀ now cap r₀ (releaseLink s) := by
  unfold releaseLink
  split <;> simp_all

@[simp] theorem freeTest_calm (h : Calm N D R p₀ now cap r₀ s) : Calm N D R p₀ now cap r₀ (freeTest s) := by
  unfold freeTest
  split <;> simp_all

@[simp] theorem claimTest_calm (e : TestEntry) (h : Calm N D R p₀ now cap r₀ s) :
    Calm N D R p₀ now cap r₀ (claimTest e s) := by
  unfold claimTest
  dsimp only
  split <;> simp_all

/-! ## What leaving CARRYING does (R27, R34) -/

@[simp] theorem flushPayload_calm (h : Calm N D R p₀ now cap r₀ s) : Calm N D R p₀ now cap r₀ (flushPayload s) := by
  unfold flushPayload
  simp_all

@[simp] theorem endLoopback_calm (c : LoopEnd) (h : Calm N D R p₀ now cap r₀ s) :
    Calm N D R p₀ now cap r₀ (endLoopback c s) := by
  rw [endLoopback_eq]
  exact ⟨h.psv, h.clock, h.capacity, h.off, h.two, h.relay⟩

@[simp] theorem channelLost_calm (h : Calm N D R p₀ now cap r₀ s) : Calm N D R p₀ now cap r₀ (channelLost s) :=
  endLoopback_calm _ (onMcr_calm h _)

@[simp] theorem closePartial_calm (r : DropReason) (h : Calm N D R p₀ now cap r₀ s) :
    Calm N D R p₀ now cap r₀ (closePartial r s) := by
  rw [closePartial_eq]
  exact ⟨h.psv, h.clock, h.capacity, h.off, h.two, h.relay⟩

@[simp] theorem leaveCarrying_calm (r : DropReason) (h : Calm N D R p₀ now cap r₀ s) :
    Calm N D R p₀ now cap r₀ (leaveCarrying r s) := by
  unfold leaveCarrying
  refine onPac_calm (flushPayload_calm (channelLost_calm (onLks_calm (closePartial_calm r h) (eq_true fun _ hs => ?_))))
    (eq_true fun _ hl => hl) (eq_true fun _ => rfl)
  obtain ⟨h1, ⟨h2, h3, -, h5⟩, h6, -, -⟩ := hs
  exact ⟨h1, ⟨h2, h3, rfl, h5⟩, h6, rfl, rfl⟩

/-! ## Where a link goes -/

@[simp] theorem trialFail_calm (h : Calm N D R p₀ now cap r₀ s) : Calm N D R p₀ now cap r₀ (trialFail s) := by
  unfold trialFail
  split <;> simp_all

@[simp] theorem trialEnd_calm (h : Calm N D R p₀ now cap r₀ s) : Calm N D R p₀ now cap r₀ (trialEnd s) := by
  unfold trialEnd
  simp_all

/-- A link that goes OFF with its claim FREE is at rest. -/
theorem toOff_calm (c : LinkCause) (h : Calm False D R p₀ now cap r₀ s) (hl : N → s.pac.link.state = .free) :
    Calm N D R p₀ now cap r₀ (toOff c s) :=
  ⟨h.psv, h.clock, h.capacity, fun n => ⟨⟨rfl, ⟨rfl, rfl, rfl, rfl⟩, rfl, rfl, rfl⟩, hl n⟩, h.two, h.relay⟩

theorem waitWith_calm (w : WaitReason) (c : LinkCause) (h : Calm False D R p₀ now cap r₀ s) :
    Calm False D R p₀ now cap r₀ (waitWith w c s) := by
  rw [waitWith_eq]
  exact ⟨h.psv, h.clock, h.capacity, False.elim, h.two, h.relay⟩

theorem beginAttempt_calm (c : LinkCause) (h : Calm False D R p₀ now cap r₀ s) :
    Calm False D R p₀ now cap r₀ (beginAttempt c s) := by
  have hfresh : Calm False D R p₀ now cap r₀ (freshLadder s) := onLks_calm h (eq_true False.elim)
  unfold beginAttempt
  dsimp only
  split
  · exact report_calm (waitWith_calm _ _ hfresh) _ _ _ _
  · refine requestLink_calm (onLks_calm (waitWith_calm _ _ (clearFault_calm (onLks_calm hfresh ?_) _ _)) ?_)
    · exact eq_true False.elim
    · exact eq_true False.elim

@[simp] theorem rerunAttempt_calm (h : Calm N D R p₀ now cap r₀ s) : Calm N D R p₀ now cap r₀ (rerunAttempt s) := by
  refine calm_inert h (fun h => ?_) fun hs _ => if_neg (by simp [hs.1])
  unfold rerunAttempt
  split
  · exact beginAttempt_calm _ h
  · exact h

@[simp] theorem abandonAttempt_calm (h : Calm N D R p₀ now cap r₀ s) : Calm N D R p₀ now cap r₀ (abandonAttempt s) := by
  unfold abandonAttempt
  refine releaseLink_calm (trialEnd_calm (onLks_calm h (eq_true fun _ hs => ?_)))
  obtain ⟨h1, ⟨-, -, h4, h5⟩, h6, h7, h8⟩ := hs
  exact ⟨h1, ⟨rfl, rfl, h4, h5⟩, h6, h7, h8⟩

@[simp] theorem countDrop_calm (r : DropReason) (h : Calm N D R p₀ now cap r₀ s) :
    Calm N D R p₀ now cap r₀ (countDrop r s) := onLks_calm h (eq_true fun _ hs => hs)

theorem dropOrderly_calm (r : DropReason) (d : ReleaseDest) (w : Option Nat) (h : Calm False D R p₀ now cap r₀ s) :
    Calm False D R p₀ now cap r₀ (dropOrderly r d w s) :=
  leaveCarrying_calm _ (linkNotice_calm (onLks_calm (countDrop_calm _ h) (eq_true False.elim)) _ _)

theorem dropByReason_calm (r : DropReason) (d : ReleaseDest) (h : Calm False D R p₀ now cap r₀ s) :
    Calm False D R p₀ now cap r₀ (dropByReason r d s) := dropOrderly_calm _ _ _ (trialEnd_calm h)

@[simp] theorem stepUpCheck_calm (h : Calm N D R p₀ now cap r₀ s) : Calm N D R p₀ now cap r₀ (stepUpCheck s) := by
  refine calm_inert h (fun h => ?_) fun hs _ => stepUpCheck_of_idle (by simp [hs.1])
  unfold stepUpCheck
  split
  · exact h
  · exact dropOrderly_calm _ _ _ (onLks_calm h (eq_true False.elim))

theorem releaseRequest_calm (h : Calm False D R p₀ now cap r₀ s) : Calm False D R p₀ now cap r₀ (releaseRequest s) := by
  unfold releaseRequest
  split
  · exact dropByReason_calm _ _ h
  · exact beginAttempt_calm _ (abandonAttempt_calm h)
  · exact beginAttempt_calm _ (abandonAttempt_calm h)
  · exact h

@[simp] theorem askRelease_calm (h : Calm N D R p₀ now cap r₀ s) : Calm N D R p₀ now cap r₀ (askRelease s) := by
  refine calm_inert h (fun h => ?_) fun _ hl => askRelease_of_free_link (by rw [hl]; decide)
  by_cases ha : s.asksRelease
  · rw [askRelease_of_asks ha]
    exact releaseRequest_calm ⟨h.psv, h.clock, h.capacity, False.elim, h.two, h.relay⟩
  · rwa [askRelease_of_not_asks ha]

end Sys2Proof.Machine
end

section
/-! PROOFS. Chapter 10: the tests, the drops, the ring supply and the ports are calm while the blocks take a stage. -/

namespace Sys2Proof.Machine
open Sys2Proof

variable {N D R : Prop} {p₀ : Psv} {now cap : Nat} {r₀ : Relay} {s : State}
open State

/-! ## Tests (R134, R141, R146) -/

@[simp] theorem resultFault_calm (r : TestResult) (h : Calm N D R p₀ now cap r₀ s) :
    Calm N D R p₀ now cap r₀ (resultFault r s) := by
  unfold resultFault
  split
  · exact clearFault_calm h _ _
  · exact report_calm h _ _ _ _
  · exact report_calm h _ _ _ _
  · exact report_calm h _ _ _ _
  · exact report_calm h _ _ _ _
  · exact h

@[simp] theorem claimHead_calm (h : Calm N D R p₀ now cap r₀ s) : Calm N D R p₀ now cap r₀ (claimHead s) := by
  unfold claimHead
  split
  · exact h
  · exact askRelease_calm (claimTest_calm _ (onLtu_calm h _))

@[simp] theorem handOver_calm (b : Bool) (h : Calm N D R p₀ now cap r₀ s) :
    Calm N D R p₀ now cap r₀ (handOver b s) := by
  cases b with
  | false => exact freeTest_calm h
  | true => exact claimHead_calm (freeTest_calm h)

theorem cutHead_calm (b : Bool) (r : AbortReason) (h : Calm N D R p₀ now cap r₀ s) :
    Calm N D R p₀ now cap r₀ (cutHead b r s) := by
  unfold cutHead
  split
  · exact h
  · exact reexamine_calm (resultFault_calm _ (notice_calm (handOver_calm b (onLtu_calm h _)) _))

theorem emptyQueue_calm (n : Nat) (h : Calm N D R p₀ now cap r₀ s) : Calm N D R p₀ now cap r₀ (emptyQueue n s) := by
  induction n generalizing s with
  | zero => exact h
  | succ n ih => exact ih (cutHead_calm false .power h)

@[simp] theorem testStage_calm (h : Calm N D R p₀ now cap r₀ s) : Calm N D R p₀ now cap r₀ (testStage s) := by
  unfold testStage
  split
  · exact emptyQueue_calm _ h
  · exact h

theorem requestTest_calm (kind : TestKind) (origin : Origin) (n : Nat) (d : Bool) (h : Calm N D R p₀ now cap r₀ s) :
    Calm N D R p₀ now cap r₀ (requestTest kind origin n d s).2 := by
  unfold requestTest
  split
  · exact h
  · split
    · exact h
    · split
      · exact h
      · dsimp only
        split
        · exact claimHead_calm (onLtu_calm h _)
        · exact onLtu_calm h _

/-! ## Drops of a link that is up (R33, R58 to R60) -/

theorem stormStep_calm (oldest : Nat) (h : Calm False D R p₀ now cap r₀ s) :
    Calm False D R p₀ now cap r₀ (stormStep oldest s) := by
  unfold stormStep
  split
  · exact report_calm (onLks_calm h (eq_true False.elim)) _ _ _ _
  · exact report_calm (requestTest_calm _ _ _ _ (requestTest_calm _ _ _ _ h)) _ _ _ _

theorem enterWindow_calm (r : DropReason) (h : Calm False D R p₀ now cap r₀ s) :
    Calm False D R p₀ now cap r₀ (enterWindow r s) := by
  unfold enterWindow
  dsimp only
  split
  · exact onLks_calm h (eq_true False.elim)
  · exact stormStep_calm _ (onLks_calm h (eq_true False.elim))

theorem qualityDrop_calm (h : Calm False D R p₀ now cap r₀ s) : Calm False D R p₀ now cap r₀ (qualityDrop s) :=
  enterWindow_calm _ (report_calm (dropOrderly_calm _ _ _ (onLks_calm (trialFail_calm h) (eq_true False.elim))) _ _ _ _)

/-- A stopped link awaits neither a retrain nor a power drop. -/
theorem callsEnded_of_stopped (h : s.lks.stopped) : callsEnded s = s := by
  obtain ⟨-, -, -, hr, hp⟩ := h
  by_cases hc : s.noCall = true
  · exact (callsEnded_of_free hc).1 hr hp
  · exact callsEnded_of_call hc

@[simp] theorem callsEnded_calm (h : Calm N D R p₀ now cap r₀ s) : Calm N D R p₀ now cap r₀ (callsEnded s) := by
  refine calm_inert h (fun h => ?_) fun hs _ => callsEnded_of_stopped hs
  unfold callsEnded
  split
  · split
    · dsimp only
      split
      · exact qualityDrop_calm (choose_calm h 2)
      · exact dropByReason_calm _ _ (choose_calm h 2)
    · exact qualityDrop_calm h
    · exact dropByReason_calm _ _ h
    · exact h
  · exact h

/-! ## Reports of a change of port state (R16, R69) -/

/-- A relay that is to stay as it is stays so where it moves. -/
theorem autoLifeline_calm (hr : R → r₀.move ≠ none) (h : Calm N D R p₀ now cap r₀ s) :
    Calm N D R p₀ now cap r₀ (autoLifeline s) := by
  by_cases hd : s.autoLifelineDue = true
  · obtain ⟨-, -, hm, -⟩ := (autoLifelineDue_iff s).mp hd
    have hn : ¬R := fun r => hr r (h.relay r ▸ hm)
    rw [autoLifeline_of_due hd]
    exact onPort_calm (onPac_calm h (eq_true fun _ hl => hl) (eq_true fun r => (hn r).elim)) (eq_true fun _ e => nomatch e)
  · rwa [autoLifeline_of_not_due hd]

theorem portChanged_calm (p : PortId) (old : PortState) (hr : R → r₀.move ≠ none) (h : Calm N D R p₀ now cap r₀ s) :
    Calm N D R p₀ now cap r₀ (portChanged p old s) := by
  have h1 : Calm N D R p₀ now cap r₀ (if old = .connected then askRelease (callsEnded s) else s) := by
    split
    · exact askRelease_calm (callsEnded_calm h)
    · exact h
  unfold portChanged
  dsimp only
  split
  · exact h
  · generalize (if old = PortState.connected then askRelease (callsEnded s) else s) = u at h1
    have h2 : Calm N D R p₀ now cap r₀ (if (s.port p).state.quiet = true then stepUpCheck u else u) := by
      split
      · exact stepUpCheck_calm h1
      · exact h1
    split
    · exact autoLifeline_calm hr h2
    · exact h2

/-! ## The ring supply's lists (R48, R109 to R113) -/

/-- The edge of a ring burst moves a timer that no stage looks at. -/
@[simp] theorem ringEdge_calm (h : Calm N D R p₀ now cap r₀ s) : Calm N D R p₀ now cap r₀ (ringEdge s) :=
  onLks_calm h (eq_true fun _ hs => hs)

@[simp] theorem grantBurst_calm (p : PortId) (n : Nat) (h : Calm N D R p₀ now cap r₀ s) :
    Calm N D R p₀ now cap r₀ (grantBurst p n s) :=
  ringEdge_calm (onSeq_calm (onRsc_calm h (eq_true rfl)) _ _)

@[simp] theorem tryHead_calm (h : Calm N D R p₀ now cap r₀ s) : Calm N D R p₀ now cap r₀ (tryHead s) := by
  unfold tryHead
  split
  · exact h
  · split
    · exact grantBurst_calm _ _ (onRsc_calm h (eq_true rfl))
    · exact h

@[simp] theorem tryWaits_calm (h : Calm N D R p₀ now cap r₀ s) : Calm N D R p₀ now cap r₀ (tryWaits s) :=
  tryHead_calm (tryHead_calm h)

@[simp] theorem idleCheck_calm (h : Calm N D R p₀ now cap r₀ s) : Calm N D R p₀ now cap r₀ (idleCheck s) := by
  unfold idleCheck
  split
  · exact onRsc_calm h (eq_true rfl)
  · exact h

@[simp] theorem endBurst_calm (p : PortId) (h : Calm N D R p₀ now cap r₀ s) :
    Calm N D R p₀ now cap r₀ (endBurst p s) := by
  unfold endBurst
  split
  · exact idleCheck_calm (tryWaits_calm (ringEdge_calm (onRsc_calm h (eq_true rfl))))
  · exact h

@[simp] theorem leaveWaits_calm (p : PortId) (h : Calm N D R p₀ now cap r₀ s) :
    Calm N D R p₀ now cap r₀ (leaveWaits p s) := by
  unfold leaveWaits
  split
  · exact idleCheck_calm (tryWaits_calm (onRsc_calm h (eq_true rfl)))
  · exact h

/-! ## A sequencer stopped; entry to IDLE and to DISABLED (R77, R87, R107) -/

@[simp] theorem clearMarkers_calm (p : PortId) (h : Calm N D R p₀ now cap r₀ s) :
    Calm N D R p₀ now cap r₀ (clearMarkers p s) := onPort_calm h (eq_true fun _ _ hq => hq)

theorem stopSeq_calm (c : Option DoneCause) (p : PortId) (h : Calm N D R p₀ now cap r₀ s) :
    Calm N D R p₀ now cap r₀ (stopSeq c p s) := by
  unfold stopSeq
  split
  · exact h
  · rename_i r _
    have h2 : Calm N D R p₀ now cap r₀ (if r.burst = true then endBurst p (s.onSeq p fun q => { q with run := none })
        else s.onSeq p fun q => { q with run := none }) := by
      split
      · exact endBurst_calm p (onSeq_calm h _ _)
      · exact onSeq_calm h _ _
    dsimp only
    generalize (if r.burst = true then endBurst p (s.onSeq p fun q => { q with run := none })
      else s.onSeq p fun q => { q with run := none }) = u at h2
    have h3 : Calm N D R p₀ now cap r₀ (clearMarkers p (if r.phase = .waitingSupply then leaveWaits p u else u)) := by
      split
      · exact clearMarkers_calm p (leaveWaits_calm p h2)
      · exact clearMarkers_calm p h2
    split
    · exact h3
    · exact notice_calm h3 _

@[simp] theorem clearWiring_calm (p : PortId) (old : PortState) (h : Calm N D R p₀ now cap r₀ s) :
    Calm N D R p₀ now cap r₀ (clearWiring p old s) := by
  unfold clearWiring
  split
  · exact clearFault_calm (clearFault_calm h _ _) _ _
  · exact h

@[simp] theorem shedAtIdle_calm (p : PortId) (h : Calm N D R p₀ now cap r₀ s) :
    Calm N D R p₀ now cap r₀ (shedAtIdle p s) := by
  unfold shedAtIdle
  split
  · exact onPort_calm h (eq_true fun _ _ _ => rfl)
  · exact h

theorem enterIdle_calm (p : PortId) (h : Calm N False False p₀ now cap r₀ s) :
    Calm N False False p₀ now cap r₀ (enterIdle p s) :=
  portChanged_calm _ _ False.elim
    (shedAtIdle_calm p (clearWiring_calm p _ (onPort_calm (stopSeq_calm _ _ h) (eq_true False.elim))))

theorem enterDisabled_calm (c : DisableCause) (p : PortId) (h : Calm N D False p₀ now cap r₀ s) :
    Calm N D False p₀ now cap r₀ (enterDisabled c p s) :=
  portChanged_calm _ _ False.elim (clearWiring_calm p _ (onPort_calm (stopSeq_calm _ _ h) (eq_true fun _ _ _ => rfl)))

/-- HPC1's local activity ends under a relay that moves. -/
theorem endLocal_calm (hr : R → r₀.move ≠ none) (h : Calm N D R p₀ now cap r₀ s) :
    Calm N D R p₀ now cap r₀ (endLocal s) :=
  portChanged_calm _ _ hr (clearWiring_calm _ _ (onPort_calm (stopSeq_calm _ _ h) (eq_true fun _ e => nomatch e)))

end Sys2Proof.Machine
end

section
/-! PROOFS. Chapter 10: the sequencers and the ring supply are calm while RSC takes a stage (R100 to R110). -/

namespace Sys2Proof.Machine
open Sys2Proof

variable {N D R : Prop} {p₀ : Psv} {now cap : Nat} {r₀ : Relay} {s : State}
open State

/-! ## Segments (R100 to R103) -/

theorem joinWaits_calm (p : PortId) (n : Nat) (h : Calm N False False p₀ now cap r₀ s) :
    Calm N False False p₀ now cap r₀ (joinWaits p n s) := onRsc_calm h (eq_true rfl)

theorem countSkip_calm (p : PortId) (h : Calm N False False p₀ now cap r₀ s) :
    Calm N False False p₀ now cap r₀ (countSkip p s) := onSeq_calm (onRsc_calm h (eq_true rfl)) _ _

theorem beginSegment_calm (p : PortId) (h : Calm N False False p₀ now cap r₀ s) :
    Calm N False False p₀ now cap r₀ (beginSegment p s).2 := by
  unfold beginSegment
  split
  · exact h
  · dsimp only
    split
    · split
      · exact countSkip_calm p (onSeq_calm h _ _)
      · split
        · exact grantBurst_calm p _ (onSeq_calm h _ _)
        · exact joinWaits_calm p _ (onSeq_calm h _ _)
    · dsimp only
      exact onSeq_calm h _ _

theorem toldOfEnd_calm (p : PortId) (h : Calm N False False p₀ now cap r₀ s) :
    Calm N False False p₀ now cap r₀ (toldOfEnd p s) := by
  unfold toldOfEnd
  dsimp only
  split
  · exact enterIdle_calm p (clearMarkers_calm p h)
  · exact clearMarkers_calm p h

theorem endProgram_calm (c : DoneCause) (p : PortId) (r : SeqRun) (h : Calm N False False p₀ now cap r₀ s) :
    Calm N False False p₀ now cap r₀ (endProgram c p r s).2 := by
  unfold endProgram
  dsimp only
  split
  · dsimp only
    exact onSeq_calm (clearMarkers_calm p (notice_calm h _)) _ _
  · exact toldOfEnd_calm p (onSeq_calm (notice_calm h _) _ _)

theorem nextSegment_calm (p : PortId) (r : SeqRun) (h : Calm N False False p₀ now cap r₀ s) :
    Calm N False False p₀ now cap r₀ (nextSegment p r s).2 := by
  unfold nextSegment
  split
  · dsimp only
    exact onSeq_calm h _ _
  · dsimp only
    exact onSeq_calm h _ _

theorem segmentTail_calm (p : PortId) (r : SeqRun) (h : Calm N False False p₀ now cap r₀ s) :
    Calm N False False p₀ now cap r₀ (segmentTail p r s).2 := by
  unfold segmentTail
  dsimp only
  split
  · exact endProgram_calm _ p r h
  · split
    · split
      · exact nextSegment_calm p _ h
      · split
        · exact nextSegment_calm p _ h
        · exact endProgram_calm _ p r h
    · exact nextSegment_calm p _ h

theorem segmentEnds_calm (b : Bool) (p : PortId) (h : Calm N False False p₀ now cap r₀ s) :
    Calm N False False p₀ now cap r₀ (segmentEnds b p s).2 := by
  unfold segmentEnds
  split
  · exact h
  · rename_i r0 _
    have h1 : Calm N False False p₀ now cap r₀
        (if (s.segmentOf { r0 with burst := false, left := 0 }).mark then
          notice (.seqMark p r0.program r0.segment r0.pass b s.uptime) s else s) := by
      split
      · exact notice_calm h _
      · exact h
    dsimp only
    split
    · dsimp only
      exact onSeq_calm h1 _ _
    · exact segmentTail_calm p _ h1

theorem runSegments_calm (n : Nat) (p : PortId) (h : Calm N False False p₀ now cap r₀ s) :
    Calm N False False p₀ now cap r₀ (runSegments n p s) := by
  induction n generalizing s with
  | zero => exact onSeq_calm h _ _
  | succ n ih =>
    have hb := beginSegment_calm p h
    unfold runSegments
    split
    · rename_i s1 e
      rwa [e] at hb
    · rename_i s1 e
      rw [e] at hb
      have he := segmentEnds_calm true p hb
      split
      · rename_i s2 e2
        rwa [e2] at he
      · rename_i s2 e2
        rw [e2] at he
        exact ih he

theorem takeSegmentEnd_calm (b : Bool) (p : PortId) (h : Calm N False False p₀ now cap r₀ s) :
    Calm N False False p₀ now cap r₀ (takeSegmentEnd b p s) := by
  unfold takeSegmentEnd runOn
  split
  · exact runSegments_calm _ p (segmentEnds_calm b p h)
  · exact segmentEnds_calm b p h

/-! ## Skips and cuts (R103, R110) -/

theorem skipWaiter_calm (p : PortId) (h : Calm N False False p₀ now cap r₀ s) :
    Calm N False False p₀ now cap r₀ (skipWaiter p s) := by
  unfold skipWaiter
  split
  · exact takeSegmentEnd_calm true p (leaveWaits_calm p (countSkip_calm p h))
  · exact h

theorem cutBurst_calm (p : PortId) (h : Calm N False False p₀ now cap r₀ s) :
    Calm N False False p₀ now cap r₀ (cutBurst p s) := by
  unfold cutBurst
  split
  · exact takeSegmentEnd_calm true p (endBurst_calm p (onSeq_calm (onRsc_calm h (eq_true rfl)) _ _))
  · exact h

theorem cutExcess_calm (n : Nat) (h : Calm N False False p₀ now cap r₀ s) :
    Calm N False False p₀ now cap r₀ (cutExcess n s) := by
  induction n generalizing s with
  | zero => exact h
  | succ n ih =>
    unfold cutExcess
    split
    · split
      · exact ih (cutBurst_calm _ h)
      · exact h
    · exact h

theorem skipExcess_calm (ws : List RingEntry) (h : Calm N False False p₀ now cap r₀ s) :
    Calm N False False p₀ now cap r₀ (skipExcess ws s) := by
  induction ws generalizing s with
  | nil => exact h
  | cons e ws ih =>
    refine ih (s := if s.rsc.capacity < e.load then skipWaiter e.port s else s) ?_
    split
    · exact skipWaiter_calm _ h
    · exact h

theorem offAtZero_calm (h : Calm N False False p₀ now cap r₀ s) : Calm N False False p₀ now cap r₀ (offAtZero s) := by
  unfold offAtZero
  split
  · exact onRsc_calm h (eq_true rfl)
  · exact h

/-- RSC takes the capacity of the stage and nothing else that a stage looks at. -/
theorem supplyStage_calm (h : Calm N False False p₀ now cap r₀ s) :
    Calm N False False p₀ now (capacityOf p₀.stage) r₀ (supplyStage s) := by
  have h1 : Calm N False False p₀ now (capacityOf p₀.stage) r₀
      (s.onRsc fun r => { r with capacity := capacityOf s.psv.stage }) :=
    ⟨h.psv, h.clock, congrArg (fun p : Psv => capacityOf p.stage) h.psv, h.off, False.elim, False.elim⟩
  unfold supplyStage
  dsimp only
  split
  · exact offAtZero_calm (skipExcess_calm _ (cutExcess_calm 2 h1))
  · split
    · exact tryWaits_calm h1
    · exact h1

/-! ## HPC2 (R90) -/

theorem portStage_calm (h : Calm N False False p₀ now cap r₀ s) :
    Calm N False False p₀ now cap r₀ (portStage s) := by
  unfold portStage
  split
  · split
    · exact enterIdle_calm .two h
    · exact h
  · exact h
  · split
    · exact enterDisabled_calm _ .two h
    · exact h
  · split
    · exact h
    · exact enterDisabled_calm _ .two h

/-- HPC2 at entry to LIFELINE stage (R90). -/
theorem portStage_of_lifeline (hs : s.psv.stage = .lifeline) :
    (s.hpc2.state = .disabled → portStage s = s)
      ∧ (s.hpc2.state ≠ .disabled → portStage s = enterDisabled .power .two s) := by
  unfold portStage
  rw [hs]
  exact ⟨fun h => if_pos h, fun h => if_neg h⟩

/-- HPC2 is DISABLED in LIFELINE stage. -/
theorem portStage_disables (hs : s.psv.stage = .lifeline) (h : Calm N False False p₀ now cap r₀ s) :
    Calm N True False p₀ now cap r₀ (portStage s) := by
  by_cases hd : s.hpc2.state = .disabled
  · rw [(portStage_of_lifeline hs).1 hd]
    exact ⟨h.psv, h.clock, h.capacity, h.off, fun _ => hd, False.elim⟩
  · rw [(portStage_of_lifeline hs).2 hd]
    have hq := stopSeq_calm (some .port) .two h
    have h1 : Calm N True False p₀ now cap r₀
        ((stopSeq (some .port) .two s).onPort .two (Port.toDisabled .power)) :=
      ⟨hq.psv, hq.clock, hq.capacity, hq.off, fun _ => rfl, False.elim⟩
    exact portChanged_calm _ _ False.elim (clearWiring_calm .two _ h1)

end Sys2Proof.Machine
end

section
/-! PROOFS. Chapter 10: a change of stage (R177 to R179): what it leaves alone, and what it brings about. -/

namespace Sys2Proof.Machine
open Sys2Proof

variable {N D R : Prop} {p₀ : Psv} {now cap : Nat} {r₀ : Relay} {s : State}
open State

/-! ## LKS takes the stage (R41 to R43) -/

/-- A link that was at rest when OFF is at rest: it is OFF, without timers and claim. -/
theorem linkOff_calm (r : DropReason) (hs : s.lks.state = .off → s.lks.stopped ∧ s.pac.link.state = .free)
    (h : Calm False D R p₀ now cap r₀ s) : Calm True D R p₀ now cap r₀ (linkOff r s) := by
  have hfree : ∀ u : State, (releaseLink u).pac.link.state = .free := fun u => releaseLink_link u
  unfold linkOff
  split
  · rename_i ho
    exact ⟨h.psv, h.clock, h.capacity, fun _ => hs ho, h.two, h.relay⟩
  · exact toOff_calm _ (releaseLink_calm (trialEnd_calm h)) fun _ => hfree _
  · exact leaveCarrying_calm _ (toOff_calm _ (releaseLink_calm (countDrop_calm _ (trialEnd_calm h))) fun _ => hfree _)
  · exact toOff_calm _ (abandonAttempt_calm (countDrop_calm _ h)) fun _ => hfree _

theorem trialStage_calm (h : Calm False D R p₀ now cap r₀ s) : Calm False D R p₀ now cap r₀ (trialStage s) := by
  unfold trialStage
  split
  · exact h
  · exact onLks_calm h (eq_true False.elim)

theorem linkMains_calm (h : Calm False D R p₀ now cap r₀ s) : Calm False D R p₀ now cap r₀ (linkMains s) := by
  have h1 : Calm False D R p₀ now cap r₀ (s.onLks fun k => { k with powerDropEnd := none }) :=
    onLks_calm h (eq_true False.elim)
  unfold linkMains
  dsimp only
  split
  · exact stepUpCheck_calm (beginAttempt_calm _ h1)
  · exact stepUpCheck_calm (rerunAttempt_calm h1)

theorem linkConserve_calm (h : Calm False D R p₀ now cap r₀ s) : Calm False D R p₀ now cap r₀ (linkConserve s) := by
  unfold linkConserve
  split
  · split
    · dsimp only
      split
      · exact dropByReason_calm _ _ (onLks_calm h (eq_true False.elim))
      · exact onLks_calm h (eq_true False.elim)
    · exact beginAttempt_calm _ (abandonAttempt_calm h)
    · exact beginAttempt_calm _ (abandonAttempt_calm h)
    · exact rerunAttempt_calm h
  · exact rerunAttempt_calm h

theorem linkStage_calm (h : Calm False D R p₀ now cap r₀ s) : Calm False D R p₀ now cap r₀ (linkStage s) := by
  unfold linkStage
  dsimp only
  split
  · exact linkMains_calm (trialStage_calm h)
  · exact rerunAttempt_calm (trialStage_calm h)
  · exact linkConserve_calm (trialStage_calm h)
  · have ht := trialStage_calm h
    unfold linkOff
    split
    · exact ht
    · exact toOff_calm _ (releaseLink_calm (trialEnd_calm ht)) False.elim
    · exact leaveCarrying_calm _ (toOff_calm _ (releaseLink_calm (countDrop_calm _ (trialEnd_calm ht))) False.elim)
    · exact toOff_calm _ (abandonAttempt_calm (countDrop_calm _ ht)) False.elim

/-- Every state is calm as it stands. -/
theorem calm_here (s : State) : Calm False False True s.psv s.clock s.rsc.capacity s.pac.relay s :=
  ⟨rfl, rfl, rfl, False.elim, False.elim, fun _ => rfl⟩

/-! ## PAC takes the stage (R14, R179) -/

theorem endLocal_relay (h : s.pac.relay.move ≠ none) : (endLocal s).pac.relay = s.pac.relay :=
  (endLocal_calm (fun _ => h) (calm_here s)).relay trivial

theorem copperCause_calm (c : CopperReason) (h : Calm N D False p₀ now cap r₀ s) :
    Calm N D False p₀ now cap r₀ (copperCause c s) := by
  have hpac : ∀ f : Pac → Pac, (∀ p, (f p).link = p.link) → Calm N D False p₀ now cap r₀ (s.onPac f) := fun f hf =>
    onPac_calm h (eq_true fun _ hl => (congrArg Claim.state (hf _)).trans hl) (eq_true False.elim)
  unfold copperCause copperCauseAtRest
  split
  · split
    · exact hpac _ fun _ => rfl
    · exact hpac _ fun _ => rfl
  · split
    · exact endLocal_calm False.elim (hpac _ fun _ => rfl)
    · dsimp only
      split
      · exact notice_calm (hpac (fun p => { p with relay := { p.relay with reason := c, deferred := false } })
          fun _ => rfl) _
      · exact hpac _ fun _ => rfl

theorem pairStage_of_lifeline (hs : s.psv.stage = .lifeline) : pairStage s = copperCause .power s := if_pos hs
theorem pairStage_of_other (hs : s.psv.stage ≠ .lifeline) : pairStage s = s := if_neg hs

theorem pairStage_calm (h : Calm N D False p₀ now cap r₀ s) : Calm N D False p₀ now cap r₀ (pairStage s) := by
  unfold pairStage
  split
  · exact copperCause_calm _ h
  · exact h

section CopperRelay

variable {c : CopperReason}

theorem copperCause_relay_of_rest (hm : s.pac.relay.move = none) (hp : s.pac.relay.pos = .copper) :
    (copperCause c s).pac.relay = { s.pac.relay with reason := c, deferred := false } := by
  rw [copperCause_of_rest hm hp]
  by_cases hd : s.pac.relay.deferred = true
  · rw [copperCauseAtRest_of_deferred hd]
    rfl
  · rw [copperCauseAtRest_of_plain (by simpa using hd)]

/-- The relay on its way to COPPER, begun just now. -/
def Relay.sentTo (c : CopperReason) (now : Nat) (r : Relay) : Relay :=
  { r with move := some { target := .copper, doneAt := now + 30, reason := c, carriesOut := false } }

theorem copperCause_relay_of_local (hm : s.pac.relay.move = none) (hp : s.pac.relay.pos = .localPort) :
    (copperCause c s).pac.relay = s.pac.relay.sentTo c s.clock := by
  rw [copperCause_of_local hm hp]
  exact endLocal_relay (s := startCopperMove c s) (by simp [startCopperMove, State.onPac])

theorem copperCause_relay_of_toLocal {m : RelayMove} (hm : s.pac.relay.move = some m) (ht : m.target = .localPort) :
    (copperCause c s).pac.relay = s.pac.relay.sentTo c s.clock := by
  rw [copperCause_of_toLocal hm ht]
  rfl

theorem copperCause_relay_of_toCopper {m : RelayMove} (hm : s.pac.relay.move = some m) (ht : m.target = .copper) :
    (copperCause c s).pac.relay = { s.pac.relay with move := some { m with reason := c } } := by
  rw [copperCause_of_toCopper hm ht]
  rfl

/-- The relay rests in COPPER or moves there, with no deferred LOCAL request (R15, R179). -/
def Relay.towardCopper (r : Relay) : Prop :=
  r.deferred = false ∧ (r.move = none → r.pos = .copper) ∧ ∀ m, r.move = some m → m.target = .copper

theorem Pac.towardCopper_iff (p : Pac) : p.towardCopper ↔ p.link.state = .free ∧ p.relay.towardCopper := Iff.rfl

theorem Relay.sentTo_towardCopper {r : Relay} (n : Nat) (h : r.deferred = false) : (r.sentTo c n).towardCopper := by
  refine ⟨h, fun e => (by cases e), fun m e => ?_⟩
  obtain rfl := Option.some.inj e
  rfl

/-- A COPPER cause brings the relay toward COPPER where a deferred request was held at rest only. -/
theorem copperCause_towardCopper
    (hd : s.pac.relay.deferred = true → s.pac.relay.move = none ∧ s.pac.relay.pos = .copper) :
    (copperCause c s).pac.relay.towardCopper := by
  have plain : ¬(s.pac.relay.move = none ∧ s.pac.relay.pos = .copper) → s.pac.relay.deferred = false := fun hn =>
    Bool.eq_false_iff.mpr (mt hd hn)
  cases hm : s.pac.relay.move with
  | none =>
    cases hp : s.pac.relay.pos with
    | copper =>
      rw [copperCause_relay_of_rest hm hp]
      exact ⟨rfl, fun _ => hp, fun m e => nomatch hm.symm.trans e⟩
    | localPort =>
      rw [copperCause_relay_of_local hm hp]
      exact Relay.sentTo_towardCopper _ (plain (by simp [hp]))
  | some m =>
    have hdef : s.pac.relay.deferred = false := plain (by simp [hm])
    cases ht : m.target with
    | localPort =>
      rw [copperCause_relay_of_toLocal hm ht]
      exact Relay.sentTo_towardCopper _ hdef
    | copper =>
      rw [copperCause_relay_of_toCopper hm ht]
      refine ⟨hdef, fun e => (by cases e), fun m' e => ?_⟩
      obtain rfl := Option.some.inj e
      exact ht

end CopperRelay

/-! ## LTU takes the stage (R146) -/

theorem grantTest_queue_length (s : State) : (grantTest s).ltu.queue.length = s.ltu.queue.length := by
  unfold grantTest Ltu.settle
  cases hq : s.ltu.queue with
  | nil => simp [State.onLtu, State.onPac, hq]
  | cons e rest => simp [State.onLtu, State.onPac, hq]

theorem reexamine_queue_length (s : State) : (reexamine s).ltu.queue.length = s.ltu.queue.length := by
  unfold reexamine
  split
  · exact grantTest_queue_length s
  · split
    · rfl
    · rfl

theorem freeTest_ltu (s : State) : (freeTest s).ltu = s.ltu := by rw [freeTest_eq]

/-- A head that ends leaves the queue one shorter. -/
theorem cutHead_queue_length (r : AbortReason) (s : State) :
    (cutHead false r s).ltu.queue.length = s.ltu.queue.length - 1 := by
  cases hq : s.ltu.queue with
  | nil => simp only [cutHead, hq, List.length_nil]
  | cons e rest =>
    have hc : cutHead false r s = finishTest true false e (cutStatus s.ltu.run) (some r) s := by
      simp only [cutHead, hq]
    have he : eraseFirst (fun x => decide (x.job = e.job)) s.ltu.queue = rest := by
      rw [hq]
      exact if_pos (decide_eq_true rfl)
    rw [hc]
    refine (reexamine_queue_length _).trans ?_
    rw [resultFault_ltu]
    refine (congrArg (fun l : Ltu => l.queue.length) (freeTest_ltu _)).trans ?_
    exact (congrArg List.length he).trans (by simp)

theorem emptyQueue_queue (n : Nat) {s : State} (h : s.ltu.queue.length ≤ n) : (emptyQueue n s).ltu.queue = [] := by
  induction n generalizing s with
  | zero => exact List.eq_nil_of_length_eq_zero (Nat.le_zero.mp h)
  | succ n ih => exact ih (by rw [cutHead_queue_length]; omega)

theorem testStage_queue (h : s.psv.stage = .conserve ∨ s.psv.stage = .lifeline) : (testStage s).ltu.queue = [] := by
  unfold testStage
  rw [if_pos (by simpa using h)]
  exact emptyQueue_queue _ (Nat.le_refl _)

/-! ## PSV enters a stage (R179) -/

theorem stageFaults_calm (h : Calm N D R p₀ now cap r₀ s) : Calm N D R p₀ now cap r₀ (stageFaults s) := by
  unfold stageFaults
  split
  · exact clearFault_calm (clearFault_calm h _ _) _ _
  · exact report_calm h _ _ _ _
  · exact report_calm h _ _ _ _

theorem stageFaults_ltu (s : State) : (stageFaults s).ltu = s.ltu := by
  unfold stageFaults
  split
  · rw [clearFault_ltu, clearFault_ltu]
  · exact report_ltu ..
  · exact report_ltu ..

/-- PSV's record of the stage has been written. -/
def stageWritten (stage : HoldStage) (cause : StageCause) (s : State) : State :=
  s.onPsv (Psv.enter stage cause s.clock s.uptime s.stage1Ms)

/-- The blocks have taken the stage, in their order (log 17). -/
def stageTold (s : State) : State := testStage (pairStage (portStage (supplyStage (linkStage s))))

theorem enterStage_eq (stage : HoldStage) (cause : StageCause) (s : State) :
    let told := stageTold (stageWritten stage cause s)
    enterStage stage cause s
      = stageFaults (notice (.powerStage stage (some s.psv.stage) cause told.psv.battery told.uptime) told) := rfl

/-- The stage is written with the record, and nothing takes it back. -/
theorem enterStage_calm (stage : HoldStage) (cause : StageCause) (s : State) :
    Calm False False False (Psv.enter stage cause s.clock s.uptime s.stage1Ms s.psv) s.clock (capacityOf stage)
      s.pac.relay (enterStage stage cause s) := by
  have h1 : Calm False False False (Psv.enter stage cause s.clock s.uptime s.stage1Ms s.psv) s.clock s.rsc.capacity
      s.pac.relay (stageWritten stage cause s) := ⟨rfl, rfl, rfl, False.elim, False.elim, False.elim⟩
  exact stageFaults_calm (notice_calm
    (testStage_calm (pairStage_calm (portStage_calm (supplyStage_calm (linkStage_calm h1))))) _)

theorem enterStage_queue {stage : HoldStage} (cause : StageCause) (s : State)
    (h : stage = .conserve ∨ stage = .lifeline) : (enterStage stage cause s).ltu.queue = [] := by
  have h1 : Calm False False False (Psv.enter stage cause s.clock s.uptime s.stage1Ms s.psv) s.clock s.rsc.capacity
      s.pac.relay (stageWritten stage cause s) := ⟨rfl, rfl, rfl, False.elim, False.elim, False.elim⟩
  have hp := pairStage_calm (portStage_calm (supplyStage_calm (linkStage_calm h1)))
  have hst : (pairStage (portStage (supplyStage (linkStage (stageWritten stage cause s))))).psv.stage = stage :=
    congrArg Psv.stage hp.psv
  rw [enterStage_eq, stageFaults_ltu]
  exact testStage_queue (by rwa [hst])

end Sys2Proof.Machine
end

section
/-! PROOFS. Chapter 10: entry to LIFELINE brings about what that stage demands (R14, R43, R90, R146, R179). -/

namespace Sys2Proof.Machine
open Sys2Proof

variable {p₀ : Psv} {now cap : Nat} {r₀ : Relay} {s : State}
open State

/-- A part at rest, with nothing else kept. -/
theorem keeps_rest (h : s.atRest) :
    Keeps False True False False (s.sst, s.psv.stage) s.pending s.mpt.replies none s :=
  ⟨rfl, rfl, rfl, False.elim, False.elim, fun _ => h, False.elim, False.elim, False.elim, False.elim, False.elim,
    False.elim⟩

theorem linkStage_of_lifeline (hs : s.psv.stage = .lifeline) : linkStage s = linkOff .power (trialStage s) := by
  have ht : (trialStage s).psv.stage = .lifeline := by
    unfold trialStage
    split
    · exact hs
    · exact hs
  unfold linkStage
  dsimp only
  rw [ht]

/-- The trial that ends with MAINS stage is no matter of an OFF link. -/
theorem trialStage_rests (h : s.atRest) :
    (trialStage s).lks.state = .off → (trialStage s).lks.stopped ∧ (trialStage s).pac.link.state = .free := by
  unfold trialStage
  split
  · exact h.1
  · exact h.1

/-- The blocks other than LTU have taken LIFELINE stage. -/
def lifelineTold (s : State) : State := pairStage (portStage (supplyStage (linkStage s)))

theorem lifelineTold_calm (hs : s.psv.stage = .lifeline) (hr : s.atRest) :
    Calm True True True s.psv s.clock (capacityOf s.psv.stage) (lifelineTold s).pac.relay (lifelineTold s) := by
  have h1 : Calm False False False s.psv s.clock s.rsc.capacity s.pac.relay (trialStage s) :=
    trialStage_calm ⟨rfl, rfl, rfl, False.elim, False.elim, False.elim⟩
  have h2 := linkOff_calm .power (trialStage_rests hr) h1
  rw [← linkStage_of_lifeline hs] at h2
  have h3 := supplyStage_calm h2
  have h4 := pairStage_calm (portStage_disables ((congrArg Psv.stage h3.psv).trans hs) h3)
  exact ⟨h4.psv, h4.clock, h4.capacity, h4.off, h4.two, fun _ => rfl⟩

theorem lifelineTold_relay (hs : s.psv.stage = .lifeline) (hr : s.atRest) :
    (lifelineTold s).pac.relay.towardCopper := by
  have hk := portStage_keeps (supplyStage_keeps (linkStage_keeps (keeps_rest hr)))
  have hst : (portStage (supplyStage (linkStage s))).psv.stage = .lifeline := (congrArg Prod.snd hk.store).trans hs
  unfold lifelineTold
  rw [pairStage_of_lifeline hst]
  exact copperCause_towardCopper (hk.link trivial).2

/-- Entry to LIFELINE brings about all that the stage demands. -/
theorem enterStage_inLifeline (cause : StageCause) (hr : s.atRest) : (enterStage .lifeline cause s).inLifeline := by
  have hr1 : (stageWritten .lifeline cause s).atRest := hr
  have h1 := lifelineTold_calm rfl hr1
  have hrelay := lifelineTold_relay rfl hr1
  have h2 : Calm True True True (stageWritten .lifeline cause s).psv s.clock (capacityOf .lifeline)
      (lifelineTold (stageWritten .lifeline cause s)).pac.relay (enterStage .lifeline cause s) :=
    stageFaults_calm (notice_calm (testStage_calm h1) _)
  obtain ⟨hstopped, hfree⟩ := h2.off trivial
  refine ⟨congrArg Psv.stage h2.psv, hstopped, (Pac.towardCopper_iff _).mpr ⟨hfree, ?_⟩, h2.two trivial,
    enterStage_queue cause s (.inr rfl)⟩
  rw [h2.relay trivial]
  exact hrelay

/-- HPC2 is DISABLED behind entry to LIFELINE, whatever the part was in. -/
theorem enterStage_disables (cause : StageCause) (s : State) : (enterStage .lifeline cause s).hpc2.state = .disabled := by
  have h1 : Calm False False False (stageWritten .lifeline cause s).psv s.clock s.rsc.capacity s.pac.relay
      (stageWritten .lifeline cause s) := ⟨rfl, rfl, rfl, False.elim, False.elim, False.elim⟩
  have h3 := supplyStage_calm (linkStage_calm h1)
  have h4 := portStage_disables (congrArg Psv.stage h3.psv) h3
  exact (stageFaults_calm (notice_calm (testStage_calm (pairStage_calm h4)) _)).two trivial

/-! ## What every step in LIFELINE keeps -/

/-- A part in LIFELINE stage keeps the invariant of that stage, the others left aside. -/
theorem good_inLifeline (h : s.inLifeline) : Good False False False True s.pending s :=
  good_of False.elim False.elim False.elim fun _ => h

theorem exec_inLifeline {c : Instr} {s t : State} (h : s.inLifeline) (he : exec c s = .next t)
    (ht : t.psv.stage = .lifeline) : t.inLifeline := by
  obtain ⟨_, _, hk⟩ := exec_good c (good_inLifeline h) he
  exact hk.held ⟨trivial, ht⟩

theorem step_inLifeline {s t : State} (h : s.inLifeline) (he : step s = .next t) (ht : t.psv.stage = .lifeline) :
    t.inLifeline := by
  obtain ⟨_, _, _, hk⟩ := step_good (good_inLifeline h) he
  exact hk.held ⟨trivial, ht⟩

/-- A part that starts in LIFELINE stage starts with what the stage demands. -/
theorem fullReset_inLifeline (reason : StartReason) {s : State} (h : s.psv.stopping = false)
    (ht : (fullReset reason s).psv.stage = .lifeline) : (fullReset reason s).inLifeline := by
  have he : fullReset reason s = startBlocks reason s.flg.fullReset s.psv.mainsInput s.psv.batteryInput
      s.psv.enclosureInputOpen s := if_neg (by simp [h])
  rw [he] at ht ⊢
  obtain ⟨_, _, hk⟩ := startBlocks_good (B := False) (K := False) (F := False) (s := s) (q₀ := s.pending) reason
    (flg := s.flg.fullReset) (by simp [Flg.fullReset]) List.Pairwise.nil s.psv.mainsInput s.psv.batteryInput
    s.psv.enclosureInputOpen rfl
  exact hk.held ht

end Sys2Proof.Machine
end

section
/-! PROOFS. Chapter 10: what each block does with a stage (R41 to R43, R64, R90, R179). -/

namespace Sys2Proof.Machine
open Sys2Proof

variable {s : State}

/-! ## LKS (R41 to R43, R64) -/

/-- Outside MAINS a trial whose watch has not begun ends. -/
theorem trialStage_of_other (hs : s.psv.stage ≠ .mains) :
    trialStage s
      = { s with lks := { s.lks with trial := s.lks.trial.filter fun x => x.watchEnd.isSome } } := if_neg hs

theorem fullRung_iff (k : Lks) : k.fullRung = true ↔ ∃ r, rungIn k.ladder k.rung = some r ∧ r.power = .full := by
  unfold Lks.fullRung
  cases h : rungIn k.ladder k.rung with
  | none => simp
  | some r => simp

theorem rerunAttempt_of_barred (h : s.lks.state = .waiting ∧ s.lks.wait = some .noPermittedRung) :
    rerunAttempt s = beginAttempt .other s := if_pos (by simp [h])

theorem rerunAttempt_of_other (h : ¬(s.lks.state = .waiting ∧ s.lks.wait = some .noPermittedRung)) :
    rerunAttempt s = s := if_neg (by simpa using h)

/-- A link that asks for no full rung, or is not under way, goes on as the rungs permitted now let it (R42). -/
theorem linkConserve_of_rests (h : ¬s.lks.fullRung = true ∨
      ¬(s.lks.state = .carrying ∨ s.lks.state = .greeting ∨ s.lks.state = .training)) :
    linkConserve s = rerunAttempt s := by
  by_cases hf : s.lks.fullRung = true
  · obtain ⟨hc, hg, ht⟩ := not_or.mp (h.resolve_left (not_not_intro hf)) |>.imp_right not_or.mp
    unfold linkConserve
    rw [if_pos hf]
    split
    · exact absurd ‹_› hc
    · exact absurd ‹_› hg
    · exact absurd ‹_› ht
    · rfl
  · exact if_neg hf

/-- A link on a full rung drops for power, at once or when the last call ends (R42). -/
theorem linkConserve_of_carrying (hf : s.lks.fullRung = true) (hc : s.lks.state = .carrying) :
    let due : State := { s with lks := { s.lks with powerDropEnd := some (s.clock + 120000) } }
    linkConserve s =
      if s.noCall then dropOrderly .power .waiting none { due with lks := { due.lks with trial := none } } else due := by
  intro due
  have he : linkConserve s = if due.noCall then powerDrop due else due := by
    unfold linkConserve
    rw [if_pos hf]
    simp only [hc]
    exact rfl
  exact he

theorem linkConserve_of_attempt (hf : s.lks.fullRung = true) (h : s.lks.state = .greeting ∨ s.lks.state = .training) :
    linkConserve s = beginAttempt .other (abandonAttempt s) := by
  unfold linkConserve
  rw [if_pos hf]
  rcases h with h | h
  · simp only [h]
  · simp only [h]

theorem linkStage_of_conserve (hs : s.psv.stage = .conserve) : linkStage s = linkConserve (trialStage s) := by
  rw [linkStage, trialStage_of_other (by simp [hs])]
  simp only [hs]

theorem linkStage_of_battery (hs : s.psv.stage = .battery) : linkStage s = rerunAttempt (trialStage s) := by
  rw [linkStage, trialStage_of_other (by simp [hs])]
  simp only [hs]

theorem linkStage_of_mains (hs : s.psv.stage = .mains) : linkStage s = linkMains s := by
  have ht : trialStage s = s := if_pos hs
  rw [linkStage, ht]
  simp only [hs]

/-- In CONSERVE the link leaves a full rung (R42). -/
theorem linkStage_conserve (s : State) (hs : s.psv.stage = .conserve) :
    let k := s.lks
    let t : State := { s with lks := { k with trial := k.trial.filter fun x => x.watchEnd.isSome } }
    let full := ∃ r, rungIn k.ladder k.rung = some r ∧ r.power = .full
    let due : State := { t with lks := { t.lks with powerDropEnd := some (s.clock + 120000) } }
    let call := s.hpc1.state = .connected ∨ s.hpc2.state = .connected
    let acts := k.state = .carrying ∨ k.state = .greeting ∨ k.state = .training
    let barred := k.state = .waiting ∧ k.wait = some .noPermittedRung
    (full → k.state = .carrying → call → linkStage s = due)
      ∧ (full → k.state = .carrying → ¬ call →
          linkStage s = dropOrderly .power .waiting none { due with lks := { due.lks with trial := none } })
      ∧ (full → k.state = .greeting ∨ k.state = .training →
          linkStage s = beginAttempt .other (abandonAttempt t))
      ∧ (¬ full ∨ ¬ acts → barred → linkStage s = beginAttempt .other t)
      ∧ (¬ full ∨ ¬ acts → ¬ barred → linkStage s = t) := by
  intro k t full due call acts barred
  have hlink : linkStage s = linkConserve t :=
    (linkStage_of_conserve hs).trans (congrArg linkConserve (trialStage_of_other (by simp [hs])))
  have hfull : t.lks.fullRung = true ↔ full := fullRung_iff t.lks
  have hrest : ¬ full ∨ ¬ acts → linkStage s = rerunAttempt t := fun h =>
    hlink.trans (linkConserve_of_rests (h.imp_left (mt hfull.mp)))
  refine ⟨fun hf hc hcall => ?_, fun hf hc hcall => ?_,
    fun hf h => hlink.trans (linkConserve_of_attempt (hfull.mpr hf) h),
    fun h hb => (hrest h).trans (rerunAttempt_of_barred (s := t) hb),
    fun h hb => (hrest h).trans (rerunAttempt_of_other (s := t) hb)⟩
  · exact hlink.trans ((linkConserve_of_carrying (s := t) (hfull.mpr hf) hc).trans
      (if_neg fun hn => (noCall_iff t).mp hn hcall))
  · exact hlink.trans ((linkConserve_of_carrying (s := t) (hfull.mpr hf) hc).trans (if_pos ((noCall_iff t).mpr hcall)))

/-- In MAINS and BATTERY a link that no rung was permitted for tries again (R41, R42). -/
theorem linkStage_supplied (s : State) :
    let k := s.lks
    let barred := k.state = .waiting ∧ k.wait = some .noPermittedRung
    let starts := (k.state = .off ∧ k.enabled = true) ∨ barred
    let kept : State := { s with lks := { k with powerDropEnd := none } }
    let t : State := { s with lks := { k with trial := k.trial.filter fun x => x.watchEnd.isSome } }
    (s.psv.stage = .mains → starts → linkStage s = stepUpCheck (beginAttempt .other kept))
      ∧ (s.psv.stage = .mains → ¬ starts → linkStage s = stepUpCheck kept)
      ∧ (s.psv.stage = .battery → barred → linkStage s = beginAttempt .other t)
      ∧ (s.psv.stage = .battery → ¬ barred → linkStage s = t) := by
  intro k barred starts kept t
  have hmains : linkMains s = stepUpCheck
      (if (kept.lks.state = .off && kept.lks.enabled) = true then beginAttempt .other kept else rerunAttempt kept) := rfl
  have hbattery : s.psv.stage = .battery → linkStage s = rerunAttempt t := fun hs =>
    (linkStage_of_battery hs).trans (congrArg rerunAttempt (trialStage_of_other (by simp [hs])))
  refine ⟨fun hs h => (linkStage_of_mains hs).trans (hmains.trans (congrArg stepUpCheck ?_)),
    fun hs h => (linkStage_of_mains hs).trans (hmains.trans (congrArg stepUpCheck ?_)),
    fun hs hb => (hbattery hs).trans (rerunAttempt_of_barred (s := t) hb),
    fun hs hb => (hbattery hs).trans (rerunAttempt_of_other (s := t) hb)⟩
  · by_cases ho : k.state = .off ∧ k.enabled = true
    · exact if_pos (Bool.and_eq_true_iff.mpr ⟨decide_eq_true ho.1, ho.2⟩)
    · exact (if_neg (fun hn => ho (by simpa using hn))).trans
        (rerunAttempt_of_barred (s := kept) (h.resolve_left ho))
  · obtain ⟨ho, hb⟩ := not_or.mp h
    exact (if_neg (fun hn => ho (by simpa using hn))).trans (rerunAttempt_of_other (s := kept) hb)

/-- The record of a link that goes OFF (R22). -/
def Lks.turnedOff (k : Lks) : Lks :=
  { k with
    state := .off, wait := none, dest := none, backoffEnd := none, releaseWait := none, greetingEnd := none
    trainingEnd := none, lossEnd := none, releasingEnd := none, retrainEnd := none, powerDropEnd := none }

theorem toOff_lks (c : LinkCause) (s : State) : (toOff c s).lks = s.lks.turnedOff := rfl

/-- A drop counted (R30). -/
def Lks.dropped (r : DropReason) (k : Lks) : Lks :=
  { k with
    lastDrop := some r
    drops := k.drops.setIfInBounds r.ctorIdx (up16 ((k.drops[r.ctorIdx]?).getD 0)) }

theorem linkOff_of_waiting {r : DropReason} (h : s.lks.state = .waiting) :
    (linkOff r s).lks = { s.lks with trial := none }.turnedOff ∧ (linkOff r s).pac.link.state = .free := by
  simp only [linkOff, h]
  rw [toOff_lks, releaseLink_lks]
  exact ⟨rfl, releaseLink_link _⟩

theorem linkOff_of_attempt {r : DropReason} (ho : s.lks.state ≠ .off) (hw : s.lks.state ≠ .waiting)
    (hc : s.lks.state ≠ .carrying) :
    (linkOff r s).lks
        = { s.lks.dropped r with greetingEnd := none, trainingEnd := none, trial := none }.turnedOff
      ∧ (linkOff r s).pac.link.state = .free := by
  have he : linkOff r s = toOff (.drop r) (abandonAttempt (countDrop r s)) := by
    unfold linkOff
    split
    · exact absurd ‹_› ho
    · exact absurd ‹_› hw
    · exact absurd ‹_› hc
    · rfl
  rw [he, toOff_lks, abandonAttempt, releaseLink_lks]
  exact ⟨rfl, releaseLink_link _⟩

/-- A link that carried goes OFF without its payload. -/
theorem linkOff_of_carrying {r : DropReason} (h : s.lks.state = .carrying) :
    let k := (linkOff r s).lks
    (k.state = .off ∧ k.enabled = s.lks.enabled ∧ k.backoff = s.lks.backoff)
      ∧ ((linkOff r s).pac.link.state = .free ∧ k.backoffEnd = none ∧ k.releasingEnd = none)
      ∧ (k.lastDrop = some r ∧ k.drops = (s.lks.dropped r).drops)
      ∧ (k.powerDropEnd = none ∧ k.retrainEnd = none ∧ k.carryingSince = none)
      ∧ k.payload.up = [] ∧ k.payload.down = [] := by
  have he : linkOff r s = leaveCarrying r (toOff (.drop r) (releaseLink (countDrop r (trialEnd s)))) := by
    simp only [linkOff, h]
  rw [he, leaveCarrying_eq, toOff_lks, releaseLink_lks]
  exact ⟨⟨rfl, rfl, rfl⟩, ⟨releaseLink_link _, rfl, rfl⟩, ⟨rfl, rfl⟩, ⟨rfl, rfl, rfl⟩, rfl, rfl⟩

/-- In LIFELINE the link goes OFF (R43). -/
theorem linkStage_lifeline (s : State) (hs : s.psv.stage = .lifeline) :
    let k := s.lks
    let t := linkStage s
    let undropped := k.state = .off ∨ k.state = .waiting
    (t.lks.state = .off ∧ t.lks.enabled = k.enabled ∧ t.lks.backoff = k.backoff)
      ∧ (k.state ≠ .off → t.pac.link.state = .free ∧ t.lks.backoffEnd = none ∧ t.lks.releasingEnd = none)
      ∧ (undropped → t.lks.lastDrop = k.lastDrop ∧ t.lks.drops = k.drops)
      ∧ (¬ undropped →
          t.lks.lastDrop = some .power
            ∧ t.lks.drops
              = k.drops.setIfInBounds DropReason.power.ctorIdx
                  (min ((k.drops[DropReason.power.ctorIdx]?).getD 0 + 1) 65535))
      ∧ (k.state = .carrying →
          (t.lks.powerDropEnd = none ∧ t.lks.retrainEnd = none ∧ t.lks.carryingSince = none)
            ∧ t.lks.payload.up = [] ∧ t.lks.payload.down = []) := by
  intro k t undropped
  have he : t = linkOff .power { s with lks := { k with trial := k.trial.filter fun x => x.watchEnd.isSome } } :=
    (linkStage_of_lifeline hs).trans (congrArg (linkOff .power) (trialStage_of_other (by simp [hs])))
  rw [he]
  generalize hu : ({ s with lks := { k with trial := k.trial.filter fun x => x.watchEnd.isSome } } : State) = u
  have hst : u.lks.state = k.state := by rw [← hu]
  by_cases ho : k.state = .off
  · have hoff : linkOff .power u = u := by simp only [linkOff, hst, ho]
    rw [hoff]
    subst hu
    exact ⟨⟨ho, rfl, rfl⟩, fun h => absurd ho h, fun _ => ⟨rfl, rfl⟩, fun h => absurd (.inl ho) h,
      fun h => nomatch ho.symm.trans h⟩
  · by_cases hw : k.state = .waiting
    · obtain ⟨hk, hl⟩ := linkOff_of_waiting (r := .power) (hst.trans hw)
      rw [hk]
      subst hu
      exact ⟨⟨rfl, rfl, rfl⟩, fun _ => ⟨hl, rfl, rfl⟩, fun _ => ⟨rfl, rfl⟩, fun h => absurd (.inr hw) h,
        fun h => nomatch hw.symm.trans h⟩
    · have hn : ¬undropped := not_or.mpr ⟨ho, hw⟩
      by_cases hc : k.state = .carrying
      · obtain ⟨h1, h2, h3, h4⟩ := linkOff_of_carrying (r := .power) (hst.trans hc)
        subst hu
        exact ⟨h1, fun _ => h2, fun h => absurd h hn, fun _ => h3, fun _ => h4⟩
      · obtain ⟨hk, hl⟩ := linkOff_of_attempt (r := .power) (s := u) (hst ▸ ho) (hst ▸ hw) (hst ▸ hc)
        rw [hk]
        subst hu
        exact ⟨⟨rfl, rfl, rfl⟩, fun _ => ⟨hl, rfl, rfl⟩, fun h => absurd h hn, fun _ => ⟨rfl, rfl⟩,
          fun h => absurd h hc⟩

/-! ## The claim of an attempt that ends, HPC2, the pair and the faults -/

theorem releaseLink_of_taken (hl : s.pac.link.state ≠ .free) (ht : s.pac.test.state ≠ .waiting) :
    releaseLink s = { s with pac := { s.pac with link := { state := .free, since := s.uptime } } } := by
  rw [releaseLink_of_no_test ht, if_neg hl]

/-- An attempt that ends frees its claim, while no test waits. -/
theorem abandonAttempt_of_no_test (hl : s.pac.link.state ≠ .free) (ht : s.pac.test.state ≠ .waiting) :
    abandonAttempt s
      = { s with
          lks := { s.lks with greetingEnd := none, trainingEnd := none, trial := none }
          pac := { s.pac with link := { state := .free, since := s.uptime } } } :=
  releaseLink_of_taken
    (s := { s with lks := { s.lks with greetingEnd := none, trainingEnd := none, trial := none } }) hl ht

/-- HPC2 takes the stage (R90). -/
theorem portStage_cases (s : State) :
    let q := s.hpc2
    let shed := q.state = .disabled ∧ q.cause = some .power
    (s.psv.stage = .mains → (shed → portStage s = enterIdle .two s) ∧ (¬ shed → portStage s = s))
      ∧ (s.psv.stage = .battery → portStage s = s)
      ∧ (s.psv.stage = .conserve →
          (q.state = .idle → portStage s = enterDisabled .power .two s) ∧ (q.state ≠ .idle → portStage s = s))
      ∧ (s.psv.stage = .lifeline →
          (q.state = .disabled → portStage s = s)
            ∧ (q.state ≠ .disabled → portStage s = enterDisabled .power .two s)) := by
  intro q shed
  refine ⟨fun hs => ?_, fun hs => ?_, fun hs => ?_, portStage_of_lifeline⟩
  · simp only [portStage, hs]
    exact ⟨fun h => if_pos (by simpa using h), fun h => if_neg (by simpa using not_and.mp h)⟩
  · simp only [portStage, hs]
  · simp only [portStage, hs]
    exact ⟨fun h => if_pos h, fun h => if_neg h⟩

/-- The pair takes the stage: LIFELINE is a COPPER cause (R14, R179). -/
theorem pairStage_cases (s : State) :
    let r := s.pac.relay
    let t := pairStage s
    (s.psv.stage ≠ .lifeline → t = s)
      ∧ (s.psv.stage = .lifeline →
          t = copperCause .power s
            ∧ (r.move = none → r.pos = .copper → t.pac.relay = { r with reason := .power, deferred := false })
            ∧ (∀ m, r.move = some m → m.target = .copper →
                t.pac.relay = { r with move := some { m with reason := .power } })
            ∧ (r.pos = .localPort → r.move = none ∨ (∃ m, r.move = some m ∧ m.target = .localPort) →
                t.pac.relay.pos = .localPort
                  ∧ t.pac.relay.move = some
                      { target := .copper, doneAt := s.clock + 30, reason := .power, carriesOut := false })) := by
  intro r t
  refine ⟨pairStage_of_other, fun hs => ?_⟩
  have ht : t = copperCause .power s := pairStage_of_lifeline hs
  refine ⟨ht, fun hm hp => ?_, fun m hm hg => ?_, fun hp h => ?_⟩
  · rw [ht]
    exact copperCause_relay_of_rest hm hp
  · rw [ht]
    exact copperCause_relay_of_toCopper hm hg
  · have hsent : t.pac.relay = r.sentTo .power s.clock := by
      rw [ht]
      rcases h with hm | ⟨m, hm, hg⟩
      · exact copperCause_relay_of_local hm hp
      · exact copperCause_relay_of_toLocal hm hg
    rw [hsent]
    exact ⟨hp, rfl⟩

/-- The faults PSV reports and clears for the stage (R179). -/
theorem stageFaults_cases (s : State) :
    let level := d32 s.psv.battery
    (s.psv.stage = .mains → stageFaults s = clearFault .batteryLow .psv (clearFault .mainsLost .psv s))
      ∧ (s.psv.stage = .battery → stageFaults s = report .mainsLost .psv .major [level] s)
      ∧ (s.psv.stage = .conserve → stageFaults s = report .batteryLow .psv .major [level, 2#32] s)
      ∧ (s.psv.stage = .lifeline → stageFaults s = report .batteryLow .psv .major [level, 3#32] s) := by
  intro level
  refine ⟨fun hs => ?_, fun hs => ?_, fun hs => ?_, fun hs => ?_⟩
  · simp only [stageFaults, hs]
  · simp only [stageFaults, hs, level]
  · simp only [stageFaults, hs]
    rfl
  · simp only [stageFaults, hs]
    rfl

end Sys2Proof.Machine
end

section
/-! PROOFS. Chapter 10: descents, the mains and the stage-1 time (R175, R177, R178); O56. -/

namespace Sys2Proof.Machine
open Sys2Proof

variable {s : State}
open State

/-! ## What PSV holds of the supply -/

/-- PSV's record without its mode, its sleep and the watch, which wake causes, the cutoff and the watch itself move. -/
def Psv.supply (p : Psv) : Psv :=
  { p with mode := .active, wake := none, sleepGranted := false, stopping := false, matching := false }

theorem supply_fields {p q : Psv} (h : p.supply = q.supply) :
    (p.stage = q.stage ∧ p.cause = q.cause ∧ p.stageSince = q.stageSince ∧ p.stage1End = q.stage1End)
      ∧ p.mainsDeclared = q.mainsDeclared ∧ p.debounceEnd = q.debounceEnd := by
  rw [Psv.supply, Psv.supply, Psv.mk.injEq] at h
  simp only [h, and_self]

theorem enterDormant_supply (s : State) : (enterDormant s).psv.supply = s.psv.supply := by
  unfold enterDormant
  rw [report_psv]
  rfl

theorem cutoffCheck_supply (s : State) : (cutoffCheck s).psv.supply = s.psv.supply := by
  unfold cutoffCheck
  split
  · exact enterDormant_supply s
  · rfl

theorem cutoffCheck_clock (s : State) : (cutoffCheck s).clock = s.clock := by
  unfold cutoffCheck
  split
  · exact report_clock ..
  · rfl

theorem watchCheck_cases (s : State) :
    let now := s.conditions
    let fits := Conditions.matches s.psv.watchMask s.psv.watchPattern now
    let t := { s with psv := { s.psv with matching := fits } }
    (s.psv.matching = true → fits = false →
        watchCheck s = notice (.supplyWatch now s.psv.watchMask s.psv.watchPattern s.uptime) t)
      ∧ (s.psv.matching = false ∨ fits = true → watchCheck s = t) := by
  intro now fits t
  refine ⟨fun h hf => if_pos (by simp only [h, Bool.true_and]; exact congrArg not hf), fun h => if_neg fun hn => ?_⟩
  obtain ⟨hm, hf⟩ := Bool.and_eq_true_iff.mp hn
  rcases h with h | h
  · exact Bool.false_ne_true (h.symm.trans hm)
  · exact absurd (h : Conditions.matches _ _ _ = true) (by simpa using hf)

theorem watchCheck_supply (s : State) : (watchCheck s).psv.supply = s.psv.supply := by
  unfold watchCheck
  dsimp only
  split
  · rfl
  · rfl

theorem enterStage_psv (stage : HoldStage) (cause : StageCause) (s : State) :
    (enterStage stage cause s).psv = Psv.enter stage cause s.clock s.uptime s.stage1Ms s.psv :=
  (enterStage_calm stage cause s).psv

theorem enterStage_clock (stage : HoldStage) (cause : StageCause) (s : State) :
    (enterStage stage cause s).clock = s.clock := (enterStage_calm stage cause s).clock

/-- The readings, the mains and their debounce are no matter of a stage. -/
theorem enterStage_keeps_supply (stage : HoldStage) (cause : StageCause) (s : State) :
    let p := (enterStage stage cause s).psv
    p.mainsDeclared = s.psv.mainsDeclared ∧ p.debounceEnd = s.psv.debounceEnd
      ∧ p.belowConserve = s.psv.belowConserve ∧ p.belowLifeline = s.psv.belowLifeline := by
  intro p
  have hp : p = Psv.enter stage cause s.clock s.uptime s.stage1Ms s.psv := enterStage_psv stage cause s
  rw [hp]
  exact ⟨rfl, rfl, rfl, rfl⟩

theorem enterStage_stage (stage : HoldStage) (cause : StageCause) (s : State) :
    (enterStage stage cause s).psv.stage = stage := congrArg Psv.stage (enterStage_psv stage cause s)

/-! ## Descents (R177) -/

theorem descend_of_none (n : Nat) (h : s.descent = none) : descend n s = s := by
  cases n with
  | zero => rfl
  | succ n => simp only [descend, h]

theorem descend_of_some (n : Nat) {stage : HoldStage} {cause : StageCause} (h : s.descent = some (stage, cause)) :
    descend (n + 1) s = descend n (enterStage stage cause (wakeCause .stage none s)) := by
  simp only [descend, h]

theorem descend_to_lifeline {n : Nat} (hn : n ≠ 0) {cause : StageCause} (h : s.descent = some (.lifeline, cause)) :
    descend n s = enterStage .lifeline cause (wakeCause .stage none s) := by
  obtain ⟨n, rfl⟩ := Nat.exists_eq_succ_of_ne_zero hn
  rw [Nat.succ_eq_add_one, descend_of_some n h]
  exact descend_rests _ (.inl (congrArg Psv.stage (enterStage_psv ..)))

theorem descent_of_rests (h : s.psv.stage = .mains ∨ s.psv.stage = .lifeline) : s.descent = none := by
  unfold State.descent
  rcases h with h | h
  · rw [h]
  · rw [h]

theorem descent_of_battery (h : s.psv.stage = .battery) :
    (s.psv.belowConserve = 3 → s.descent = some (.conserve, .conserveThreshold))
      ∧ (s.psv.belowConserve ≠ 3 → s.psv.belowLifeline = 3 → s.descent = some (.lifeline, .lifelineThreshold))
      ∧ (s.psv.belowConserve ≠ 3 → s.psv.belowLifeline ≠ 3 → s.descent = none) := by
  unfold State.descent
  rw [h]
  exact ⟨fun hc => if_pos hc, fun hc hl => (if_neg hc).trans (if_pos hl), fun hc hl => (if_neg hc).trans (if_neg hl)⟩

theorem descent_of_conserve (h : s.psv.stage = .conserve) :
    (s.psv.belowLifeline = 3 → s.descent = some (.lifeline, .lifelineThreshold))
      ∧ (s.psv.belowLifeline ≠ 3 → s.descent = none) := by
  unfold State.descent
  rw [h]
  exact ⟨fun hl => if_pos hl, fun hl => if_neg hl⟩

/-- A descent moves neither the mains nor their debounce. -/
theorem descend_mains (n : Nat) (s : State) :
    (descend n s).psv.mainsDeclared = s.psv.mainsDeclared ∧ (descend n s).psv.debounceEnd = s.psv.debounceEnd := by
  induction n generalizing s with
  | zero => exact ⟨rfl, rfl⟩
  | succ n ih =>
    cases h : s.descent with
    | none =>
      rw [descend_of_none _ h]
      exact ⟨rfl, rfl⟩
    | some d =>
      obtain ⟨h1, h2⟩ := ih (enterStage d.1 d.2 (wakeCause .stage none s))
      rw [descend_of_some n h]
      obtain ⟨h3, h4, -⟩ := enterStage_keeps_supply d.1 d.2 (wakeCause .stage none s)
      exact ⟨h1.trans h3, h2.trans h4⟩

theorem descend_clock (n : Nat) (s : State) : (descend n s).clock = s.clock := by
  induction n generalizing s with
  | zero => rfl
  | succ n ih =>
    cases h : s.descent with
    | none => rw [descend_of_none _ h]
    | some d =>
      rw [descend_of_some n h]
      exact (ih _).trans (enterStage_clock ..)

/-! ## The check of the thresholds -/

theorem stageCheck_supply (s : State) : (stageCheck s).psv.supply = (descend 2 s).psv.supply := cutoffCheck_supply _
theorem stageCheck_clock (s : State) : (stageCheck s).clock = s.clock :=
  (cutoffCheck_clock _).trans (descend_clock 2 s)

theorem stageCheck_of_none (h : s.descent = none) : (stageCheck s).psv.supply = s.psv.supply := by
  rw [stageCheck_supply, descend_of_none _ h]

/-- A part enters LIFELINE stage in the end where the count below that threshold is full. -/
theorem stageCheck_to_lifeline (hs : s.psv.stage = .battery ∨ s.psv.stage = .conserve)
    (hl : s.psv.belowLifeline = 3) :
    (stageCheck s).psv.stage = .lifeline ∧ (stageCheck s).psv.cause = .lifelineThreshold
      ∧ (stageCheck s).psv.stage1End = none := by
  have done : ∀ u : State, ∀ n, n ≠ 0 → u.descent = some (.lifeline, .lifelineThreshold) →
      (descend n u).psv.stage = .lifeline ∧ (descend n u).psv.cause = .lifelineThreshold
        ∧ (descend n u).psv.stage1End = none := by
    intro u n hn hd
    rw [descend_to_lifeline hn hd, enterStage_psv]
    exact ⟨rfl, rfl, rfl⟩
  have h2 : (descend 2 s).psv.stage = .lifeline ∧ (descend 2 s).psv.cause = .lifelineThreshold
      ∧ (descend 2 s).psv.stage1End = none := by
    rcases hs with hs | hs
    · by_cases hc : s.psv.belowConserve = 3
      · rw [descend_of_some 1 ((descent_of_battery hs).1 hc)]
        obtain ⟨-, -, -, h4⟩ := enterStage_keeps_supply .conserve .conserveThreshold (wakeCause .stage none s)
        exact done _ 1 Nat.one_ne_zero ((descent_of_conserve (enterStage_stage ..)).1 (h4.trans hl))
      · exact done s 2 (Nat.succ_ne_zero 1) ((descent_of_battery hs).2.1 hc hl)
    · exact done s 2 (Nat.succ_ne_zero 1) ((descent_of_conserve hs).1 hl)
  obtain ⟨⟨k1, k2, -, k4⟩, -⟩ := supply_fields (stageCheck_supply s)
  obtain ⟨d1, d2, d4⟩ := h2
  exact ⟨k1.trans d1, k2.trans d2, k4.trans d4⟩

theorem stageCheck_to_conserve (hs : s.psv.stage = .battery) (hc : s.psv.belowConserve = 3)
    (hl : s.psv.belowLifeline ≠ 3) :
    (stageCheck s).psv.stage = .conserve ∧ (stageCheck s).psv.cause = .conserveThreshold := by
  obtain ⟨-, -, -, hbelow⟩ := enterStage_keeps_supply .conserve .conserveThreshold (wakeCause .stage none s)
  have hk := stageCheck_supply s
  rw [descend_of_some 1 ((descent_of_battery hs).1 hc),
    descend_of_none 1 ((descent_of_conserve (enterStage_stage ..)).2 fun h => hl (hbelow.symm.trans h)),
    enterStage_psv] at hk
  obtain ⟨⟨h1, h2, -⟩, -⟩ := supply_fields hk
  exact ⟨h1, h2⟩

/-- Entry to CONSERVE stands, or leads on to LIFELINE where that threshold is met. -/
theorem stageCheck_of_conserve {cause : StageCause} {w t : State}
    (ht : stageCheck (enterStage .conserve cause w) = t) :
    t.clock = w.clock ∧ t.psv.stage1End = none
      ∧ (w.psv.belowLifeline ≠ 3 → t.psv.stage = .conserve ∧ t.psv.cause = cause)
      ∧ (w.psv.belowLifeline = 3 → t.psv.stage = .lifeline ∧ t.psv.cause = .lifelineThreshold) := by
  have hp := enterStage_psv .conserve cause w
  have hclock := enterStage_clock .conserve cause w
  have hstage := enterStage_stage .conserve cause w
  obtain ⟨-, -, -, hbelow⟩ := enterStage_keeps_supply .conserve cause w
  generalize enterStage .conserve cause w = u at ht hp hclock hstage hbelow
  subst ht
  refine ⟨(stageCheck_clock u).trans hclock, ?_⟩
  by_cases hl : w.psv.belowLifeline = 3
  · obtain ⟨h1, h2, h3⟩ := stageCheck_to_lifeline (.inr hstage) (hbelow.trans hl)
    exact ⟨h3, fun h => absurd hl h, fun _ => ⟨h1, h2⟩⟩
  · have hk := stageCheck_of_none ((descent_of_conserve hstage).2 fun h => hl (hbelow.symm.trans h))
    rw [hp] at hk
    obtain ⟨⟨h1, h2, -, h4⟩, -⟩ := supply_fields hk
    exact ⟨h4, fun _ => ⟨h1, h2⟩, fun h => absurd h hl⟩

/-! ## The mains (R175) -/

/-- The declaration is written. -/
def mainsWritten (present : Bool) (s : State) : State :=
  wakeCause .mains none (s.onPsv fun p => { p with mainsDeclared := present, debounceEnd := none })

/-- The stage that the declaration brings about. -/
def mainsStage (present : Bool) (s : State) : State :=
  if present then (if s.psv.stage = .mains then s else enterStage .mains .mainsPresent s)
  else (if s.psv.stage = .mains then enterStage .battery .mainsAbsent s else s)

theorem mainsStage_mains (present : Bool) (s : State) :
    (mainsStage present s).psv.mainsDeclared = s.psv.mainsDeclared
      ∧ (mainsStage present s).psv.debounceEnd = s.psv.debounceEnd := by
  have hk : ∀ stage cause, (enterStage stage cause s).psv.mainsDeclared = s.psv.mainsDeclared
      ∧ (enterStage stage cause s).psv.debounceEnd = s.psv.debounceEnd := fun stage cause =>
    have h := enterStage_keeps_supply stage cause s
    ⟨h.1, h.2.1⟩
  unfold mainsStage
  split
  · split
    · exact ⟨rfl, rfl⟩
    · exact hk _ _
  · split
    · exact hk _ _
    · exact ⟨rfl, rfl⟩

theorem declareMains_supply (present : Bool) (s : State) :
    (declareMains present s).psv.supply = (descend 2 (mainsStage present (mainsWritten present s))).psv.supply :=
  (watchCheck_supply _).trans (stageCheck_supply _)

theorem declareMains_mains (present : Bool) (s : State) :
    (declareMains present s).psv.mainsDeclared = present ∧ (declareMains present s).psv.debounceEnd = none := by
  obtain ⟨-, k1, k2⟩ := supply_fields (declareMains_supply present s)
  obtain ⟨h1, h2⟩ := descend_mains 2 (mainsStage present (mainsWritten present s))
  obtain ⟨h3, h4⟩ := mainsStage_mains present (mainsWritten present s)
  exact ⟨k1.trans (h1.trans h3), k2.trans (h2.trans h4)⟩

/-- Behind mains that are PRESENT the part is in MAINS stage. -/
theorem declareMains_present (s : State) :
    (declareMains true s).psv.stage = .mains
      ∧ (s.psv.stage ≠ .mains →
          (declareMains true s).psv.cause = .mainsPresent ∧ (declareMains true s).psv.stage1End = none) := by
  have hk := declareMains_supply true s
  by_cases hs : s.psv.stage = .mains
  · have hm : mainsStage true (mainsWritten true s) = mainsWritten true s := if_pos hs
    rw [hm, descend_rests 2 (s := mainsWritten true s) (.inr hs)] at hk
    obtain ⟨⟨h1, -⟩, -⟩ := supply_fields hk
    exact ⟨h1.trans hs, fun h => absurd hs h⟩
  · have hm : mainsStage true (mainsWritten true s) = enterStage .mains .mainsPresent (mainsWritten true s) := if_neg hs
    rw [hm, descend_rests 2 (.inr (enterStage_stage ..)), enterStage_psv] at hk
    obtain ⟨⟨h1, h2, -, h4⟩, -⟩ := supply_fields hk
    exact ⟨h1, fun _ => ⟨h2, h4⟩⟩

/-- Behind mains that are ABSENT a part in MAINS stage lives on its battery. -/
theorem declareMains_absent (hs : s.psv.stage = .mains) (hc : s.psv.belowConserve ≠ 3)
    (hl : s.psv.belowLifeline ≠ 3) :
    let t := declareMains false s
    t.psv.stage = .battery ∧ t.psv.cause = .mainsAbsent ∧ t.psv.stageSince = s.uptime
      ∧ t.psv.stage1End = some (s.clock + s.sst.contents.power.stage1Min * 60000) := by
  intro t
  have hk := declareMains_supply false s
  have hm : mainsStage false (mainsWritten false s) = enterStage .battery .mainsAbsent (mainsWritten false s) := if_pos hs
  obtain ⟨-, -, h3, h4⟩ := enterStage_keeps_supply .battery .mainsAbsent (mainsWritten false s)
  have hd : (enterStage .battery .mainsAbsent (mainsWritten false s)).descent = none :=
    (descent_of_battery (enterStage_stage ..)).2.2 (fun h => hc (h3.symm.trans h)) fun h => hl (h4.symm.trans h)
  rw [hm, descend_of_none 2 hd, enterStage_psv] at hk
  exact (supply_fields hk).1

/-- The mains input, by where the part is (R175, R182). -/
theorem mainsInputChange_cases (present : Bool) (s : State) :
    let p := s.psv
    let changed := mainsInputChange present s
    (p.mainsInput = present → changed = s)
      ∧ (p.mainsInput ≠ present → s.alive = true →
          changed =
            { s with
              psv :=
                { p with
                  mainsInput := present
                  debounceEnd :=
                    if present = p.mainsDeclared then none
                    else some (s.clock + if present = true then 10000 else 2000) } })
      ∧ (p.mainsInput ≠ present → s.powered = true → p.mode = .dormant →
          changed =
            { s with
              psv :=
                { p with
                  mainsInput := present
                  dormantWakeAt := if present = true then some (s.clock + 10000) else none } })
      ∧ (p.mainsInput ≠ present → s.powered = false →
          changed = { s with psv := { p with mainsInput := present } }) := by
  intro p changed
  refine ⟨fun h => if_pos h, fun h ha => (if_neg h).trans ((if_pos ha).trans rfl), fun h hp hm => ?_, fun h hp => ?_⟩
  · have ha : ¬s.alive = true := by simp [State.alive, show s.psv.mode = .dormant from hm]
    exact (if_neg h).trans ((if_neg ha).trans ((if_pos hp).trans rfl))
  · have ha : ¬s.alive = true := by simp [State.alive, hp]
    exact (if_neg h).trans ((if_neg ha).trans ((if_neg (by simp [hp])).trans rfl))

theorem mainsInputChange_does (present : Bool) {s t : State} (h : mainsInputChange present s = t) :
    Does (.mainsInputChange present) s t := congrArg finish h

/-! ## The stage-1 time (R178) -/

/-- At its end a part in BATTERY enters CONSERVE, and LIFELINE from there where that threshold is met. -/
theorem stage1Expires_of_battery (hs : s.psv.stage = .battery) :
    let t := stage1Expires s
    t.clock = s.clock ∧ t.psv.stage1End = none
      ∧ (s.psv.belowLifeline ≠ 3 → t.psv.stage = .conserve ∧ t.psv.cause = .stage1Time)
      ∧ (s.psv.belowLifeline = 3 → t.psv.stage = .lifeline ∧ t.psv.cause = .lifelineThreshold) := by
  intro t
  have ht : t = stageCheck (enterStage .conserve .stage1Time
      (wakeCause .stage none (s.onPsv fun p => { p with stage1End := none }))) := if_pos hs
  have h := stageCheck_of_conserve ht.symm
  exact h

/-- Settles O56: each block's equation by the stage; that entry to LIFELINE and every step keep what it demands, by the
calm of the blocks and the invariant of the model's laws. -/
theorem mainsAndStages : Obligations.MainsAndStages := by
  refine ⟨⟨fun present s => ?_, fun s ha => ⟨fun h => ?_, fun e he => ?_, fun h => ?_, fun e he hs => ?_,
    fun e he hs => ?_⟩, fun present s => ?_, fun stage cause s => ?_, watchCheck_cases⟩,
    ⟨fun _ _ _ => rfl, stageFaults_cases, linkStage_conserve, linkStage_supplied, portStage_cases,
      fun cause s hr => enterStage_inLifeline cause hr, fun s hl ht => abandonAttempt_of_no_test hl ht,
      linkStage_lifeline, pairStage_cases⟩,
    fun s t h he ht => step_inLifeline h he ht, fun c s t h he ht => exec_inLifeline h he ht,
    fun reason s h ht => fullReset_inLifeline reason h ht⟩
  · intro p does
    obtain ⟨h1, h2, h3, h4⟩ := mainsInputChange_cases present s
    exact ⟨fun h => mainsInputChange_does present (h1 h), fun h ha => mainsInputChange_does present (h2 h ha),
      fun h hp hm => mainsInputChange_does present (h3 h hp hm), fun h hp => mainsInputChange_does present (h4 h hp)⟩
  · exact does_of_event ha rfl (by simp only [h, onExpiry])
  · exact does_of_event ha rfl (by simp only [he, onExpiry]; rfl)
  · exact does_of_idle_timer (due := fun s => s.psv.stage1End) ha rfl h
  · exact does_of_timer (due := fun s => s.psv.stage1End) ha rfl he (if_neg hs)
  · obtain ⟨h1, h2, h3, h4⟩ := stage1Expires_of_battery (s := { s with clock := max s.clock e }) hs
    exact ⟨_, does_of_timer (due := fun s => s.psv.stage1End) ha rfl he rfl, h1, h2, h3, h4⟩
  · intro t
    refine ⟨declareMains_mains present s, ?_, ?_, ?_⟩
    · rintro rfl
      exact (declareMains_present s).1
    · rintro rfl
      exact (declareMains_present s).2
    · rintro rfl hs hc hl
      exact declareMains_absent hs hc hl
  · intro t
    have hk := enterStage_calm stage cause s
    refine ⟨?_, hk.capacity, enterStage_queue cause s, ?_⟩
    · rw [show t.psv = _ from hk.psv]
      exact ⟨rfl, rfl, rfl, rfl⟩
    · rintro rfl
      exact enterStage_disables cause s

end Sys2Proof.Machine
end

section
/-! PROOFS. Chapter 10: the battery readings, the enclosure and the supply watch (R176, R177, R186). -/

namespace Sys2Proof.Machine
open Sys2Proof

variable {s : State}

/-! ## A reading (R176, R177) -/

/-- The reading of this second is written. -/
def readingWritten (mv : Nat) (s : State) : State :=
  let p := s.psv
  let limits := s.sst.contents.power
  let count := fun limit n : Nat => if mv < limit then min (n + 1) 3 else 0
  { s with
    clock := max s.clock p.readingAt
    psv :=
      { p with
        readingAt := p.readingAt + 1000, batteryInput := mv, battery := mv
        belowConserve := count limits.conserve p.belowConserve
        belowLifeline := count limits.lifeline p.belowLifeline
        belowCutoff := count limits.cutoff p.belowCutoff } }

theorem batteryReading_eq (mv : Nat) (s : State) : batteryReading mv s = watchCheck (stageCheck (readingWritten mv s)) := rfl

theorem meetsThreshold_iff (mv : Nat) (s : State) :
    let limits := s.sst.contents.power
    let third := fun limit n : Nat => mv < limit ∧ n = 2
    s.meetsThreshold mv = true ↔
      third limits.conserve s.psv.belowConserve ∨ third limits.lifeline s.psv.belowLifeline
        ∨ third limits.cutoff s.psv.belowCutoff := by
  simp [State.meetsThreshold]

theorem cutoffCheck_of_met (h : s.psv.stage = .lifeline) (hc : s.psv.belowCutoff = 3) (hs : s.psv.stopping = false)
    (hl : s.loading = false) : cutoffCheck s = enterDormant s := if_pos ((cutoffCheck_iff s).mpr ⟨h, hc, hs, hl⟩)

theorem cutoffCheck_of_not_met
    (h : s.psv.stage ≠ .lifeline ∨ s.psv.belowCutoff ≠ 3 ∨ s.psv.stopping = true ∨ s.loading = true) :
    cutoffCheck s = s := by
  refine if_neg fun hc => ?_
  obtain ⟨h1, h2, h3, h4⟩ := (cutoffCheck_iff s).mp hc
  rcases h with h | h | h | h
  · exact h h1
  · exact h h2
  · exact Bool.false_ne_true (h3.symm.trans h)
  · exact Bool.false_ne_true (h4.symm.trans h)

/-- Where no threshold calls for a descent, and no cutoff for the stop, the check does nothing. -/
theorem stageCheck_of_stable (h : s.descent = none) (hs : s.psv.stage ≠ .lifeline) : stageCheck s = s := by
  rw [stageCheck, descend_of_none 2 h]
  exact cutoffCheck_of_not_met (.inl hs)

theorem stageCheck_of_lifeline (hs : s.psv.stage = .lifeline) : stageCheck s = cutoffCheck s := by
  rw [stageCheck, descend_rests 2 (.inl hs)]

theorem batteryReading_does {mv : Nat} {t : State} (ha : s.alive = true)
    (h : stageCheck (readingWritten mv s) = t) : Does (.batteryReading mv) s (watchCheck t) :=
  does_of_event ha rfl ((batteryReading_eq mv s).trans (congrArg watchCheck h))

/-- A reading that lowers the stage in the end. -/
theorem batteryReading_lowers {mv : Nat} {stage : HoldStage} {cause : StageCause} (ha : s.alive = true)
    (h : (stageCheck (readingWritten mv s)).psv.stage = stage ∧ (stageCheck (readingWritten mv s)).psv.cause = cause) :
    ∃ t, Does (.batteryReading mv) s t ∧ t.psv.stage = stage ∧ t.psv.cause = cause := by
  obtain ⟨⟨h1, h2, -⟩, -⟩ := supply_fields (watchCheck_supply (stageCheck (readingWritten mv s)))
  exact ⟨_, batteryReading_does ha rfl, h1.trans h.1, h2.trans h.2⟩

/-- The row THRESHOLD_MET does what the reading does, or nothing (log 5). -/
theorem thresholdMet_of_met {mv : Nat} (h : s.meetsThreshold mv = true) :
    exec (.thresholdMet mv) s = exec (.batteryReading mv) s := by
  have he : (if s.meetsThreshold mv then batteryReading mv s else s) = batteryReading mv s := if_pos h
  show finish (if s.alive then (if s.meetsThreshold mv then batteryReading mv s else s) else s)
    = finish (if s.alive then batteryReading mv s else s)
  rw [he]

theorem thresholdMet_of_not_met {mv : Nat} (ha : s.alive = true) (h : ¬s.meetsThreshold mv = true) :
    Does (.thresholdMet mv) s s :=
  does_of_event (f := fun s => if s.meetsThreshold mv then batteryReading mv s else s) ha rfl (if_neg h)

/-! ## The enclosure (R176) -/

/-- The switch starts the timer, or ends it where it returns to what the field holds. -/
theorem enclosureInputChange_cases (isOpen : Bool) (s : State) :
    let p := s.psv
    let changed := enclosureInputChange isOpen s
    (p.enclosureInputOpen = isOpen → changed = s)
      ∧ (p.enclosureInputOpen ≠ isOpen → s.alive = true →
          changed =
            { s with
              psv :=
                { p with
                  enclosureInputOpen := isOpen
                  enclosureEnd := if isOpen = p.enclosureOpen then none else some (s.clock + 50) } })
      ∧ (p.enclosureInputOpen ≠ isOpen → s.alive = false →
          changed = { s with psv := { p with enclosureInputOpen := isOpen } }) := by
  intro p changed
  exact ⟨fun h => if_pos h, fun h ha => (if_neg h).trans ((if_pos ha).trans rfl),
    fun h ha => (if_neg h).trans ((if_neg (by simp [ha])).trans rfl)⟩

theorem enclosureInputChange_does (isOpen : Bool) {s t : State} (h : enclosureInputChange isOpen s = t) :
    Does (.enclosureInputChange isOpen) s t := congrArg finish h

/-- The enclosure field follows its switch, with its fault. -/
theorem enclosureChanges_cases (s : State) :
    let u := fun isOpen : Bool => { s with psv := { s.psv with enclosureOpen := isOpen, enclosureEnd := none } }
    (s.psv.enclosureOpen = false → enclosureChanges s = watchCheck (report .enclosureOpen .psv .info [] (u true)))
      ∧ (s.psv.enclosureOpen = true → enclosureChanges s = watchCheck (clearFault .enclosureOpen .psv (u false))) := by
  intro u
  refine ⟨fun h => ?_, fun h => ?_⟩
  · simp only [enclosureChanges, h]
    rfl
  · simp only [enclosureChanges, h]
    rfl

/-! ## The supply watch (R186) -/

/-- Settles O57: the reading by what the thresholds call for; the enclosure by its two fields; the watch by its rule. -/
theorem batteryEnclosureAndWatch : Obligations.BatteryEnclosureAndWatch := by
  refine ⟨fun mv s ha => ?_, fun isOpen s => ?_, fun s ha => ⟨fun h => ?_, fun e he => ⟨fun h => ?_, fun h => ?_⟩⟩,
    fun tag mask pattern rest s hs => ?_⟩
  · intro p limits count read third
    have hread : readingWritten mv s = read := rfl
    have stable : read.descent = none → p.stage ≠ .lifeline → Does (.batteryReading mv) s (watchCheck read) :=
      fun hd hs => batteryReading_does ha (stageCheck_of_stable hd hs)
    have hmet : s.meetsThreshold mv = true ↔
        third limits.conserve p.belowConserve ∨ third limits.lifeline p.belowLifeline
          ∨ third limits.cutoff p.belowCutoff := meetsThreshold_iff mv s
    refine ⟨fun hs => stable (descent_of_rests (.inl hs)) (by simp [hs]),
      fun hs hc hl => stable ((descent_of_battery (s := read) hs).2.2 hc hl) (by simp [hs]),
      fun hs hc hl => batteryReading_lowers ha (stageCheck_to_conserve hs hc hl),
      fun hs hl => ?_, fun hs hl => stable ((descent_of_conserve (s := read) hs).2 hl) (by simp [hs]),
      fun hs h => ?_, fun hs hc hstop hload => ?_, fun h => ?_, fun h1 h2 h3 => ?_⟩
    · obtain ⟨h1, h2, -⟩ := stageCheck_to_lifeline (s := read) hs hl
      exact batteryReading_lowers ha ⟨h1, h2⟩
    · exact batteryReading_does ha ((stageCheck_of_lifeline (s := read) hs).trans (cutoffCheck_of_not_met (s := read) (.inr h)))
    · exact batteryReading_does ha ((stageCheck_of_lifeline (s := read) hs).trans (cutoffCheck_of_met (s := read) hs hc hstop hload))
    · exact thresholdMet_of_met (hmet.mpr h)
    · exact thresholdMet_of_not_met ha fun h => (hmet.mp h).elim h1 fun h => h.elim h2 h3
  · intro p does
    obtain ⟨h1, h2, h3⟩ := enclosureInputChange_cases isOpen s
    exact ⟨fun h => enclosureInputChange_does isOpen (h1 h), fun h ha => enclosureInputChange_does isOpen (h2 h ha),
      fun h ha => enclosureInputChange_does isOpen (h3 h ha)⟩
  · exact does_of_idle_timer (due := fun s => s.psv.enclosureEnd) ha rfl h
  · exact does_of_timer (due := fun s => s.psv.enclosureEnd) ha rfl he ((enclosureChanges_cases _).1 h)
  · exact does_of_timer (due := fun s => s.psv.enclosureEnd) ha rfl he ((enclosureChanges_cases _).2 h)
  · exact answers_of_body (decode := arg88) (body := supplyWatchRequest) (a := (mask.toNat, pattern.toNat)) hs rfl rfl rfl

end Sys2Proof.Machine
end

section
/-! PROOFS. Starts of chapters 08 and 10: the arrival and the loss of power, the wake from DORMANT (R19, R182, R188). -/

namespace Sys2Proof.Machine
open Sys2Proof

/-! ## FLG checks the retention domain -/

section Checked

variable {r : Retention} {a b : Bool}

theorem ite_zero_or_one (P : Prop) [Decidable P] :
    (if P then 1 else 0 : Seq16) = 0 ∨ (if P then 1 else 0 : Seq16) = 1 := by
  by_cases h : P
  · exact .inr (if_pos h)
  · exact .inl (if_neg h)

theorem checked_counters : ((Flg.checked r a b).next = 0 ∨ (Flg.checked r a b).next = 1)
    ∧ (Flg.checked r a b).dropped = 0 ∧ (Flg.checked r a b).evicted = 0 := by
  have hnext : (Flg.checked r a b).next = if (Flg.checked r a b).lost.isSome then 1 else 0 := rfl
  rw [hnext]
  exact ⟨ite_zero_or_one _, rfl, rfl⟩

theorem checked_record :
    (r.recordGood = true ∧ a = true → (Flg.checked r a b).retention.record = r.record)
      ∧ (¬(r.recordGood = true ∧ a = true) → (Flg.checked r a b).retention.record = none) :=
  ⟨fun h => if_pos (Bool.and_eq_true_iff.mpr h), fun h => if_neg (mt Bool.and_eq_true_iff.mp h)⟩

theorem checked_startCount :
    (r.countGood = true ∧ b = true → (Flg.checked r a b).retention.startCount = min (r.startCount + 1) 65535)
      ∧ (¬(r.countGood = true ∧ b = true) → (Flg.checked r a b).retention.startCount = 1) := by
  have hcount : (Flg.checked r a b).retention.startCount
      = min ((if (r.countGood && b) = true then r.startCount else 0) + 1) 65535 := rfl
  rw [hcount]
  refine ⟨fun h => ?_, fun h => ?_⟩
  · rw [if_pos (Bool.and_eq_true_iff.mpr h)]
  · rw [if_neg (mt Bool.and_eq_true_iff.mp h)]
    rfl

/-- A start that finds both parts of the domain good reports nothing. -/
theorem checked_of_good (hr : r.recordGood = true ∧ a = true) (hc : r.countGood = true ∧ b = true) :
    (Flg.checked r a b).log = [] ∧ (Flg.checked r a b).lost = none := by
  unfold Flg.checked
  rw [Bool.and_eq_true_iff.mpr hr, Bool.and_eq_true_iff.mpr hc]
  exact ⟨rfl, rfl⟩

/-- A start that finds a part of the domain lost reports which. -/
theorem checked_of_lost (h : ¬((r.recordGood = true ∧ a = true) ∧ r.countGood = true ∧ b = true)) :
    ∃ lost, (Flg.checked r a b).lost = some lost ∧ (Flg.checked r a b).log = [retentionRecord lost]
      ∧ (lost = .record ↔ r.countGood = true ∧ b = true) ∧ (lost = .count ↔ r.recordGood = true ∧ a = true) := by
  rw [← Bool.and_eq_true_iff (x := r.recordGood), ← Bool.and_eq_true_iff (x := r.countGood)] at h ⊢
  unfold Flg.checked
  cases hr : r.recordGood && a with
  | true =>
    cases hc : r.countGood && b with
    | true => exact absurd ⟨hr, hc⟩ h
    | false => exact ⟨.count, rfl, rfl, by decide, by decide⟩
  | false =>
    cases hc : r.countGood && b with
    | true => exact ⟨.record, rfl, rfl, by decide, by decide⟩
    | false => exact ⟨.both, rfl, rfl, by decide, by decide⟩

end Checked

/-! ## The stage of a start (R188) -/

theorem stageAtStart_cases (mv : Nat) :
    (11800 ≤ mv → stageAtStart false mv = .battery)
      ∧ (11200 ≤ mv → mv < 11800 → stageAtStart false mv = .conserve)
      ∧ (mv < 11200 → stageAtStart false mv = .lifeline) := by
  have hstage : stageAtStart false mv
      = if mv < 11200 then .lifeline else if mv < 11800 then .conserve else .battery := rfl
  rw [hstage]
  refine ⟨fun h => ?_, fun h1 h2 => ?_, fun h => if_pos h⟩
  · rw [if_neg (by omega), if_neg (by omega)]
  · rw [if_neg (by omega), if_pos h2]

theorem startStage1 {mv : Nat} (h : 11800 ≤ mv) (isOpen : Bool) :
    (Psv.start false mv isOpen).stage1End = some 1800000 := if_pos ((stageAtStart_cases mv).1 h)

/-! ## The commands -/

theorem dormantWake_of_due {s : State} {mv : Nat} {a b : Bool} (hp : s.powered = true) (hm : s.psv.mode = .dormant)
    (hw : s.psv.dormantWakeAt ≠ none) :
    dormantWake mv a b s = checkedStart .mainsReturn true mv s.psv.enclosureInputOpen a b s :=
  if_pos (by simp [hp, hm, Option.isSome_iff_ne_none, hw])

theorem dormantWake_of_not_due {s : State} {mv : Nat} {a b : Bool}
    (h : s.powered = false ∨ s.psv.mode ≠ .dormant ∨ s.psv.dormantWakeAt = none) : dormantWake mv a b s = s := by
  refine if_neg fun hd => ?_
  simp only [Bool.and_eq_true, decide_eq_true_eq, Option.isSome_iff_ne_none] at hd
  obtain ⟨hp, hm, hw⟩ := hd
  rcases h with h | h | h
  · exact Bool.false_ne_true (h.symm.trans hp)
  · exact h hm
  · exact hw h

/-- A command whose meaning ends the step does what that meaning is. -/
theorem does_of_finish {c : Instr} {s t u : State} (hc : exec c s = finish u) (h : u = t) : Does c s t :=
  hc.trans (congrArg finish h)

/-- Settles O58: the blocks by `startBlocks`, FLG by its check of the domain, the image by the entry being written. -/
theorem powerArrivesAndGoes : Obligations.PowerArrivesAndGoes := by
  refine ⟨fun mains isOpen recordKept countKept mv s => ?_, fun s => ?_⟩
  · intro t u recordOk countOk
    have blocks : ∀ x ∈ [t, u],
        (x.clock = 0 ∧ x.powered = true ∧ x.pending = s.pending ∧ x.mpt = Mpt.start ∧ x.pac = Pac.start
            ∧ x.lks = Lks.start ∧ x.hpc1 = Port.startOne s.hpc1.loopClosed ∧ x.hpc2 = Port.startTwo s.hpc2.loopClosed
            ∧ x.seq1 = Sequencer.start ∧ x.seq2 = Sequencer.start ∧ x.ltu = Ltu.start ∧ x.mcr = Mcr.start)
          ∧ x.flg = Flg.checked s.flg.retention recordKept countKept := by
      intro x hx
      simp only [List.mem_cons, List.not_mem_nil, or_false] at hx
      rcases hx with rfl | rfl
      · exact ⟨⟨rfl, rfl, rfl, rfl, rfl, rfl, rfl, rfl, rfl, rfl, rfl, rfl⟩, rfl⟩
      · exact ⟨⟨rfl, rfl, rfl, rfl, rfl, rfl, rfl, rfl, rfl, rfl, rfl, rfl⟩, rfl⟩
    refine ⟨fun h => does_of_finish rfl (if_pos h), fun h => does_of_finish rfl (if_neg (by simp [h])),
      fun hp hm hw => does_of_finish rfl (dormantWake_of_due hp hm hw),
      fun h => does_of_finish rfl (dormantWake_of_not_due h), fun x hx => ?_, ⟨rfl, rfl, rfl, rfl⟩, ⟨rfl, rfl, rfl, rfl⟩,
      ?_, ?_⟩
    · obtain ⟨h, hf⟩ := blocks x hx
      rw [hf]
      obtain ⟨h1, h2, h3⟩ := checked_counters (r := s.flg.retention) (a := recordKept) (b := countKept)
      exact ⟨h, h1, h2, h3, checked_record.1, checked_record.2, checked_startCount.1, checked_startCount.2,
        checked_of_good, checked_of_lost⟩
    · rintro rfl
      rfl
    · rintro rfl
      obtain ⟨h1, h2, h3⟩ := stageAtStart_cases mv
      exact ⟨fun h => ⟨h1 h, startStage1 h isOpen⟩, h2, h3⟩
  · intro t
    refine ⟨fun h => does_of_finish rfl (if_neg (by simp [h])), fun h => does_of_finish rfl (if_pos h), rfl, rfl, rfl,
      rfl, rfl, ?_, fun run h => ?_, cutImage_of_quiet⟩
    · show (s.flg.retention.recordGood && !s.flg.writing) = true ↔ _
      simp
    · show s.sst.cutImage = _
      simp only [Sst.cutImage, h]

end Sys2Proof.Machine
end

section
/-! PROOFS. Chapter 01: what the business of the link and of the tests leaves alone (for the LINES reset, R20). -/

namespace Sys2Proof.Machine
open Sys2Proof

/-! ## The parts of the relation -/

/-- Notices have joined the queue, or were lost behind a full one. -/
def Mpt.Told (m m' : Mpt) : Prop :=
  m' = { m with notices := m'.notices, lost := m'.lost } ∧ ∃ more, m'.notices = m.notices ++ more

/-- The claims of the link and the test and the absence of the link may differ: the copper side and the relay stand. -/
def Pac.SameCopper (p p' : Pac) : Prop :=
  p' =
    { p with
      link := p'.link, test := p'.test, testInfo := p'.testInfo, releaseAsked := p'.releaseAsked, waitEnd := p'.waitEnd
      testRelayClosed := p'.testRelayClosed, absenceFrom := p'.absenceFrom, absenceTaken := p'.absenceTaken }

/-- The TEST claim stands with what it holds. -/
def Pac.SameTest (p p' : Pac) : Prop :=
  p'.test = p.test ∧ p'.testInfo = p.testInfo ∧ p'.testRelayClosed = p.testRelayClosed ∧ p'.waitEnd = p.waitEnd

/-- The link's orders stand, no deferred drop joins, and it does not come to carry. -/
def Lks.SameOrders (k k' : Lks) : Prop :=
  (k'.enabled = k.enabled ∧ k'.backoff = k.backoff)
    ∧ (k.retrainEnd = none → k'.retrainEnd = none) ∧ (k.powerDropEnd = none → k'.powerDropEnd = none)
    ∧ (k.state ≠ .carrying → k'.state ≠ .carrying)

/-- The queue stands but for the phase of its head, and so do the results. -/
def Ltu.SameQueue (l l' : Ltu) : Prop :=
  (l'.nextJob = l.nextJob ∧ l'.results = l.results) ∧ (l.queue = [] → l'.queue = [])
    ∧ ∀ e rest, l.queue = e :: rest → ∃ phase, l'.queue = { e with phase := phase } :: rest

/-- The attempts that MCR counts stand, and no loopback begins. -/
def Mcr.SameAttempts (m m' : Mcr) : Prop :=
  (m'.window = m.window ∧ m'.total = m.total ∧ m'.lockoutEnd = m.lockoutEnd) ∧ (m.loopback = none → m'.loopback = none)

/-- What the log counts stands. -/
def Flg.SameCounts (f f' : Flg) : Prop :=
  f'.log.length = f.log.length ∧ f'.next = f.next ∧ f'.dropped = f.dropped ∧ f'.evicted = f.evicted

theorem Mpt.Told.refl (m : Mpt) : m.Told m := ⟨rfl, [], (List.append_nil _).symm⟩
theorem Mpt.Told.trans {a b c : Mpt} (h : a.Told b) (h' : b.Told c) : a.Told c := by
  obtain ⟨h1, more, h2⟩ := h
  obtain ⟨h3, more', h4⟩ := h'
  refine ⟨h3.trans (congrArg (fun x : Mpt => { x with notices := c.notices, lost := c.lost }) h1), more ++ more', ?_⟩
  rw [h4, h2, List.append_assoc]

theorem Pac.SameCopper.trans {a b c : Pac} (h : a.SameCopper b) (h' : b.SameCopper c) : a.SameCopper c :=
  Eq.trans h' (congrArg (fun x : Pac =>
    { x with
      link := c.link, test := c.test, testInfo := c.testInfo, releaseAsked := c.releaseAsked, waitEnd := c.waitEnd
      testRelayClosed := c.testRelayClosed, absenceFrom := c.absenceFrom, absenceTaken := c.absenceTaken }) h)

theorem Pac.SameTest.trans {a b c : Pac} (h : a.SameTest b) (h' : b.SameTest c) : a.SameTest c := by
  obtain ⟨h1, h2, h3, h4⟩ := h
  obtain ⟨k1, k2, k3, k4⟩ := h'
  exact ⟨k1.trans h1, k2.trans h2, k3.trans h3, k4.trans h4⟩

theorem Lks.SameOrders.refl (k : Lks) : k.SameOrders k := ⟨⟨rfl, rfl⟩, id, id, id⟩
theorem Lks.SameOrders.trans {a b c : Lks} (h : a.SameOrders b) (h' : b.SameOrders c) : a.SameOrders c := by
  obtain ⟨⟨h1, h2⟩, h3, h4, h5⟩ := h
  obtain ⟨⟨k1, k2⟩, k3, k4, k5⟩ := h'
  exact ⟨⟨k1.trans h1, k2.trans h2⟩, k3 ∘ h3, k4 ∘ h4, k5 ∘ h5⟩

theorem Ltu.SameQueue.refl (l : Ltu) : l.SameQueue l := ⟨⟨rfl, rfl⟩, id, fun e _ h => ⟨e.phase, h⟩⟩
theorem Ltu.SameQueue.trans {a b c : Ltu} (h : a.SameQueue b) (h' : b.SameQueue c) : a.SameQueue c := by
  obtain ⟨⟨h1, h2⟩, h3, h4⟩ := h
  obtain ⟨⟨k1, k2⟩, k3, k4⟩ := h'
  refine ⟨⟨k1.trans h1, k2.trans h2⟩, k3 ∘ h3, fun e rest hq => ?_⟩
  obtain ⟨_, hb⟩ := h4 e rest hq
  obtain ⟨phase, hc⟩ := k4 _ _ hb
  exact ⟨phase, hc⟩

theorem Mcr.SameAttempts.refl (m : Mcr) : m.SameAttempts m := ⟨⟨rfl, rfl, rfl⟩, id⟩
theorem Mcr.SameAttempts.trans {a b c : Mcr} (h : a.SameAttempts b) (h' : b.SameAttempts c) : a.SameAttempts c := by
  obtain ⟨⟨h1, h2, h3⟩, h4⟩ := h
  obtain ⟨⟨k1, k2, k3⟩, k4⟩ := h'
  exact ⟨⟨k1.trans h1, k2.trans h2, k3.trans h3⟩, k4 ∘ h4⟩

theorem Flg.SameCounts.refl (f : Flg) : f.SameCounts f := ⟨rfl, rfl, rfl, rfl⟩
theorem Flg.SameCounts.trans {a b c : Flg} (h : a.SameCounts b) (h' : b.SameCounts c) : a.SameCounts c := by
  obtain ⟨h1, h2, h3, h4⟩ := h
  obtain ⟨k1, k2, k3, k4⟩ := h'
  exact ⟨k1.trans h1, k2.trans h2, k3.trans h3, k4.trans h4⟩

/-! ## The relation -/

/-- `t` comes from `s` by business of the link and the tests. Where `C` holds no fault is reported; where `N` holds no
attempt begins; where `A` holds the absence of the link stands. -/
structure State.Line (C N A : Prop) (s t : State) : Prop where
  beside : t = { s with mpt := t.mpt, pac := t.pac, lks := t.lks, ltu := t.ltu, flg := t.flg, mcr := t.mcr }
  mpt : s.mpt.Told t.mpt
  pac : s.pac.SameCopper t.pac
  test : s.pac.test.state = .free → s.pac.SameTest t.pac
  absence : A → t.pac.absenceFrom = s.pac.absenceFrom ∧ t.pac.absenceTaken = s.pac.absenceTaken
  lks : s.lks.SameOrders t.lks
  ltu : s.ltu.SameQueue t.ltu
  retention : t.flg.retention = s.flg.retention
  mcr : s.mcr.SameAttempts t.mcr
  counts : C → s.flg.SameCounts t.flg
  off : N → s.lks.state = .off → t.lks.state = .off ∧ (s.pac.link.state = .free → t.pac.link.state = .free)

variable {C N A : Prop} {s t u : State}
open State

theorem State.Line.refl (s : State) : Line C N A s s :=
  ⟨rfl, Mpt.Told.refl _, rfl, fun _ => ⟨rfl, rfl, rfl, rfl⟩, fun _ => ⟨rfl, rfl⟩, Lks.SameOrders.refl _,
    Ltu.SameQueue.refl _, rfl, Mcr.SameAttempts.refl _, fun _ => Flg.SameCounts.refl _, fun _ h => ⟨h, id⟩⟩

theorem State.Line.trans (h : Line C N A s t) (h' : Line C N A t u) : Line C N A s u where
  beside := h'.beside.trans (congrArg (fun x : State =>
    { x with mpt := u.mpt, pac := u.pac, lks := u.lks, ltu := u.ltu, flg := u.flg, mcr := u.mcr }) h.beside)
  mpt := h.mpt.trans h'.mpt
  pac := h.pac.trans h'.pac
  test hf := (h.test hf).trans (h'.test ((congrArg Claim.state (h.test hf).1).trans hf))
  absence a := ⟨(h'.absence a).1.trans (h.absence a).1, (h'.absence a).2.trans (h.absence a).2⟩
  lks := h.lks.trans h'.lks
  ltu := h.ltu.trans h'.ltu
  retention := h'.retention.trans h.retention
  mcr := h.mcr.trans h'.mcr
  counts c := (h.counts c).trans (h'.counts c)
  off n ho := by
    obtain ⟨h1, h2⟩ := h.off n ho
    obtain ⟨k1, k2⟩ := h'.off n h1
    exact ⟨k1, k2 ∘ h2⟩

/-- What is kept under weaker guards is kept under stronger ones. -/
theorem State.Line.imp {C' N' A' : Prop} (hc : C' → C) (hn : N' → N) (ha : A' → A) (h : Line C N A s t) :
    Line C' N' A' s t :=
  ⟨h.beside, h.mpt, h.pac, h.test, h.absence ∘ ha, h.lks, h.ltu, h.retention, h.mcr, h.counts ∘ hc, h.off ∘ hn⟩

/-! ## One block changed -/

theorem onMpt_line {f : Mpt → Mpt} (h : s.mpt.Told (f s.mpt)) : Line C N A s (s.onMpt f) :=
  ⟨rfl, h, rfl, fun _ => ⟨rfl, rfl, rfl, rfl⟩, fun _ => ⟨rfl, rfl⟩, Lks.SameOrders.refl _, Ltu.SameQueue.refl _, rfl,
    Mcr.SameAttempts.refl _, fun _ => Flg.SameCounts.refl _, fun _ h => ⟨h, id⟩⟩

theorem onFlg_line {f : Flg → Flg} (h : (f s.flg).retention = s.flg.retention) (hn : C → s.flg.SameCounts (f s.flg)) :
    Line C N A s (s.onFlg f) :=
  ⟨rfl, Mpt.Told.refl _, rfl, fun _ => ⟨rfl, rfl, rfl, rfl⟩, fun _ => ⟨rfl, rfl⟩, Lks.SameOrders.refl _,
    Ltu.SameQueue.refl _, h, Mcr.SameAttempts.refl _, hn, fun _ h => ⟨h, id⟩⟩

theorem onMcr_line {f : Mcr → Mcr} (h : s.mcr.SameAttempts (f s.mcr)) : Line C N A s (s.onMcr f) :=
  ⟨rfl, Mpt.Told.refl _, rfl, fun _ => ⟨rfl, rfl, rfl, rfl⟩, fun _ => ⟨rfl, rfl⟩, Lks.SameOrders.refl _,
    Ltu.SameQueue.refl _, rfl, h, fun _ => Flg.SameCounts.refl _, fun _ h => ⟨h, id⟩⟩

theorem onLtu_line {f : Ltu → Ltu} (h : s.ltu.SameQueue (f s.ltu)) : Line C N A s (s.onLtu f) :=
  ⟨rfl, Mpt.Told.refl _, rfl, fun _ => ⟨rfl, rfl, rfl, rfl⟩, fun _ => ⟨rfl, rfl⟩, Lks.SameOrders.refl _,
    h, rfl, Mcr.SameAttempts.refl _, fun _ => Flg.SameCounts.refl _, fun _ h => ⟨h, id⟩⟩

theorem onLks_line {f : Lks → Lks} (h : s.lks.SameOrders (f s.lks)) (ho : N → s.lks.state = .off → (f s.lks).state = .off) :
    Line C N A s (s.onLks f) :=
  ⟨rfl, Mpt.Told.refl _, rfl, fun _ => ⟨rfl, rfl, rfl, rfl⟩, fun _ => ⟨rfl, rfl⟩, h,
    Ltu.SameQueue.refl _, rfl, Mcr.SameAttempts.refl _, fun _ => Flg.SameCounts.refl _, fun n h => ⟨ho n h, id⟩⟩

theorem onPac_line {f : Pac → Pac} (h : s.pac.SameCopper (f s.pac))
    (ht : s.pac.test.state = .free → s.pac.SameTest (f s.pac))
    (ha : A → (f s.pac).absenceFrom = s.pac.absenceFrom ∧ (f s.pac).absenceTaken = s.pac.absenceTaken)
    (hl : N → s.pac.link.state = .free → (f s.pac).link.state = .free) : Line C N A s (s.onPac f) :=
  ⟨rfl, Mpt.Told.refl _, h, ht, ha, Lks.SameOrders.refl _,
    Ltu.SameQueue.refl _, rfl, Mcr.SameAttempts.refl _, fun _ => Flg.SameCounts.refl _, fun n h => ⟨h, hl n⟩⟩

/-! ## Notices and faults -/

theorem queueNotice_told (n : Notice) (m : Mpt) : m.Told (m.queueNotice n) := by
  unfold Mpt.queueNotice
  split
  · exact Mpt.Told.refl m
  · split
    · exact ⟨rfl, [], (List.append_nil _).symm⟩
    · exact ⟨rfl, [n], rfl⟩

theorem notice_line (n : Notice) (s : State) : Line C N A s (notice n s) := onMpt_line (queueNotice_told n s.mpt)

theorem faultNotice_line (e : FaultEvent) (r : FaultRecord) (s : State) : Line C N A s (faultNotice e r s) := by
  unfold faultNotice
  split
  · exact Line.refl s
  · exact notice_line _ s

theorem clearFault_line (c : FaultCode) (o : Source) (s : State) : Line C N A s (clearFault c o s) := by
  unfold clearFault
  split
  · exact (onFlg_line rfl fun _ => ⟨length_mapFirst _ _ _, rfl, rfl, rfl⟩).trans (faultNotice_line _ _ _)
  · exact Line.refl s

theorem report_line {v : Severity} (hv : v ≠ .critical) (c : FaultCode) (o : Source) (d : List (BitVec 32)) (s : State) :
    Line False N A s (report c o v d s) := by
  have hr : report c o v d s = reportLog c o v d s := if_neg hv
  rw [hr]
  unfold reportLog
  split
  · dsimp only
    split
    · exact (onFlg_line rfl False.elim).trans (faultNotice_line _ _ _)
    · exact onFlg_line rfl False.elim
  · dsimp only
    split
    · exact (onFlg_line rfl False.elim).trans (faultNotice_line _ _ _)
    · split
      · exact (onFlg_line rfl False.elim).trans (faultNotice_line _ _ _)
      · exact onFlg_line rfl False.elim

theorem linkNotice_line (prev : LinkState) (c : LinkCause) (s : State) : Line C N A s (linkNotice prev c s) :=
  notice_line _ s

/-! ## The pair -/

theorem grantLink_line (s : State) : Line C False A s (grantLink s) :=
  (onPac_line (by rfl) (fun _ => ⟨rfl, rfl, rfl, rfl⟩) (fun _ => ⟨rfl, rfl⟩) False.elim).trans
    ((onLks_line ⟨⟨rfl, rfl⟩, id, id, fun _ => LinkState.noConfusion⟩ False.elim).trans (linkNotice_line _ _ _))

theorem settle_sameQueue (n : Nat) (l : Ltu) : l.SameQueue (l.settle n) := by
  unfold Ltu.settle
  split
  · exact Ltu.SameQueue.refl l
  · rename_i e rest hq
    refine ⟨⟨rfl, rfl⟩, fun h => (by cases hq.symm.trans h), fun e' rest' h => ⟨.settle, ?_⟩⟩
    obtain ⟨rfl, rfl⟩ := List.cons.inj (hq.symm.trans h)
    rfl

theorem grantTest_line (h : s.pac.test.state ≠ .free) : Line C N A s (grantTest s) :=
  (onPac_line (by rfl) (fun hf => absurd hf h) (fun _ => ⟨rfl, rfl⟩) (fun _ hl => hl)).trans
    (onLtu_line (settle_sameQueue _ _))

/-- A waiting link that gets the pair begins an attempt. -/
theorem reexamine_line (h : N → s.pac.link.state ≠ .waiting) : Line C N A s (reexamine s) := by
  by_cases ht : (s.pac.test.state = .waiting && s.testGrantable) = true
  · rw [reexamine, if_pos ht]
    refine grantTest_line fun hf => ?_
    rw [hf] at ht
    cases ht
  · rw [reexamine, if_neg ht]
    split
    · rename_i hl
      have hw : s.pac.link.state = .waiting := of_decide_eq_true (Bool.and_eq_true_iff.mp hl).1
      exact (grantLink_line s).imp id (fun n => h n hw) id
    · exact Line.refl s

theorem requestLink_line (s : State) : Line C False A s (requestLink s) := by
  unfold requestLink
  split
  · exact grantLink_line s
  · exact onPac_line (by rfl) (fun _ => ⟨rfl, rfl, rfl, rfl⟩) (fun _ => ⟨rfl, rfl⟩) False.elim

theorem releaseLink_line (s : State) : Line C N A s (releaseLink s) := by
  unfold releaseLink
  split
  · exact Line.refl s
  · exact (onPac_line (by rfl) (fun _ => ⟨rfl, rfl, rfl, rfl⟩) (fun _ => ⟨rfl, rfl⟩) fun _ _ => rfl).trans
      (reexamine_line fun _ => ClaimState.noConfusion)

theorem freeTest_line (s : State) : Line C N A s (freeTest s) := by
  unfold freeTest
  split
  · exact Line.refl s
  · rename_i h
    exact onPac_line (by rfl) (fun hf => absurd hf h) (fun _ => ⟨rfl, rfl⟩) fun _ hl => hl

/-! ## The link -/

theorem trialEnd_line (s : State) : Line C N A s (trialEnd s) := onLks_line ⟨⟨rfl, rfl⟩, id, id, id⟩ fun _ h => h
theorem countDrop_line (r : DropReason) (s : State) : Line C N A s (countDrop r s) :=
  onLks_line ⟨⟨rfl, rfl⟩, id, id, id⟩ fun _ h => h

theorem abandonAttempt_line (s : State) : Line C N A s (abandonAttempt s) :=
  (onLks_line ⟨⟨rfl, rfl⟩, id, id, id⟩ fun _ h => h).trans ((trialEnd_line _).trans (releaseLink_line _))

theorem toOff_line (c : LinkCause) (s : State) : Line C N A s (toOff c s) :=
  (onLks_line ⟨⟨rfl, rfl⟩, fun _ => rfl, fun _ => rfl, fun _ => LinkState.noConfusion⟩ fun _ _ => rfl).trans
    (linkNotice_line _ _ _)

theorem closePartial_line (r : DropReason) (s : State) : Line C N A s (closePartial r s) := by
  unfold closePartial
  split
  · exact Line.refl s
  · dsimp only
    split
    · exact onLks_line ⟨⟨rfl, rfl⟩, id, id, id⟩ fun _ h => h
    · exact (onLks_line ⟨⟨rfl, rfl⟩, id, id, id⟩ fun _ h => h).trans
        ((onLks_line ⟨⟨rfl, rfl⟩, id, id, id⟩ fun _ h => h).trans (notice_line _ _))

theorem endLoopback_line (c : LoopEnd) (s : State) : Line C N A s (endLoopback c s) := by
  unfold endLoopback
  split
  · exact Line.refl s
  · dsimp only
    split
    · exact onMcr_line ⟨⟨rfl, rfl, rfl⟩, fun _ => rfl⟩
    · exact (onMcr_line ⟨⟨rfl, rfl, rfl⟩, fun _ => rfl⟩).trans (notice_line _ _)

theorem channelLost_line (s : State) : Line C N A s (channelLost s) :=
  (onMcr_line ⟨⟨rfl, rfl, rfl⟩, id⟩).trans (endLoopback_line _ _)

theorem flushPayload_line (s : State) : Line C N A s (flushPayload s) := onLks_line ⟨⟨rfl, rfl⟩, id, id, id⟩ fun _ h => h

theorem leaveCarrying_line (r : DropReason) (s : State) : Line C N False s (leaveCarrying r s) := by
  have h1 : Line C N False s ((closePartial r s).onLks fun k =>
      { k with carryingSince := none, retrainEnd := none, powerDropEnd := none, lossEnd := none }) :=
    (closePartial_line r s).trans (onLks_line ⟨⟨rfl, rfl⟩, fun _ => rfl, fun _ => rfl, id⟩ fun _ h => h)
  unfold leaveCarrying
  refine (h1.trans ((channelLost_line _).trans (flushPayload_line _))).trans ?_
  exact onPac_line (by rfl) (fun _ => ⟨rfl, rfl, rfl, rfl⟩) False.elim fun _ hl => hl

theorem waitWith_line (w : WaitReason) (c : LinkCause) (s : State) : Line C False A s (waitWith w c s) := by
  have h1 : Line C False A s (s.onLks fun k =>
      { k with
        state := .waiting, wait := some w, dest := none, backoffEnd := none, releaseWait := none, greetingEnd := none,
        trainingEnd := none, releasingEnd := none }) :=
    onLks_line ⟨⟨rfl, rfl⟩, id, id, fun _ => LinkState.noConfusion⟩ False.elim
  unfold waitWith
  dsimp only
  split
  · exact h1
  · exact h1.trans (linkNotice_line _ _ _)

theorem beginAttempt_line (c : LinkCause) (s : State) : Line False False A s (beginAttempt c s) := by
  have hfresh : Line False False A s (freshLadder s) := onLks_line ⟨⟨rfl, rfl⟩, id, id, id⟩ False.elim
  unfold beginAttempt
  dsimp only
  split
  · exact hfresh.trans ((waitWith_line _ _ _).trans (report_line (by decide) _ _ _ _))
  · refine hfresh.trans (Line.trans ?_ (requestLink_line _))
    refine Line.trans ?_ (onLks_line ⟨⟨rfl, rfl⟩, id, id, id⟩ False.elim)
    refine Line.trans ?_ (waitWith_line _ _ _)
    exact (onLks_line ⟨⟨rfl, rfl⟩, id, id, id⟩ False.elim).trans (clearFault_line _ _ _)

/-- A release request to a link that does not carry. -/
theorem askRelease_line (hc : s.lks.state ≠ .carrying) (hn : C ∨ N → s.lks.state = .off) :
    Line C N A s (askRelease s) := by
  by_cases ha : s.asksRelease
  · have h1 : Line C N A s { s with pac := { s.pac with releaseAsked := true } } :=
      onPac_line (f := fun p => { p with releaseAsked := true }) rfl (fun _ => ⟨rfl, rfl, rfl, rfl⟩)
        (fun _ => ⟨rfl, rfl⟩) fun _ hl => hl
    have again : ¬(C ∨ N) → Line C N A s (beginAttempt .other
        (abandonAttempt { s with pac := { s.pac with releaseAsked := true } })) := fun hno =>
      h1.trans ((abandonAttempt_line _).trans ((beginAttempt_line _ _).imp (hno ∘ .inl) (hno ∘ .inr) id))
    rw [askRelease_of_asks ha]
    unfold releaseRequest
    split
    · rename_i hs
      exact absurd hs hc
    · rename_i hs
      exact again fun n => LinkState.noConfusion ((hn n).symm.trans hs)
    · rename_i hs
      exact again fun n => LinkState.noConfusion ((hn n).symm.trans hs)
    · exact h1
  · rw [askRelease_of_not_asks ha]
    exact Line.refl s

end Sys2Proof.Machine
end

section
/-! PROOFS. Chapter 01: what a LINES reset leaves standing (R20, R199), step by step. -/

namespace Sys2Proof.Machine
open Sys2Proof

variable {C N A : Prop} {s t u : State}
open State

/-! ## What every step of the reset leaves standing -/

/-- The copper side, and where the relay is or goes: only auto-lifeline moves a relay at rest. -/
def Pac.SameSide (auto : Bool) (p p' : Pac) : Prop :=
  (p'.lifeline = p.lifeline ∧ p'.copperActive = p.copperActive ∧ p'.copperOffHook = p.copperOffHook
      ∧ p'.ringSession = p.ringSession ∧ p'.ringBurst = p.ringBurst ∧ p'.sessionEnd = p.sessionEnd
      ∧ p'.hazardEnd = p.hazardEnd ∧ p'.hazardHigh = p.hazardHigh)
    ∧ (p'.relay.pos = p.relay.pos ∧ p'.relay.reason = p.relay.reason
      ∧ (∀ m, p.relay.move = some m → p'.relay.move = some m)
      ∧ (p.relay.move = none → auto = false → p'.relay.move = none))

/-- What every step of a LINES reset leaves standing. -/
structure State.Stands (s t : State) : Prop where
  plain : t.psv = s.psv ∧ t.sst = s.sst ∧ t.clock = s.clock ∧ t.powered = s.powered ∧ t.pending = s.pending
  mpt : s.mpt.Told t.mpt
  side : s.pac.SameSide s.sst.contents.control.autoLifeline t.pac
  test : s.pac.test.state = .free → s.pac.SameTest t.pac
  retention : t.flg.retention = s.flg.retention
  mcr : s.mcr.SameAttempts t.mcr
  capacity : t.rsc.capacity = s.rsc.capacity
  nextJob : t.ltu.nextJob = s.ltu.nextJob

/-- What the steps behind the end of the link and of the tests keep beside: the guards are those of `State.Line`. -/
structure State.Rests (C N : Prop) (s t : State) : Prop where
  absence : t.pac.absenceFrom = s.pac.absenceFrom ∧ t.pac.absenceTaken = s.pac.absenceTaken
  lks : s.lks.SameOrders t.lks
  ltu : s.ltu.SameQueue t.ltu
  counts : C → s.flg.SameCounts t.flg
  off : N → s.lks.state = .off → t.lks.state = .off ∧ (s.pac.link.state = .free → t.pac.link.state = .free)

theorem Pac.SameSide.refl (auto : Bool) (p : Pac) : p.SameSide auto p :=
  ⟨⟨rfl, rfl, rfl, rfl, rfl, rfl, rfl, rfl⟩, rfl, rfl, fun _ h => h, fun h _ => h⟩

theorem Pac.SameSide.trans {auto : Bool} {a b c : Pac} (h : a.SameSide auto b) (h' : b.SameSide auto c) :
    a.SameSide auto c := by
  obtain ⟨⟨h1, h2, h3, h4, h5, h6, h7, h8⟩, h9, h10, h11, h12⟩ := h
  obtain ⟨⟨k1, k2, k3, k4, k5, k6, k7, k8⟩, k9, k10, k11, k12⟩ := h'
  exact ⟨⟨k1.trans h1, k2.trans h2, k3.trans h3, k4.trans h4, k5.trans h5, k6.trans h6, k7.trans h7, k8.trans h8⟩,
    k9.trans h9, k10.trans h10, fun m hm => k11 m (h11 m hm), fun hm ha => k12 (h12 hm ha) ha⟩

theorem Pac.SameCopper.relay {p p' : Pac} (h : p.SameCopper p') : p'.relay = p.relay := by
  unfold Pac.SameCopper at h
  rw [h]

theorem Pac.SameCopper.side {p p' : Pac} (h : p.SameCopper p') (auto : Bool) : p.SameSide auto p' := by
  unfold Pac.SameCopper at h
  rw [h]
  exact Pac.SameSide.refl auto p

theorem State.Stands.refl (s : State) : Stands s s :=
  ⟨⟨rfl, rfl, rfl, rfl, rfl⟩, Mpt.Told.refl _, Pac.SameSide.refl _ _, fun _ => ⟨rfl, rfl, rfl, rfl⟩, rfl,
    Mcr.SameAttempts.refl _, rfl, rfl⟩

theorem State.Stands.trans (h : Stands s t) (h' : Stands t u) : Stands s u := by
  obtain ⟨⟨h1, h2, h3, h4, h5⟩, h6, h7, h8, h9, h10, h11, h12⟩ := h
  obtain ⟨⟨k1, k2, k3, k4, k5⟩, k6, k7, k8, k9, k10, k11, k12⟩ := h'
  refine ⟨⟨k1.trans h1, k2.trans h2, k3.trans h3, k4.trans h4, k5.trans h5⟩, h6.trans k6, ?_,
    fun hf => (h8 hf).trans (k8 ((congrArg Claim.state (h8 hf).1).trans hf)), k9.trans h9, h10.trans k10, k11.trans h11,
    k12.trans h12⟩
  rw [h2] at k7
  exact h7.trans k7

theorem State.Rests.refl (s : State) : Rests C N s s :=
  ⟨⟨rfl, rfl⟩, Lks.SameOrders.refl _, Ltu.SameQueue.refl _, fun _ => Flg.SameCounts.refl _, fun _ h => ⟨h, id⟩⟩

theorem State.Rests.trans (h : Rests C N s t) (h' : Rests C N t u) : Rests C N s u where
  absence := ⟨h'.absence.1.trans h.absence.1, h'.absence.2.trans h.absence.2⟩
  lks := h.lks.trans h'.lks
  ltu := h.ltu.trans h'.ltu
  counts c := (h.counts c).trans (h'.counts c)
  off n ho := by
    obtain ⟨h1, h2⟩ := h.off n ho
    obtain ⟨k1, k2⟩ := h'.off n h1
    exact ⟨k1, k2 ∘ h2⟩

/-- Business of the link and the tests touches no other block. -/
theorem State.Line.blocks (h : Line C N A s t) :
    (t.psv = s.psv ∧ t.sst = s.sst ∧ t.clock = s.clock ∧ t.powered = s.powered ∧ t.pending = s.pending)
      ∧ t.rsc = s.rsc ∧ ∀ p : PortId, t.port p = s.port p ∧ t.seq p = s.seq p := by
  rw [h.beside]
  refine ⟨⟨rfl, rfl, rfl, rfl, rfl⟩, rfl, fun p => ?_⟩
  cases p with
  | one => exact ⟨rfl, rfl⟩
  | two => exact ⟨rfl, rfl⟩

theorem State.Line.stands (h : Line C N A s t) : Stands s t := by
  obtain ⟨hplain, hrsc, -⟩ := h.blocks
  exact ⟨hplain, h.mpt, h.pac.side _, h.test, h.retention, h.mcr, congrArg Rsc.capacity hrsc, h.ltu.1.1⟩

theorem State.Line.rests (h : Line C N True s t) : Rests C N s t := ⟨h.absence trivial, h.lks, h.ltu, h.counts, h.off⟩

/-! ## LKS up to OFF (R45) -/

theorem linkOff_line (r : DropReason) (ha : A → s.lks.state ≠ .carrying) : Line C N A s (linkOff r s) := by
  unfold linkOff
  split
  · exact Line.refl s
  · exact (trialEnd_line s).trans ((releaseLink_line _).trans (toOff_line _ _))
  · rename_i hc
    exact (((trialEnd_line s).trans ((countDrop_line _ _).trans ((releaseLink_line _).trans
      (toOff_line _ _)))).trans (leaveCarrying_line _ _)).imp id id fun a => ha a hc
  · exact (countDrop_line _ s).trans ((abandonAttempt_line _).trans (toOff_line _ _))

theorem linkOff_state (r : DropReason) (s : State) : (linkOff r s).lks.state = .off := by
  unfold linkOff
  split
  · assumption
  · rfl
  · rw [leaveCarrying_eq]
    rfl
  · rfl

/-- The end of the link frees its claim, unless it was OFF with a claim. -/
theorem linkOff_free (r : DropReason) (h : s.lks.state ≠ .off ∨ s.pac.link.state = .free) :
    (linkOff r s).pac.link.state = .free := by
  unfold linkOff
  split
  · exact h.resolve_left (not_not_intro ‹_›)
  · exact releaseLink_link _
  · rw [leaveCarrying_eq]
    exact releaseLink_link _
  · exact releaseLink_link _

/-- A pair that is given up may go to the test that waits for it; the claim of a test stays. -/
theorem releaseLink_test (h : s.pac.test.state ≠ .free) : (releaseLink s).pac.test.state ≠ .free := by
  have hr : ∀ u : State, u.pac.test.state ≠ .free → (reexamine u).pac.test.state ≠ .free := fun u hu => by
    unfold reexamine
    split
    · exact ClaimState.noConfusion
    · split
      · exact hu
      · exact hu
  unfold releaseLink
  split
  · exact h
  · exact hr _ h

theorem linkOff_test (r : DropReason) (h : s.pac.test.state ≠ .free) : (linkOff r s).pac.test.state ≠ .free := by
  unfold linkOff
  split
  · exact h
  · exact releaseLink_test h
  · rw [leaveCarrying_eq]
    exact releaseLink_test (s := countDrop r (trialEnd s)) h
  · exact releaseLink_test h

theorem linkOff_absence (r : DropReason) (h : s.lks.state = .carrying) :
    (linkOff r s).pac.absenceFrom = some s.clock ∧ (linkOff r s).pac.absenceTaken = false := by
  have he : linkOff r s = leaveCarrying r (toOff (.drop r) (releaseLink (countDrop r (trialEnd s)))) := by
    simp only [linkOff, h]
  have hk : Line True True True s (toOff (.drop r) (releaseLink (countDrop r (trialEnd s)))) :=
    (trialEnd_line s).trans ((countDrop_line _ _).trans ((releaseLink_line _).trans (toOff_line _ _)))
  rw [he, leaveCarrying_eq]
  exact ⟨congrArg some hk.blocks.1.2.2.1, rfl⟩

/-- The link ended, with a loopback. -/
def linkEnded (s : State) : State := trialEnd (linkOff .reset (endLoopback .reset s))

theorem linkEnded_line (ha : A → s.lks.state ≠ .carrying) : Line C N A s (linkEnded s) := by
  have h0 : Line C N A s (endLoopback .reset s) := endLoopback_line _ _
  refine h0.trans ((linkOff_line _ fun a => ?_).trans (trialEnd_line _))
  rw [endLoopback_eq]
  exact ha a

/-- What the link has ended with: OFF, no loopback, its claim FREE, the claim of a test kept, its absence begun. -/
theorem linkEnded_ends (s : State) :
    (linkEnded s).lks.state = .off ∧ (linkEnded s).mcr.loopback = none
      ∧ (s.lks.state ≠ .off ∨ s.pac.link.state = .free → (linkEnded s).pac.link.state = .free)
      ∧ (s.pac.test.state ≠ .free → (linkEnded s).pac.test.state ≠ .free)
      ∧ (s.lks.state = .carrying →
          (linkEnded s).pac.absenceFrom = some s.clock ∧ (linkEnded s).pac.absenceTaken = false) := by
  have hl : Line False False False (endLoopback .reset s) (linkEnded s) :=
    (linkOff_line _ False.elim).trans (trialEnd_line _)
  have h0 : (endLoopback .reset s).lks = s.lks ∧ (endLoopback .reset s).pac = s.pac
      ∧ (endLoopback .reset s).clock = s.clock ∧ (endLoopback .reset s).mcr.loopback = none := by
    rw [endLoopback_eq]
    exact ⟨rfl, rfl, rfl, rfl⟩
  unfold linkEnded at hl ⊢
  generalize endLoopback .reset s = u at h0 hl
  obtain ⟨h1, h2, h3, h4⟩ := h0
  rw [← h1, ← h2, ← h3]
  exact ⟨linkOff_state _ u, hl.mcr.2 h4, linkOff_free _, linkOff_test _, linkOff_absence _⟩

/-! ## LTU (R147) -/

theorem resultFault_line (r : TestResult) (s : State) : Line False N A s (resultFault r s) := by
  unfold resultFault
  split
  · exact clearFault_line _ _ _
  · exact report_line (by decide) _ _ _ _
  · exact report_line (by decide) _ _ _ _
  · exact report_line (by decide) _ _ _ _
  · exact report_line (by decide) _ _ _ _
  · exact Line.refl s

/-- The head's result, ended by the reset. -/
def resetResult (e : TestEntry) (s : State) : TestResult :=
  endedTest .reset e s.ltu s.sst.contents.tests s.uptime

/-- The queue is emptied, the head's result written. -/
def queueReset (e : TestEntry) (s : State) : State :=
  { s with
    ltu :=
      { s.ltu with
        queue := [], run := none
        results := s.ltu.results.setIfInBounds e.kind.ctorIdx (some (resetResult e s)) } }

theorem testLines_of_empty (h : s.ltu.queue = []) : testLines s = s := by simp only [testLines, h]

theorem testLines_of_head {e : TestEntry} {rest : List TestEntry} (h : s.ltu.queue = e :: rest) :
    testLines s = reexamine (testDone (resetResult e s) (freeTest (queueReset e s))) := by
  have hk : testLines s = cutHead false .reset (s.onLtu fun l => { l with queue := [e] }) := by
    simp only [testLines, h]
  have hc : cutHead false .reset (s.onLtu fun l => { l with queue := [e] })
      = finishTest true false e (cutStatus s.ltu.run) (some .reset) (s.onLtu fun l => { l with queue := [e] }) := rfl
  have he : eraseFirst (fun x : TestEntry => decide (x.job = e.job)) [e] = [] := if_pos (decide_eq_true rfl)
  rw [hk, hc]
  unfold finishTest queueReset
  simp only [if_true, State.onLtu, he]
  rfl

end Sys2Proof.Machine
end

section
/-! PROOFS. Chapters 04 to 06: the ring supply and the ports at a LINES reset (R95, R117). -/

namespace Sys2Proof.Machine
open Sys2Proof

variable {C N A : Prop} {s t u : State}
open State

/-! ## PAC and RSC (R15, R117) -/

/-- Neither the ring supply nor a port or its sequencer differs. -/
def State.SamePorts (s t : State) : Prop := t.rsc = s.rsc ∧ ∀ p : PortId, t.port p = s.port p ∧ t.seq p = s.seq p

theorem State.Line.ports (h : Line C N A s t) : SamePorts s t := h.blocks.2

theorem pairLines_of_plain (h : s.pac.relay.deferred = false) : pairLines s = s := if_neg (by simp [h])

/-- A deferred LOCAL request is discarded; nothing else of the pair is. -/
theorem pairLines_rests (s : State) :
    Stands s (pairLines s) ∧ Rests C N s (pairLines s) ∧ SamePorts s (pairLines s)
      ∧ (pairLines s).pac.relay.deferred = false := by
  by_cases hd : s.pac.relay.deferred = true
  · let v : State := { s with pac := { s.pac with relay := { s.pac.relay with deferred := false } } }
    have hv : pairLines s
        = notice (.lifelinePosition s.pac.relay.pos s.pac.relay.reason (some .discarded)) v := if_pos hd
    have hl : Line C N True v (pairLines s) := hv ▸ notice_line _ v
    have h1 : Stands s v := ⟨⟨rfl, rfl, rfl, rfl, rfl⟩, Mpt.Told.refl _,
      ⟨⟨rfl, rfl, rfl, rfl, rfl, rfl, rfl, rfl⟩, rfl, rfl, fun _ h => h, fun h _ => h⟩, fun _ => ⟨rfl, rfl, rfl, rfl⟩, rfl,
      Mcr.SameAttempts.refl _, rfl, rfl⟩
    have h2 : Rests C N s v := ⟨⟨rfl, rfl⟩, Lks.SameOrders.refl _, Ltu.SameQueue.refl _, fun _ => Flg.SameCounts.refl _,
      fun _ h => ⟨h, id⟩⟩
    exact ⟨h1.trans hl.stands, h2.trans hl.rests, hl.ports, congrArg Relay.deferred hl.pac.relay⟩
  · rw [pairLines_of_plain (Bool.eq_false_iff.mpr hd)]
    exact ⟨Stands.refl s, Rests.refl s, ⟨rfl, fun _ => ⟨rfl, rfl⟩⟩, Bool.eq_false_iff.mpr hd⟩

/-- The edges of the bursts that end move the ring guard only. -/
theorem foldl_ringEdge_line (xs : List RingEntry) (s : State) :
    Line C N A s (xs.foldl (fun s _ => ringEdge s) s) := by
  induction xs generalizing s with
  | nil => exact Line.refl s
  | cons x xs ih =>
    have h1 : Line C N A s (ringEdge s) := onLks_line ⟨⟨rfl, rfl⟩, id, id, id⟩ fun _ h => h
    exact h1.trans (ih _)

/-- The ring supply is OFF with its lists empty. -/
def Rsc.emptied (r : Rsc) : Rsc :=
  { r with
    state := .off, bursts := [], waits := [], idleEnd := none, chargeEnd := none, retryEnd := none, history := [] }

theorem supplyLines_rests (s : State) :
    Stands s (supplyLines s) ∧ Rests C N s (supplyLines s) ∧ (supplyLines s).rsc = s.rsc.emptied
      ∧ (∀ p : PortId, (supplyLines s).port p = s.port p ∧ (supplyLines s).seq p = s.seq p)
      ∧ (supplyLines s).pac.relay = s.pac.relay := by
  have h1 : Line C N True s (s.rsc.bursts.foldl (fun s _ => ringEdge s) s) := foldl_ringEdge_line _ s
  have h2 : supplyLines s
      = clearFault .ringSupply .rsc ((s.rsc.bursts.foldl (fun s _ => ringEdge s) s).onRsc Rsc.emptied) := rfl
  rw [h2]
  generalize s.rsc.bursts.foldl (fun s _ => ringEdge s) s = v at h1
  have h3 : Line C N True (v.onRsc Rsc.emptied) (clearFault .ringSupply .rsc (v.onRsc Rsc.emptied)) := clearFault_line _ _ _
  have h4 : Stands v (v.onRsc Rsc.emptied) := ⟨⟨rfl, rfl, rfl, rfl, rfl⟩, Mpt.Told.refl _, Pac.SameSide.refl _ _,
    fun _ => ⟨rfl, rfl, rfl, rfl⟩, rfl, Mcr.SameAttempts.refl _, rfl, rfl⟩
  have h5 : Rests C N v (v.onRsc Rsc.emptied) := ⟨⟨rfl, rfl⟩, Lks.SameOrders.refl _, Ltu.SameQueue.refl _,
    fun _ => Flg.SameCounts.refl _, fun _ h => ⟨h, id⟩⟩
  obtain ⟨hr1, hp1⟩ := h1.ports
  obtain ⟨hr3, hp3⟩ := h3.ports
  refine ⟨h1.stands.trans (h4.trans h3.stands), h1.rests.trans (h5.trans h3.rests),
    hr3.trans (congrArg Rsc.emptied hr1), fun p => ?_, h3.pac.relay.trans h1.pac.relay⟩
  obtain ⟨k1, k2⟩ := hp3 p
  obtain ⟨k3, k4⟩ := hp1 p
  cases p with
  | one => exact ⟨k1.trans k3, k2.trans k4⟩
  | two => exact ⟨k1.trans k3, k2.trans k4⟩

/-! ## A port and its sequencer -/

/-- What a port's reset needs: the ring supply is empty, the link does not carry and no drop of it is deferred. -/
structure State.Resettable (s : State) : Prop where
  bursts : s.rsc.bursts = []
  waits : s.rsc.waits = []
  carries : s.lks.state ≠ .carrying
  retrain : s.lks.retrainEnd = none
  powerDrop : s.lks.powerDropEnd = none

theorem endBurst_of_no_burst (p : PortId) (h : s.rsc.bursts = []) : endBurst p s = s :=
  if_neg (by simp [Rsc.bursting, h])

theorem leaveWaits_of_no_wait (p : PortId) (h : s.rsc.waits = []) : leaveWaits p s = s :=
  if_neg (by simp [Rsc.waiting, h])

/-- One port and its sequencer put in place. -/
def State.setPort (p : PortId) (q : Port) (r : Sequencer) (s : State) : State :=
  (s.onSeq p fun _ => r).onPort p fun _ => q

section SetPort

variable {p : PortId} {q : Port} {r : Sequencer}

theorem onPort_setPort (f : Port → Port) : (setPort p q r s).onPort p f = setPort p (f q) r s := by cases p <;> rfl
theorem onSeq_setPort (f : Sequencer → Sequencer) : (setPort p q r s).onSeq p f = setPort p q (f r) s := by
  cases p <;> rfl
theorem port_setPort : (setPort p q r s).port p = q := by cases p <;> rfl
theorem seq_setPort : (setPort p q r s).seq p = r := by cases p <;> rfl
theorem setPort_other {p' : PortId} (h : p' ≠ p) :
    (setPort p q r s).port p' = s.port p' ∧ (setPort p q r s).seq p' = s.seq p' := by
  cases p with
  | one =>
    cases p' with
    | one => exact absurd rfl h
    | two => exact ⟨rfl, rfl⟩
  | two =>
    cases p' with
    | one => exact ⟨rfl, rfl⟩
    | two => exact absurd rfl h

/-- A stop of a program while the ring supply is empty. -/
theorem stopSeq_setPort (hb : s.rsc.bursts = []) (hw : s.rsc.waits = []) :
    ∃ q' r', stopSeq none p (setPort p q r s) = setPort p q' r' s
      ∧ r'.run = none ∧ q'.state = q.state ∧ q'.digits = q.digits ∧ q'.voice = q.voice := by
  have hrsc : ∀ q r, (setPort p q r s).rsc = s.rsc := fun q r => by cases p <;> rfl
  have he : ∀ q r, endBurst p (setPort p q r s) = setPort p q r s := fun q r =>
    endBurst_of_no_burst p (by rw [hrsc, hb])
  have hl : ∀ q r, leaveWaits p (setPort p q r s) = setPort p q r s := fun q r =>
    leaveWaits_of_no_wait p (by rw [hrsc, hw])
  cases hr : r.run with
  | none => exact ⟨q, r, stopSeq_of_idle (by rw [seq_setPort, hr]), hr, rfl, rfl, rfl⟩
  | some run =>
    refine ⟨{ q with dialMarker := false, autoMarker := false }, { r with run := none }, ?_, rfl, rfl, rfl, rfl⟩
    have hrun : ((setPort p q r s).seq p).run = some run := by rw [seq_setPort, hr]
    simp only [stopSeq, hrun, onSeq_setPort, he, hl, ite_self, clearMarkers, onPort_setPort]

theorem setPort_stands : Stands s (setPort p q r s) := by
  cases p <;> exact ⟨⟨rfl, rfl, rfl, rfl, rfl⟩, Mpt.Told.refl _, Pac.SameSide.refl _ _, fun _ => ⟨rfl, rfl, rfl, rfl⟩, rfl,
    Mcr.SameAttempts.refl _, rfl, rfl⟩

theorem setPort_rests : Rests C N s (setPort p q r s) := by
  cases p <;> exact ⟨⟨rfl, rfl⟩, Lks.SameOrders.refl _, Ltu.SameQueue.refl _, fun _ => Flg.SameCounts.refl _,
    fun _ h => ⟨h, id⟩⟩

end SetPort

/-! ## The report of an entry to IDLE (R16, R69) -/

theorem stepUpCheck_line (h : s.lks.state ≠ .carrying) : Line C N A s (stepUpCheck s) := by
  rw [stepUpCheck_of_idle fun hc => h hc.1]
  exact Line.refl s

/-- No drop waits for the end of a call. -/
theorem callsEnded_of_no_drop (hr : s.lks.retrainEnd = none) (hp : s.lks.powerDropEnd = none) : callsEnded s = s := by
  by_cases hc : s.noCall = true
  · exact (callsEnded_of_free hc).1 hr hp
  · exact callsEnded_of_call hc

/-- LKS and PAC look at the link, then PAC at auto-lifeline. -/
theorem portChanged_resets (p : PortId) (old : PortState) (h : Resettable s) (hn : C ∨ N → s.lks.state = .off) :
    ∃ v, Line C N True s v
      ∧ (portChanged p old s = v
        ∨ (p = .one ∧ v.autoLifelineDue = true
          ∧ portChanged p old s = (startCopperMove .linkDown v).onPort .one Port.toSwitching)) := by
  by_cases hs : (s.port p).state = old
  · exact ⟨s, Line.refl s, .inl (portChanged_of_same hs)⟩
  · have hrep : Line C N True s (reported old (s.port p).state s) := by
      have h1 : Line C N True s (if old = .connected then askRelease (callsEnded s) else s) := by
        split
        · rw [callsEnded_of_no_drop h.retrain h.powerDrop]
          exact askRelease_line h.carries hn
        · exact Line.refl s
      unfold reported
      dsimp only
      split
      · exact h1.trans (stepUpCheck_line (h1.lks.2.2.2 h.carries))
      · exact h1
    refine ⟨_, hrep, ?_⟩
    rw [portChanged_of_new hs]
    by_cases hp : p = .one
    · rw [if_pos hp]
      by_cases hd : (reported old (s.port p).state s).autoLifelineDue = true
      · exact .inr ⟨hp, hd, autoLifeline_of_due hd⟩
      · exact .inl (autoLifeline_of_not_due hd)
    · exact .inl (if_neg hp)

/-! ## A port (R95) -/

/-- What the reset of a port leaves and brings about. -/
structure State.PortReset (C N : Prop) (p : PortId) (s t : State) : Prop where
  stands : Stands s t
  rests : Rests C N s t
  supply : t.rsc = s.rsc
  others : ∀ p' : PortId, p' ≠ p → t.port p' = s.port p' ∧ t.seq p' = s.seq p'
  run : (t.seq p).run = none
  emptied : (t.port p).digits = [] ∧ (t.port p).voice.capture = []
  state : (s.port p).state.isLocal = true →
    (t.port p).state = .idle ∨ (t.port p).state = .disabled ∨ (t.port p).state = .switching
  deferred : t.pac.relay.deferred = s.pac.relay.deferred

/-- What business of the link and the tests does behind the reset of a port. -/
theorem State.PortReset.line {p : PortId} (h : PortReset C N p s t) (h' : Line C N True t u) : PortReset C N p s u := by
  obtain ⟨hrsc, hports⟩ := h'.ports
  have hp := hports p
  exact ⟨h.stands.trans h'.stands, h.rests.trans h'.rests, hrsc.trans h.supply,
    fun p' hp' => ⟨(hports p').1.trans (h.others p' hp').1, (hports p').2.trans (h.others p' hp').2⟩,
    (congrArg Sequencer.run hp.2).trans h.run,
    ⟨(congrArg Port.digits hp.1).trans h.emptied.1,
      (congrArg (fun q : Port => q.voice.capture) hp.1).trans h.emptied.2⟩,
    fun hl => hp.1 ▸ h.state hl, (congrArg Relay.deferred h'.pac.relay).trans h.deferred⟩

/-- Auto-lifeline moves a relay at rest in LOCAL and takes HPC1 with it. -/
theorem State.PortReset.autoLifeline (h : PortReset C N .one s t) (hd : t.autoLifelineDue = true) :
    PortReset C N .one s ((startCopperMove .linkDown t).onPort .one Port.toSwitching) := by
  obtain ⟨hauto, -, hm, -⟩ := (autoLifelineDue_iff t).mp hd
  have h1 : Stands t ((startCopperMove .linkDown t).onPort .one Port.toSwitching) :=
    ⟨⟨rfl, rfl, rfl, rfl, rfl⟩, Mpt.Told.refl _,
      ⟨⟨rfl, rfl, rfl, rfl, rfl, rfl, rfl, rfl⟩, rfl, rfl, fun m h => (by rw [hm] at h; cases h),
        fun _ ha => (by rw [hauto] at ha; cases ha)⟩,
      fun _ => ⟨rfl, rfl, rfl, rfl⟩, rfl, Mcr.SameAttempts.refl _, rfl, rfl⟩
  have h2 : Rests C N t ((startCopperMove .linkDown t).onPort .one Port.toSwitching) :=
    ⟨⟨rfl, rfl⟩, Lks.SameOrders.refl _, Ltu.SameQueue.refl _, fun _ => Flg.SameCounts.refl _, fun _ h => ⟨h, id⟩⟩
  refine ⟨h.stands.trans h1, h.rests.trans h2, h.supply, fun p' hp' => ?_, h.run, h.emptied, fun _ => .inr (.inr rfl),
    h.deferred⟩
  cases p' with
  | one => exact absurd rfl hp'
  | two => exact h.others .two hp'

theorem clearWiring_line (p : PortId) (old : PortState) (s : State) : Line C N A s (clearWiring p old s) := by
  unfold clearWiring
  split
  · exact (clearFault_line _ _ _).trans (clearFault_line _ _ _)
  · exact Line.refl s

/-- HPC2 that is shed at once is DISABLED (R90). -/
theorem State.PortReset.shed {p : PortId} (h : PortReset C N p s t) : PortReset C N p s (shedAtIdle p t) := by
  rw [shedAtIdle_eq]
  split
  · have he : (t.onPort p fun q => { q with state := .disabled, cause := some .power })
        = setPort p { t.port p with state := .disabled, cause := some .power } (t.seq p) t := by cases p <;> rfl
    rw [he]
    refine ⟨h.stands.trans setPort_stands, h.rests.trans setPort_rests, ?_, fun p' hp' => ?_, ?_, ?_, fun _ => ?_, ?_⟩
    · exact Eq.trans (by cases p <;> rfl) h.supply
    · exact ⟨(setPort_other hp').1.trans (h.others p' hp').1, (setPort_other hp').2.trans (h.others p' hp').2⟩
    · rw [seq_setPort]
      exact h.run
    · rw [port_setPort]
      exact h.emptied
    · rw [port_setPort]
      exact .inr (.inl rfl)
    · exact Eq.trans (by cases p <;> rfl) h.deferred
  · exact h

/-- A port and its sequencer put in place as the reset wants them. -/
theorem portReset_setPort {p : PortId} {q : Port} {r : Sequencer} (hr : r.run = none) (hd : q.digits = [])
    (hv : q.voice.capture = []) (hs : (s.port p).state.isLocal = true → q.state = .idle) :
    PortReset C N p s (setPort p q r s) := by
  refine ⟨setPort_stands, setPort_rests, by cases p <;> rfl, fun p' hp' => setPort_other hp', ?_, ?_, fun hl => ?_,
    by cases p <;> rfl⟩
  · rw [seq_setPort]
    exact hr
  · rw [port_setPort]
    exact ⟨hd, hv⟩
  · rw [port_setPort]
    exact .inl (hs hl)

/-- What a port needs for its reset stands behind the link's business and behind the reset of a port. -/
theorem State.Resettable.of (h : Resettable s) (hr : t.rsc = s.rsc) (hk : s.lks.SameOrders t.lks) : Resettable t := by
  obtain ⟨-, h1, h2, h3⟩ := hk
  exact ⟨by rw [hr, h.bursts], by rw [hr, h.waits], h3 h.carries, h1 h.retrain, h2 h.powerDrop⟩

theorem portLines_resets (p : PortId) (h : Resettable s) (hcn : C → N) (hn : N → s.lks.state = .off) :
    PortReset C N p s (portLines p s) := by
  have hstart : s.onPort p Port.emptied = setPort p (s.port p).emptied (s.seq p) s := by cases p <;> rfl
  obtain ⟨q, r, hstop, hrun, hstate, hdigits, hvoice⟩ :=
    stopSeq_setPort (p := p) (q := (s.port p).emptied) (r := s.seq p) h.bursts h.waits
  rw [← hstart] at hstop
  have hd : q.digits = [] := hdigits
  have hv : q.voice.capture = [] := congrArg Voice.capture hvoice
  unfold portLines
  dsimp only
  rw [hstop]
  by_cases hl : (s.port p).state.isLocal = true
  · rw [if_pos hl, onPort_setPort]
    unfold enterIdleWith
    dsimp only
    rw [stopSeq_of_idle (by rw [seq_setPort, hrun]), onPort_setPort, port_setPort]
    simp only [id]
    generalize hq : Port.toIdle _ _ _ _ = q2
    have hidle : PortReset C N p s (setPort p q2 r s) := by
      refine portReset_setPort hrun ?_ ?_ fun _ => ?_
      · rw [← hq]
        exact hd
      · rw [← hq]
        exact hv
      · rw [← hq]
        rfl
    have hw := (hidle.line (clearWiring_line p q.state _)).shed
    generalize shedAtIdle p (clearWiring p q.state (setPort p q2 r s)) = w at hw
    have hoff : C ∨ N → w.lks.state = .off := fun h =>
      have n : N := h.elim hcn id
      (hw.rests.off n (hn n)).1
    obtain ⟨v, hline, he⟩ := portChanged_resets p q.state (h.of hw.supply hw.rests.lks) hoff
    rcases he with he | ⟨rfl, hdue, he⟩
    · rw [he]
      exact hw.line hline
    · rw [he]
      exact (hw.line hline).autoLifeline hdue
  · rw [if_neg hl]
    exact portReset_setPort hrun hd hv fun hl' => absurd hl' hl

end Sys2Proof.Machine
end

section
/-! PROOFS. Chapter 01: what a LINES reset leaves (R20, R199): its parts together, O59. -/

namespace Sys2Proof.Machine
open Sys2Proof

variable {C N : Prop} {s t u : State}
open State

/-! ## The link and the orders (R45) -/

/-- The link at a LINES reset: ended, and its orders as at a start. -/
def linkReset (s : State) : State := linkLines (endLoopback .reset s)

theorem linkReset_stands (s : State) : Stands s (linkReset s) := by
  have h1 : Stands s (linkEnded s) := (linkEnded_line (C := False) (N := False) (A := False) False.elim).stands
  have h2 : Stands (linkEnded s) (linkReset s) := ⟨⟨rfl, rfl, rfl, rfl, rfl⟩, Mpt.Told.refl _, Pac.SameSide.refl _ _,
    fun _ => ⟨rfl, rfl, rfl, rfl⟩, rfl, Mcr.SameAttempts.refl _, rfl, rfl⟩
  exact h1.trans h2

theorem linkReset_ports (s : State) : SamePorts s (linkReset s) := by
  obtain ⟨h1, h2⟩ := (linkEnded_line (s := s) (C := False) (N := False) (A := False) False.elim).ports
  refine ⟨h1, fun p => ?_⟩
  cases p with
  | one => exact h2 .one
  | two => exact h2 .two

/-- The relay, the queue of tests and the counts of the log are not the link's. -/
theorem linkReset_others (s : State) :
    (linkReset s).pac.relay = s.pac.relay ∧ s.ltu.SameQueue (linkReset s).ltu
      ∧ s.flg.SameCounts (linkReset s).flg := by
  have h := linkEnded_line (s := s) (C := True) (N := True) (A := False) False.elim
  exact ⟨h.pac.relay, h.ltu, h.counts trivial⟩

/-- The orders and the state of a link that a reset has ended. -/
def Lks.AtReset (enabled : Bool) (k : Lks) : Prop :=
  (k.enabled = enabled ∧ k.backoff = 15) ∧ k.retrainEnd = none ∧ k.powerDropEnd = none ∧ k.state ≠ .carrying

theorem Lks.AtReset.of {enabled : Bool} {k k' : Lks} (h : k.AtReset enabled) (h' : k.SameOrders k') :
    k'.AtReset enabled := by
  obtain ⟨⟨h1, h2⟩, h3, h4, h5⟩ := h
  obtain ⟨⟨k1, k2⟩, k3, k4, k5⟩ := h'
  exact ⟨⟨k1.trans h1, k2.trans h2⟩, k3 h3, k4 h4, k5 h5⟩

theorem linkReset_atReset (s : State) : (linkReset s).lks.AtReset false ∧ (linkReset s).lks.state = .off := by
  have h : (linkReset s).lks.state = .off := (linkEnded_ends s).1
  exact ⟨⟨⟨rfl, rfl⟩, rfl, rfl, fun hc => LinkState.noConfusion (h.symm.trans hc)⟩, h⟩

/-! ## The tests (R147) -/

/-- What the end of the tests leaves and brings about. -/
structure State.TestReset (s t : State) : Prop where
  stands : Stands s t
  ports : SamePorts s t
  relay : t.pac.relay = s.pac.relay
  absence : t.pac.absenceFrom = s.pac.absenceFrom ∧ t.pac.absenceTaken = s.pac.absenceTaken
  lks : s.lks.SameOrders t.lks
  queue : t.ltu.queue = []
  off : s.ltu.queue = [] ∨ s.pac.link.state = .free → s.lks.state = .off →
    t.lks.state = .off ∧ (s.pac.link.state = .free → t.pac.link.state = .free)

theorem testDone_line (r : TestResult) (s : State) : Line False N True s (testDone r s) :=
  (notice_line _ s).trans (resultFault_line r _)

/-- The queue emptied, the claim freed and the head's end told. -/
theorem queueReset_line (e : TestEntry) (s : State) :
    Line False N True (queueReset e s) (testDone (resetResult e s) (freeTest (queueReset e s))) :=
  (freeTest_line _).trans (testDone_line _ _)

theorem queueReset_stands (e : TestEntry) (s : State) : Stands s (queueReset e s) :=
  ⟨⟨rfl, rfl, rfl, rfl, rfl⟩, Mpt.Told.refl _, Pac.SameSide.refl _ _, fun _ => ⟨rfl, rfl, rfl, rfl⟩, rfl,
    Mcr.SameAttempts.refl _, rfl, rfl⟩

/-- A head that ends; a link that waits for the pair begins its attempt. -/
theorem testLines_line {e : TestEntry} {rest : List TestEntry} (hq : s.ltu.queue = e :: rest)
    (hn : N → s.lks.state = .off ∧ s.pac.link.state = .free) : Line False N True (queueReset e s) (testLines s) := by
  have h1 := queueReset_line (N := N) e s
  rw [testLines_of_head hq]
  refine h1.trans (reexamine_line fun n => ?_)
  obtain ⟨ho, hl⟩ := hn n
  rw [(h1.off n ho).2 hl]
  exact ClaimState.noConfusion

theorem testLines_resets (s : State) : TestReset s (testLines s) := by
  cases hq : s.ltu.queue with
  | nil =>
    rw [testLines_of_empty hq]
    exact ⟨Stands.refl s, ⟨rfl, fun _ => ⟨rfl, rfl⟩⟩, rfl, ⟨rfl, rfl⟩, Lks.SameOrders.refl _, hq, fun _ h => ⟨h, id⟩⟩
  | cons e rest =>
    have h := testLines_line (N := False) hq False.elim
    refine ⟨(queueReset_stands e s).trans h.stands, ⟨h.ports.1, fun p => ?_⟩, h.pac.relay, h.absence trivial, h.lks,
      h.ltu.2.1 rfl, fun hl ho => ?_⟩
    · cases p with
      | one => exact h.ports.2 .one
      | two => exact h.ports.2 .two
    · have hf : s.pac.link.state = .free := hl.resolve_left (by rw [hq]; exact List.cons_ne_nil _ _)
      obtain ⟨h1, h2⟩ := (testLines_line (N := True) hq fun _ => ⟨ho, hf⟩).off trivial ho
      exact ⟨h1, h2⟩

/-- The results behind the reset: the head's own, the others as they were. -/
theorem testLines_results {e : TestEntry} {rest : List TestEntry} (hq : s.ltu.queue = e :: rest) :
    (testLines s).ltu.results = s.ltu.results.setIfInBounds e.kind.ctorIdx (some (resetResult e s)) :=
  (testLines_line (N := False) hq False.elim).ltu.1.2

/-- A TEST claim that the head had is FREE, with its relay open. -/
theorem testLines_claim {e : TestEntry} {rest : List TestEntry} (hq : s.ltu.queue = e :: rest)
    (ht : s.pac.test.state ≠ .free) :
    let p := (testLines s).pac
    p.test.state = .free ∧ p.testInfo = none ∧ p.testRelayClosed = false ∧ p.waitEnd = none := by
  have hf : (freeTest (queueReset e s)).pac.test.state = .free ∧ (freeTest (queueReset e s)).pac.testInfo = none
      ∧ (freeTest (queueReset e s)).pac.testRelayClosed = false ∧ (freeTest (queueReset e s)).pac.waitEnd = none := by
    have he : freeTest (queueReset e s) = _ := if_neg ht
    rw [he]
    exact ⟨rfl, rfl, rfl, rfl⟩
  have hl : Line False False True (freeTest (queueReset e s)) (testLines s) := by
    rw [testLines_of_head hq]
    exact (testDone_line _ _).trans (reexamine_line False.elim)
  obtain ⟨h1, h2, h3, h4⟩ := hf
  obtain ⟨k1, k2, k3, k4⟩ := hl.test h1
  exact ⟨(congrArg Claim.state k1).trans h1, k2.trans h2, k3.trans h3, k4.trans h4⟩

/-! ## The pair, the ring supply and the ports -/

/-- The steps behind the tests. -/
def portsReset (s : State) : State := portLines .two (portLines .one (supplyLines (pairLines s)))

theorem portsReset_resets (hk : s.lks.AtReset false) (hcn : C → N) (hn : N → s.lks.state = .off) :
    let t := portsReset s
    Stands s t ∧ Rests C N s t ∧ t.rsc = s.rsc.emptied ∧ t.pac.relay.deferred = false
      ∧ ∀ p : PortId, (t.seq p).run = none ∧ ((t.port p).digits = [] ∧ (t.port p).voice.capture = [])
        ∧ ((s.port p).state.isLocal = true →
          (t.port p).state = .idle ∨ (t.port p).state = .disabled ∨ (t.port p).state = .switching) := by
  obtain ⟨a1, a2, ⟨a3, a4⟩, a5⟩ := pairLines_rests (C := C) (N := N) s
  obtain ⟨b1, b2, b3, b4, b5⟩ := supplyLines_rests (C := C) (N := N) (pairLines s)
  have h2 := a2.trans b2
  obtain ⟨-, k1, k2, k3⟩ := hk.of h2.lks
  have hready : Resettable (supplyLines (pairLines s)) := ⟨by rw [b3]; rfl, by rw [b3]; rfl, k3, k1, k2⟩
  have hone := portLines_resets (C := C) (N := N) .one hready hcn fun n => (h2.off n (hn n)).1
  have h3 := h2.trans hone.rests
  have htwo := portLines_resets (C := C) (N := N) .two (hready.of hone.supply hone.rests.lks) hcn
    fun n => (h3.off n (hn n)).1
  obtain ⟨o1, o2⟩ := htwo.others .one (by decide)
  have hport : ∀ p : PortId, (supplyLines (pairLines s)).port p = s.port p := fun p => (b4 p).1.trans (a4 p).1
  refine ⟨((a1.trans b1).trans hone.stands).trans htwo.stands, h3.trans htwo.rests,
    htwo.supply.trans (hone.supply.trans (b3.trans (congrArg Rsc.emptied a3))),
    htwo.deferred.trans (hone.deferred.trans ((congrArg Relay.deferred b5).trans a5)), fun p => ?_⟩
  cases p with
  | one =>
    unfold portsReset
    rw [o1, o2]
    exact ⟨hone.run, hone.emptied, fun hl => hone.state (by rwa [hport])⟩
  | two => exact ⟨htwo.run, htwo.emptied, fun hl => htwo.state (by rwa [(hone.others .two (by decide)).1, hport])⟩

/-! ## Autostart (R45) -/

theorem linkAutostart_of_not (h : s.sst.contents.control.autostart = false) : linkAutostart s = s :=
  if_neg (by simp [h])

/-- What autostart leaves and brings about. -/
structure State.Autostarted (s t : State) : Prop where
  stands : Stands s t
  ports : SamePorts s t
  relay : t.pac.relay = s.pac.relay
  absence : t.pac.absenceFrom = s.pac.absenceFrom ∧ t.pac.absenceTaken = s.pac.absenceTaken
  lks : s.lks.AtReset false → t.lks.AtReset s.sst.contents.control.autostart
  ltu : s.ltu.SameQueue t.ltu
  link : s.sst.contents.control.autostart = false ∨ s.psv.stage = .lifeline → t.pac.link = s.pac.link
  counts : s.sst.contents.control.autostart = false → s.flg.SameCounts t.flg

/-- The link is enabled; outside LIFELINE it begins an attempt. -/
theorem linkAutostart_autostarted (s : State) : Autostarted s (linkAutostart s) := by
  cases ha : s.sst.contents.control.autostart with
  | false =>
    rw [linkAutostart_of_not ha]
    exact ⟨Stands.refl s, ⟨rfl, fun _ => ⟨rfl, rfl⟩⟩, rfl, ⟨rfl, rfl⟩, fun h => ha ▸ h, Ltu.SameQueue.refl _,
      fun _ => rfl, fun _ => Flg.SameCounts.refl _⟩
  | true =>
    let v : State := { s with lks := { s.lks with enabled := true } }
    have ht : linkAutostart s = if v.psv.stage = .lifeline then v else beginAttempt .other v := if_pos ha
    have hl : Line False False True v (linkAutostart s) := by
      rw [ht]
      split
      · exact Line.refl v
      · exact beginAttempt_line _ _
    have hv : Stands s v := ⟨⟨rfl, rfl, rfl, rfl, rfl⟩, Mpt.Told.refl _, Pac.SameSide.refl _ _,
      fun _ => ⟨rfl, rfl, rfl, rfl⟩, rfl, Mcr.SameAttempts.refl _, rfl, rfl⟩
    refine ⟨hv.trans hl.stands, ⟨hl.ports.1, fun p => ?_⟩, hl.pac.relay, hl.absence trivial, fun h => ?_, hl.ltu,
      fun h => ?_, fun h => absurd (ha.symm.trans h) (by decide)⟩
    · cases p with
      | one => exact hl.ports.2 .one
      | two => exact hl.ports.2 .two
    · obtain ⟨⟨-, h2⟩, h3⟩ := h
      have hk : v.lks.AtReset true := ⟨⟨rfl, h2⟩, h3⟩
      rw [ha]
      exact hk.of hl.lks
    · rw [ht, if_pos (h.resolve_left (by rw [ha]; decide))]

/-! ## The reset -/

theorem linesReset_eq (s : State) : linesReset s = linkAutostart (portsReset (testLines (linkReset s))) := rfl

section Whole

variable (s)

/-- The state behind the end of the tests, and behind the ports. -/
def testsEnded : State := testLines (linkReset s)
def portsEnded : State := portsReset (testsEnded s)

theorem testsEnded_resets : TestReset (linkReset s) (testsEnded s) := testLines_resets _
theorem linesReset_autostarted : Autostarted (portsEnded s) (linesReset s) :=
  linesReset_eq s ▸ linkAutostart_autostarted _

theorem testsEnded_atReset : (testsEnded s).lks.AtReset false := (linkReset_atReset s).1.of (testsEnded_resets s).lks

/-- The ports' part without guards, and with them where the link is OFF then. -/
theorem portsEnded_resets (hcn : C → N) (hn : N → (testsEnded s).lks.state = .off) :
    Stands (testsEnded s) (portsEnded s) ∧ Rests C N (testsEnded s) (portsEnded s)
      ∧ (portsEnded s).rsc = (testsEnded s).rsc.emptied ∧ (portsEnded s).pac.relay.deferred = false
      ∧ ∀ p : PortId, ((portsEnded s).seq p).run = none
        ∧ (((portsEnded s).port p).digits = [] ∧ ((portsEnded s).port p).voice.capture = [])
        ∧ (((testsEnded s).port p).state.isLocal = true →
          ((portsEnded s).port p).state = .idle ∨ ((portsEnded s).port p).state = .disabled
            ∨ ((portsEnded s).port p).state = .switching) :=
  portsReset_resets (testsEnded_atReset s) hcn hn

theorem portsEnded_rests : Rests False False (testsEnded s) (portsEnded s) :=
  (portsEnded_resets (C := False) (N := False) s id False.elim).2.1

theorem portsEnded_stands : Stands s (portsEnded s) :=
  ((linkReset_stands s).trans (testsEnded_resets s).stands).trans
    (portsEnded_resets (C := False) (N := False) s id False.elim).1

theorem linesReset_stands : Stands s (linesReset s) := (portsEnded_stands s).trans (linesReset_autostarted s).stands

theorem linesReset_lks : (linesReset s).lks.AtReset s.sst.contents.control.autostart := by
  have h := (linesReset_autostarted s).lks ((testsEnded_atReset s).of (portsEnded_rests s).lks)
  rwa [(portsEnded_stands s).plain.2.1] at h

theorem linesReset_queue : (linesReset s).ltu.queue = [] :=
  (linesReset_autostarted s).ltu.2.1 ((portsEnded_rests s).ltu.2.1 (testsEnded_resets s).queue)

theorem linesReset_results : (linesReset s).ltu.results = (testsEnded s).ltu.results :=
  (linesReset_autostarted s).ltu.1.2.trans (portsEnded_rests s).ltu.1.2

theorem linesReset_loopback : (linesReset s).mcr.loopback = none := by
  have h0 : (linkReset s).mcr.loopback = none := (linkEnded_ends s).2.1
  have h1 := (testsEnded_resets s).stands.mcr.2 h0
  have h2 := (portsEnded_resets (C := False) (N := False) s id False.elim).1.mcr.2 h1
  exact (linesReset_autostarted s).stands.mcr.2 h2

theorem linesReset_rsc : (linesReset s).rsc = s.rsc.emptied := by
  obtain ⟨-, -, h3, -, -⟩ := portsEnded_resets (C := False) (N := False) s id False.elim
  rw [(linesReset_autostarted s).ports.1, h3, (testsEnded_resets s).ports.1, (linkReset_ports s).1]

theorem linesReset_deferred : (linesReset s).pac.relay.deferred = false :=
  (congrArg Relay.deferred (linesReset_autostarted s).relay).trans
    (portsEnded_resets (C := False) (N := False) s id False.elim).2.2.2.1

theorem linesReset_port (p : PortId) :
    ((linesReset s).seq p).run = none
      ∧ (((linesReset s).port p).digits = [] ∧ ((linesReset s).port p).voice.capture = [])
      ∧ ((s.port p).state.isLocal = true →
        ((linesReset s).port p).state = .idle ∨ ((linesReset s).port p).state = .disabled
          ∨ ((linesReset s).port p).state = .switching) := by
  obtain ⟨-, -, -, -, h⟩ := portsEnded_resets (C := False) (N := False) s id False.elim
  obtain ⟨h1, h2⟩ := (linesReset_autostarted s).ports.2 p
  obtain ⟨h3, h4, h5⟩ := h p
  rw [h1, h2]
  refine ⟨h3, h4, fun hl => h5 ?_⟩
  rwa [((testsEnded_resets s).ports.2 p).1, ((linkReset_ports s).2 p).1]

theorem linesReset_absence (h : s.lks.state = .carrying) :
    (linesReset s).pac.absenceFrom = some s.clock ∧ (linesReset s).pac.absenceTaken = false := by
  obtain ⟨a1, a2⟩ := (linesReset_autostarted s).absence
  obtain ⟨b1, b2⟩ := (portsEnded_rests s).absence
  obtain ⟨c1, c2⟩ := (testsEnded_resets s).absence
  obtain ⟨-, -, -, -, hk⟩ := linkEnded_ends s
  obtain ⟨d1, d2⟩ := hk h
  exact ⟨a1.trans (b1.trans (c1.trans d1)), a2.trans (b2.trans (c2.trans d2))⟩

/-- The claim of a link that is not to start again is FREE, unless the link was OFF with a claim. -/
theorem linesReset_link (h : s.sst.contents.control.autostart = false ∨ s.psv.stage = .lifeline)
    (hl : s.lks.state ≠ .off ∨ s.pac.link.state = .free) : (linesReset s).pac.link.state = .free := by
  have h0 : (linkReset s).pac.link.state = .free := (linkEnded_ends s).2.2.1 hl
  obtain ⟨h1, h2⟩ := (testsEnded_resets s).off (.inr h0) (linkReset_atReset s).2
  obtain ⟨-, hr, -⟩ := portsEnded_resets (C := False) (N := True) s False.elim fun _ => h1
  have h3 := (hr.off trivial h1).2 (h2 h0)
  obtain ⟨hp, hs, -⟩ := (portsEnded_stands s).plain
  rw [← hp, ← hs] at h
  exact (congrArg Claim.state ((linesReset_autostarted s).link h)).trans h3

/-- Behind a head that ended the TEST claim is FREE, its relay open. -/
theorem linesReset_claim (hq : s.ltu.queue ≠ []) (ht : s.pac.test.state ≠ .free) :
    let p := (linesReset s).pac
    p.test.state = .free ∧ p.testInfo = none ∧ p.testRelayClosed = false ∧ p.waitEnd = none := by
  obtain ⟨e, rest, hq⟩ := List.exists_cons_of_ne_nil hq
  obtain ⟨phase, hq1⟩ := (linkReset_others s).2.1.2.2 e rest hq
  have ht1 : (linkReset s).pac.test.state ≠ .free := (linkEnded_ends s).2.2.2.1 ht
  obtain ⟨h1, h2, h3, h4⟩ := testLines_claim hq1 ht1
  have hk : Stands (testsEnded s) (linesReset s) :=
    (portsEnded_resets (C := False) (N := False) s id False.elim).1.trans (linesReset_autostarted s).stands
  obtain ⟨k1, k2, k3, k4⟩ := hk.test h1
  exact ⟨(congrArg Claim.state k1).trans h1, k2.trans h2, k3.trans h3, k4.trans h4⟩

theorem linesReset_results_of_empty (hq : s.ltu.queue = []) : (linesReset s).ltu.results = s.ltu.results := by
  obtain ⟨⟨-, h1⟩, h2, -⟩ := (linkReset_others s).2.1
  rw [linesReset_results, testsEnded, testLines_of_empty (h2 hq), h1]

/-- The head's result says that the reset ended it; the other kinds' results stand. -/
theorem linesReset_results_of_head {e : TestEntry} {rest : List TestEntry} (hq : s.ltu.queue = e :: rest) :
    (∀ k : TestKind, k ≠ e.kind → (linesReset s).ltu.results[k.ctorIdx]? = s.ltu.results[k.ctorIdx]?)
      ∧ ∃ r, (linesReset s).ltu.results[e.kind.ctorIdx]? = some (some r) ∧ r.job = e.job
        ∧ r.abort = some .reset := by
  obtain ⟨⟨-, h1⟩, -, h2⟩ := (linkReset_others s).2.1
  obtain ⟨phase, hq1⟩ := h2 e rest hq
  have hr := (linesReset_results s).trans (testLines_results hq1)
  rw [h1] at hr
  rw [hr]
  refine ⟨fun k hk => Vector.getElem?_setIfInBounds_ne fun h => hk (testKind_ctorIdx_inj h).symm,
    resetResult { e with phase := phase } (linkReset s), Vector.getElem?_setIfInBounds_self_of_lt ?_, rfl, rfl⟩
  cases e.kind <;> decide

/-- Without a test's end and without an attempt the log is changed by clearings alone. -/
theorem linesReset_counts (hq : s.ltu.queue = []) (ha : s.sst.contents.control.autostart = false) :
    s.flg.SameCounts (linesReset s).flg := by
  obtain ⟨-, ⟨-, hq1, -⟩, h1⟩ := linkReset_others s
  have he : testsEnded s = linkReset s := testLines_of_empty (hq1 hq)
  obtain ⟨-, hr, -⟩ := portsEnded_resets (C := True) (N := True) s id fun _ => by
    rw [he]
    exact (linkReset_atReset s).2
  have h2 := hr.counts trivial
  rw [he] at h2
  obtain ⟨-, hs, -⟩ := (portsEnded_stands s).plain
  rw [← hs] at ha
  exact (h1.trans h2).trans ((linesReset_autostarted s).counts ha)

end Whole

/-- Settles O59: what every step leaves standing, by `State.Stands`; the rest step by step, in the order of the blocks. -/
theorem linesResetLeaves : Obligations.LinesResetLeaves := by
  refine ⟨fun s => ?_, fun s => ?_⟩
  · intro t
    obtain ⟨⟨hpsv, hsst, hclock, hpowered, hpending⟩, -, -, -, hretention, ⟨hmcr, -⟩, -, hjob⟩ := linesReset_stands s
    obtain ⟨⟨he, hb⟩, hr, hp, hc⟩ := linesReset_lks s
    obtain ⟨run1, ⟨digits1, capture1⟩, -⟩ := linesReset_port s .one
    obtain ⟨run2, ⟨digits2, capture2⟩, -⟩ := linesReset_port s .two
    have hrsc : t.rsc = s.rsc.emptied := linesReset_rsc s
    refine ⟨run1, run2, ?_, ⟨digits1, digits2, capture1, capture2⟩, ⟨linesReset_queue s, hjob⟩,
      ⟨linesReset_loopback s, hmcr⟩, ⟨he, hb, hr, hp, hc⟩, linesReset_deferred s, fun p => (linesReset_port s p).2.2,
      hpsv, hsst, hclock, hpowered, hpending, hretention⟩
    rw [hrsc]
    exact ⟨rfl, rfl, rfl, rfl, rfl⟩
  · intro t p autostart
    obtain ⟨-, hmpt, ⟨hside, hrelay⟩, htest, -⟩ := linesReset_stands s
    exact ⟨hside, hrelay, linesReset_link s, linesReset_claim s, fun _ hf => (htest hf).1, linesReset_absence s, hmpt,
      linesReset_results_of_empty s, fun e rest hq => linesReset_results_of_head s hq, linesReset_counts s⟩

end Sys2Proof.Machine
end
